-- ==== Sys2Proof/Word.lean ====
section
/-! DEFINITION. The word types of the block: 32-bit register words and 64-bit record words, and the plainest
conversions between numbers and bytes (R8 to R11). -/
namespace Sys2Proof

/-- One 32-bit register word (R11). -/
abbrev Word := BitVec 32

/-- One 64-bit record, slot or log word (R11, R103). -/
abbrev Rec := BitVec 64

/-- Two's complement value of the low `w` bits of `v` (R9). -/
def signed (w v : Nat) : Int :=
  let u := v % 2 ^ w
  if 2 ^ w ≤ 2 * u then (u : Int) - (2 ^ w : Nat) else (u : Int)

/-- The `w`-bit two's complement code of an integer (R9). -/
def unsigned (w : Nat) (i : Int) : Nat := (i % (2 ^ w : Nat)).toNat

/-- The bits `[lo + w - 1 : lo]` of a number (R9). -/
def bits (v lo w : Nat) : Nat := v / 2 ^ lo % 2 ^ w

/-- A counter of `w` bits that saturates at all ones (R65 and the other counter tables). -/
def satAdd (w a b : Nat) : Nat := min (a + b) (2 ^ w - 1)

/-- The bytes of a number in network byte order, most significant first (R11). -/
def bytesBE : Nat → Nat → List Nat
  | 0, _ => []
  | k + 1, v => v / 256 ^ k % 256 :: bytesBE k v

/-- Sum of a list of numbers. -/
def total (l : List Nat) : Nat := l.foldl (· + ·) 0

/-- The smallest multiple of `n` strictly above `t`: the next boundary (R6). -/
def nextMul (n t : Nat) : Nat := (t / n + 1) * n

/-- Ticks in one frame (R5). -/
def frameTicks : Nat := 65536

end Sys2Proof
end

