-- ==== Sys2Proof/Syntax.lean ====
section
/-! DEFINITION. The commands of the block, one constructor for each row of the spec's table of commands, and the plain
data they carry: which chip or link they name, packets, command frames, time messages and what a code or a converter
reports. -/
namespace Sys2Proof

/-- The two DC64s of a cluster. `u0` is wired to homing port 0 of every DF640 and `u1` to homing port 1 (R23). A cluster with
one DC64 is `u0` alone. -/
inductive DcId
  | u0 | u1
  deriving DecidableEq, Repr

/-- A chip: one of the DC64s, or the DF640 at a port. -/
inductive ChipRef
  | dc (u : DcId)
  | df (n : Fin 64)
  deriving DecidableEq, Repr

/-- One direction of one lane: uplink lane `l` of DF640 `n` (lanes 0 and 1 go to `u0`, 2 and 3 to `u1`, R23), the downlink
to receiver `d` of DF640 `n`, or the Causeway lane `l` received by unit `u`. -/
inductive Dir
  | up (n : Fin 64) (l : Fin 4)
  | down (n : Fin 64) (d : Fin 2)
  | cause (u : DcId) (l : Fin 4)
  deriving DecidableEq, Repr

/-- What of an Absyn packet is not its opcode and payload: where it came from, the address it was sent to, its header
fields and its tag (R402). DEDUCED (log entry 90). -/
structure Pkt where
  port : Nat
  udpLength : Nat
  srcIp : Nat
  srcUdp : Nat
  dstIp : Nat
  magic : Nat
  version : Nat
  flags : Nat
  session : Nat
  sequence : Nat
  opcode : Nat
  length : Nat
  target : Nat
  epoch : Nat
  status : Nat
  reserved : Nat
  tag : Nat
  deriving DecidableEq, Repr

/-- A received Ethernet frame that is no Absyn packet and no PTP message or ARP request of a row of its own, as R400 sorts it: whether its FCS and
size are good, its Ethertype; of an ARP frame whether it is a request and the address asked for; of an IPv4 frame its destination, its protocol, whether it has neither
options nor fragments, the UDP destination port and the UDP Length field. -/
structure EthFrame where
  intact : Bool
  etherType : Nat
  request : Bool
  asked : Nat
  dstIp : Nat
  protocol : Nat
  plain : Bool
  dstUdp : Nat
  udpLength : Nat
  deriving DecidableEq, Repr

/-- Where an edge comes from: a channel's own discriminator or ramp comparator, or a REFIN pin that rises (`high`) or falls (R94). -/
inductive EdgeSource
  | stage
  | pin (p : Fin 8) (high : Bool)
  deriving DecidableEq, Repr

/-- The latched state of a Reed line: one bit for each tap of phase A and of phase B that the edge has passed (R67). -/
structure Taps where
  a : BitVec 512
  b : BitVec 512
  deriving DecidableEq, Repr

/-- What is latched at a rising edge: the taps of the line, and the input current above the baseline just after the edge, in 0.25 µA (R43, R67). -/
structure EdgeSample where
  taps : Taps
  level : Int
  deriving DecidableEq, Repr

/-- A sample of V: the local tick, and the input current above the baseline there, in 0.25 µA (R43, R116). -/
structure VSample where
  tick : Nat
  level : Int
  deriving DecidableEq, Repr

/-- A gate that closes: its channel, and the charge that its integrator has collected, in fC (R50, R51). -/
structure GateEnd where
  ch : Fin 640
  charge : Nat
  deriving DecidableEq, Repr

/-- A frame boundary of the DF640 at port `n`, and whether the bias loop of its lines stands at an end of its range (R47, R69). -/
structure DfBoundary where
  n : Fin 64
  loopEnd : Bool
  deriving DecidableEq, Repr

/-- A line that a requester writes: its eight words and the mark each carries, 0 clean, 1 POISON, 2 TORN (R215, R326). -/
structure LineWrite where
  data : List Rec
  marks : List Nat
  deriving DecidableEq, Repr

/-- A replay: the milliseconds that it takes, and the copies that do not read back: root pages by age, the newest 0, and journal pages as twice the serial, plus 1
for the odd copy (R313). -/
structure ReplayRead where
  ms : Nat
  badRoots : List Nat
  badPages : List Nat
  deriving DecidableEq, Repr

/-- The header fields of an Ibast command frame that its opcode does not fix (R413). -/
structure FrameHdr where
  k : Nat
  epoch : Nat
  identity : Nat
  owner : Nat
  deriving DecidableEq, Repr

/-- What the reply to an ECHO returns: `DF.TIME.ECHO`, `PROBE[0]` and `[1]`, and `TXMARK_A` and `TXMARK_B` of lanes 0 and 2 (R171, R189, R417). -/
structure EchoReply where
  echo : Word
  probe0 : Word
  probe1 : Word
  mark0a : Word
  mark0b : Word
  mark1a : Word
  mark1b : Word
  deriving DecidableEq, Repr

/-- How a PTP message travels: over UDP/IPv4 or over IEEE 802.3 with the PTP Ethertype, to an address (R177). -/
inductive PtpVia
  | udp (ip : Nat)
  | ether (mac : Nat)
  deriving DecidableEq, Repr

/-- Which delay message answers a request: Delay_Resp, Pdelay_Resp, or the Pdelay_Resp_Follow_Up of a two-step peer (R177). -/
inductive DelayKind
  | resp
  | peer
  | peerFollowUp
  deriving DecidableEq, Repr

/-- A PTP message as the DC64 sees it (R177 to R179). Times are in units of 2⁻¹⁰ ps; `stamp` is the SFD stamp in fine. -/
structure PtpMsg where
  domain : Nat
  clockId : Nat
  portNumber : Nat
  twoStep : Bool
  sequence : Nat
  origin : Int
  correction : Int
  logInterval : Int
  stamp : Nat
  via : PtpVia
  deriving DecidableEq, Repr

/-- The grandmaster data set of an Announce, as compared by IEEE 1588-2019 clause 9.3.4 (R178). -/
structure Dataset where
  priority1 : Nat
  clockClass : Nat
  accuracy : Nat
  variance : Nat
  priority2 : Nat
  grandmaster : Nat
  stepsRemoved : Nat
  deriving DecidableEq, Repr

/-- What a read of one SRAM word finds (R322, R325, R328): the bits wrong among its 72, the bits wrong among the six of the three copies of its mark, and
the syndrome. -/
structure SramFind where
  wrong : BitVec 72
  marks : BitVec 6
  syndrome : Nat
  deriving DecidableEq, Repr

/-- How a DRAM codeword, as it is stored, differs from the plain codeword of its data: the DQ pins that differ in each of its 8 beats, first beat first,
and the 8 syndrome symbols that a reader computes (R322 to R324, R339). No beats: it does not differ. -/
structure DramFind where
  beats : List (BitVec 40)
  syndrome : Nat
  deriving DecidableEq, Repr

/-- One reply to the ownership READs: the epoch register and the clock source of a DF640 (R362). -/
structure OwnReply where
  n : Fin 64
  epoch : Nat
  valid : Bool
  source : Nat
  deriving DecidableEq, Repr

/-- The fuse words of a chip; a word that is uncorrectable on both reads is none (R430). The key words are used by a
DC64 only: the Absyn key as 32 bytes, the digest of the image-signing key as a number. -/
structure Fuses where
  dieId : Option Nat
  grade : Option Nat
  trim : Option Nat
  l1 : Option Nat
  l2 : Option Nat
  refinLat : Option Nat
  key : Option (List Nat)
  digest : Option Nat
  rxLat : List (Option Nat)
  txLat : List (Option Nat)
  deriving DecidableEq, Repr

/-- What the training of one flash channel finds (R298, R300, R315): the parameter pages' geometry (targets, LUNs per target, planes per LUN, each minus 1; native
pages per block, blocks per plane), the rates every device reports and the channel passes (bits 0 to 3 for 533 to 1,200 MT/s; none: the channel fails), and the
blocks with a factory bad mark. -/
structure FlashChan where
  targets : Nat
  luns : Nat
  planes : Nat
  pagesPerBlock : Nat
  blocks : Nat
  rates : BitVec 4
  factoryBad : List Nat
  deriving DecidableEq, Repr

/-- The commands of the block: one constructor for each row of the table of commands. -/
inductive Instr
  /-- `REGISTER_WRITE`. Requester `req` writes one register word of a chip (R14). -/
  | registerWrite (c : ChipRef) (req : Nat) (addr : Nat) (value : Word)
  /-- `RC_READ`. Requester `req` reads a register that holds RC fields (R17). -/
  | rcRead (c : ChipRef) (req : Nat) (addr : Nat)
  /-- `LO_READ_LATCH`. Requester `req` reads a `_LO` register and latches what its table names (R477). -/
  | loReadLatch (c : ChipRef) (req : Nat) (addr : Nat)
  /-- `LEADING_EDGE`. A rising edge, latched at local tick `m` (R43, R46, R68). -/
  | leadingEdge (n : Fin 64) (ch : Fin 640) (src : EdgeSource) (m : Nat) (x : EdgeSample)
  /-- `V_CROSSING`. V, low before, is sampled (R43, R116). -/
  | vCrossing (n : Fin 64) (ch : Fin 640) (x : VSample)
  /-- `VALIDATION_WINDOW_END`. The oldest undecided validation window of the channel ends (R46). -/
  | validationWindowEnd (n : Fin 64) (ch : Fin 640)
  /-- `GATE_CLOSE`. The gate of the hit in progress of a channel closes (R50, R51). -/
  | gateClose (n : Fin 64) (x : GateEnd)
  /-- `TRAILING_EDGE`. The trailing edge, latched at tick `m` with these taps (R53, R74). -/
  | trailingEdge (n : Fin 64) (ch : Fin 640) (src : EdgeSource) (m : Nat) (taps : Taps)
  /-- `TOT_SAT_TIMEOUT`. 1,088 ticks have passed since the leading edge (R53). -/
  | totSatTimeout (n : Fin 64) (ch : Fin 640)
  /-- `CLAMP_CONDUCTION`. The input clamp starts (`on`) or stops conducting (R41). -/
  | clampConduction (n : Fin 64) (ch : Fin 640) (on : Bool)
  /-- `BLC_LIMIT`. The baseline compensator reaches (`on`) or leaves its limit (R38). -/
  | blcLimit (n : Fin 64) (ch : Fin 640) (on : Bool)
  /-- `BLANKING_END`. The channel's blanking of R49 ends. -/
  | blankingEnd (n : Fin 64) (ch : Fin 640)
  /-- `SOURCE_CHANGE_BLANK_END`. The 8 ticks after an anchor source change end (R94). -/
  | sourceChangeBlankEnd (n : Fin 64) (k : Fin 8)
  /-- `CALIBRATION_WINDOW_END`. The channel's calibration window ends with the taps of the one-tick and the two-tick reference (R69, R81). -/
  | calibrationWindowEnd (n : Fin 64) (ch : Fin 640) (one two : Taps)
  /-- `REFRESH_TIMER_EXPIRY`. The refresh timer of an ordinary channel expires (R77). -/
  | refreshTimerExpiry (n : Fin 64) (ch : Fin 640)
  /-- `CAL_RETRY_TIMER`. 64 ticks have passed on a channel that is not ready (R85). -/
  | calRetryTimer (n : Fin 64) (ch : Fin 640)
  /-- `RETRY`. A 1 is written to `DF.REED.CH[n].RETRY` (R85). -/
  | retry (n : Fin 64) (ch : Fin 640)
  /-- `ANCHOR_DLL_LOCK`. The DLL of an anchor channel locks (R91). -/
  | anchorDllLock (n : Fin 64) (k : Fin 8)
  /-- `ANCHOR_DLL_UNLOCK`. The DLL of an anchor channel loses lock (R92). -/
  | anchorDllUnlock (n : Fin 64) (k : Fin 8)
  /-- `ANCHOR_REARM`. 2 ticks have passed since the anchor's trailing edge (R93). -/
  | anchorRearm (n : Fin 64) (k : Fin 8)
  /-- `ROOT_LOCK_LOSS`. The root of the DF640 loses lock (R84). -/
  | rootLockLoss (n : Fin 64)
  /-- `ROOT_LOCK_RETURN`. The root of the DF640 locks again (R84). -/
  | rootLockReturn (n : Fin 64)
  /-- `INJECTION_LAUNCH`. The launch tick of an armed slot; `levels`: channels with current at the input: whether T was high, and the current above the baseline in 0.25 µA (R60). -/
  | injectionLaunch (n : Fin 64) (slot : Fin 4) (levels : List (Nat × Bool × Int))
  /-- `HIT_COMPLETE`. The oldest completed record of the channel enters its derandomiser (R108). -/
  | hitComplete (n : Fin 64) (ch : Fin 640)
  /-- `DISPATCH`. One tick of the dispatcher: each quarter offers one record (R108, R109). -/
  | dispatch (n : Fin 64)
  /-- `BLOCK_FLUSH_TIMEOUT`. The oldest record of the open block has waited FLUSH ticks (R111). -/
  | blockFlushTimeout (n : Fin 64) (p : Fin 2)
  /-- `TUSSOCK_EVALUATION`. The end of slice s + 2 for the next slice s to evaluate (R118). -/
  | tussockEvaluation (n : Fin 64)
  /-- `LEDGER_EMIT`. Tick 16,384 of the frame (R129). -/
  | ledgerEmit (n : Fin 64)
  /-- `DF_FRAME_BOUNDARY`. The next frame boundary of a DF640 (R47, R69, R124). -/
  | dfFrameBoundary (x : DfBoundary)
  /-- `UPLINK_SLOT_SEND`. Uplink lane `l` of a DF640, or Causeway lane `l` of a DC64 (R135), sends one slot that is not a marker slot; a lane in TEST sends as many bits of its pattern (R140, R159). -/
  | uplinkSlotSend (c : ChipRef) (l : Fin 4)
  /-- `MARKER_SLOT`. Uplink lane `l` of a DF640, or Causeway lane `l` of a DC64, sends its marker slot, whose first bit leaves at local time `m`, `fine` (R141, R171, R175). -/
  | markerSlot (c : ChipRef) (l : Fin 4) (m fine : Nat)
  /-- `LANE_SLEEP`. A lane position has stayed at or below LOW for HOLD ticks (R160). -/
  | laneSleep (n : Fin 64) (p : Fin 2)
  /-- `WAKE_SLOT_SEND`. A woken lane sends its wake slot (R161). -/
  | wakeSlotSend (n : Fin 64) (l : Fin 4)
  /-- `UPLINK_BLOCK_RECEIVE`. Receiver 2n + j takes the `k`-th slot after a marker, as line bits, whose first bit crossed the ball at DT `t`, `fine` (R144, R194). -/
  | uplinkBlockReceive (u : DcId) (n : Fin 64) (j : Fin 2) (k : Nat) (line : List Bool) (t fine : Nat)
  /-- `SLEEP_SLOT_RECEIVE`. A receiver sees a sleep slot (R160). -/
  | sleepSlotReceive (u : DcId) (n : Fin 64) (j : Fin 2)
  /-- `WAKE_SLOT_RECEIVE`. A receiver sees a wake slot (R161). -/
  | wakeSlotReceive (u : DcId) (n : Fin 64) (j : Fin 2)
  /-- `MARKER_RECEIVE`. A receiver of unit `u` stamps a marker with its marker word (R149, R167). -/
  | markerReceive (u : DcId) (d : Dir) (word : Rec) (t fine : Nat)
  /-- `MARKER_MISS`. A receiver misses one marker or frame marker (R158). -/
  | markerMiss (d : Dir)
  /-- `DOWNLINK_RESTART`. Both uplink lanes of a port have been out of RUN for 4 marker periods (R158). -/
  | downlinkRestart (u : DcId) (n : Fin 64)
  /-- `LANE_LOCK`. A receiver in LOCK finds two markers at the right spacing (R153). -/
  | laneLock (d : Dir)
  /-- `LOCK_TIMEOUT`. A receiver in LOCK finds no markers in 4 periods (R153). -/
  | lockTimeout (d : Dir)
  /-- `TRAIN_PASS_END`. The PRBS31 pass ends with this error count; `inStep`: the checker stayed in step (R156). -/
  | trainPassEnd (d : Dir) (errors : Nat) (inStep : Bool)
  /-- `JUDGE_WORD_ACCEPT`. A judge word has been seen identically in two consecutive judge slots (R155). -/
  | judgeWordAccept (d : Dir) (word : Rec)
  /-- `DECISION_APPLY`. A ladder decision of unit `u` sent in four judge slots takes effect at the marker (R157). -/
  | decisionApply (u : DcId) (d : Dir)
  /-- `STEP_END`. A direction in STEP reaches its next marker (R153). -/
  | stepEnd (d : Dir)
  /-- `FAULT_TIMEOUT`. A direction has been in FAULT for 4,096 frames (R153). -/
  | faultTimeout (d : Dir)
  /-- `PORT_EN`. `DC.IBR.CFG[n].EN` is written (R164). -/
  | portEn (u : DcId) (n : Fin 64) (en : Bool)
  /-- `PORT_TEST`. `DC.IBR.CFG[n].TEST` is written (R159). -/
  | portTest (u : DcId) (n : Fin 64) (on : Bool)
  /-- `LANE_TEST`. `DF.LINK.TEST.LANES` is written (R159). -/
  | laneTest (n : Fin 64) (lanes : Nat)
  /-- `INJ_ERR`. A 1 is written to INJ_ERR of the DF640, or of port `n` of the DC64 (R159). -/
  | injErr (c : ChipRef) (n : Fin 64)
  /-- `DOWNLINK_WAKE`. The DC64 wakes a sleeping downlink (R162). -/
  | downlinkWake (u : DcId) (n : Fin 64)
  /-- `DC_FRAME_BOUNDARY`. The next frame boundary of the DC64 (R145). -/
  | dcFrameBoundary (u : DcId)
  /-- `DOWNLINK_BLOCK_SEND`. The DC64 sends one downlink slot (R147). -/
  | downlinkBlockSend (u : DcId) (n : Fin 64)
  /-- `DOWNLINK_BLOCK_RECEIVE`. Downlink receiver `d` takes the `k`-th slot of a frame period, as line bits (R148). -/
  | downlinkBlockReceive (n : Fin 64) (d : Fin 2) (k : Nat) (line : List Bool)
  /-- `FRAME_MARKER_RECEIVE`. Downlink receiver `d` finds a frame marker with this marker word; its first bit arrives at local time `m`, `fine` (R169, R171). -/
  | frameMarkerReceive (n : Fin 64) (d : Fin 2) (word : Rec) (m fine : Nat)
  /-- `EPOCH_SET_GO`. A 1 is written to `DC.TIME.SET_HI.GO` (R166). -/
  | epochSetGo (u : DcId)
  /-- `TRIG_IN_EDGE`. An edge of a TRIG_IN pin at DT `t`, `fine` (R244). -/
  | trigInEdge (u : DcId) (pin : Fin 4) (rising : Bool) (t fine : Nat)
  /-- `PPS_IN_EDGE`. A rising edge of PPS_IN (R187). -/
  | ppsInEdge (u : DcId) (t fine : Nat)
  /-- `PPS_OUT_EDGE`. The next instant at which PPS_OUT is due to rise (R188). -/
  | ppsOutEdge (u : DcId)
  /-- `PPS_OUT_END`. The pulse on PPS_OUT ends (R188). -/
  | ppsOutEnd (u : DcId)
  /-- `ALIGNMENT`. The firmware has run ECHOs of a DF640, with these replies in order, and acts on them (R173). -/
  | alignment (u : DcId) (n : Fin 64) (e : EchoReply) (more : List EchoReply)
  /-- `CLOCK_SOURCE_SWITCH`. The source downlink loses clock-recovery lock (R176). -/
  | clockSourceSwitch (n : Fin 64)
  /-- `PTP_SYNC_RECEIVE`. A Sync arrives (R184). -/
  | ptpSyncReceive (u : DcId) (port : Fin 2) (msg : PtpMsg)
  /-- `PTP_ANNOUNCE_RECEIVE`. An Announce arrives (R178). -/
  | ptpAnnounceReceive (u : DcId) (port : Fin 2) (msg : PtpMsg) (ds : Dataset)
  /-- `DELAY_REQ_SEND`. The active DC64 sends Delay_Req or Pdelay_Req; its SFD leaves at `t`, `fine` (R177, R180). -/
  | delayReqSend (u : DcId) (port : Fin 2) (tag t fine : Nat)
  /-- `PTP_DELAY_RESPONSE`. A delay response to the request `tag` arrives (R177). -/
  | ptpDelayResponse (u : DcId) (port : Fin 2) (msg : PtpMsg) (tag : Nat) (kind : DelayKind)
  /-- `TXQ_HEAD`. `DC.TIME.TXQ_HEAD` is read (R180). -/
  | txqHead (u : DcId) (req : Nat)
  /-- `MASTER_LOSS`. No message of the master has arrived for 3 announce intervals (R185). -/
  | masterLoss (u : DcId)
  /-- `MIRE_SLOT_WRITE`. The oldest staged block of a channel is written to the ring (R196, R197). -/
  | mireSlotWrite (u : DcId) (c : Fin 8)
  /-- `FRAME_INDEX_WRITE`. Tick 1,024 of the next frame whose index record is due (R203). -/
  | frameIndexWrite (u : DcId)
  /-- `DRAM_REFRESH`. A refresh of one channel that is due at DT `t`, at the start of the next other window (R206). -/
  | dramRefresh (u : DcId) (c : Fin 8) (t : Nat)
  /-- `RDL`. A requester reads and locks a 64-byte line of a target (R215). -/
  | rdl (u : DcId) (r : Fin 10) (target line : Nat)
  /-- `WR`. A requester writes a line its sequence has locked (R215, R326). -/
  | wr (u : DcId) (r : Fin 10) (target line : Nat) (x : LineWrite)
  /-- `WRU`. As WR, and the sequence ends (R215). -/
  | wru (u : DcId) (r : Fin 10) (target line : Nat) (x : LineWrite)
  /-- `UNL`. A locked sequence ends without writing (R215). -/
  | unl (u : DcId) (r : Fin 10)
  /-- `SEQUENCE_LEASE_EXPIRY`. The lease of a requester's sequence runs out (R216). -/
  | sequenceLeaseExpiry (u : DcId) (r : Fin 10)
  /-- `TORN_RELEASE`. A requester is reset or reports a fault (R217). -/
  | tornRelease (u : DcId) (r : Fin 10)
  /-- `CONTEXT_WRITE`. The host writes one word of the context window (R219). -/
  | contextWrite (u : DcId) (idx : Fin 40960) (w : Fin 16) (value : Word)
  /-- `RATE_SWEEP`. FOLD.FRAMES frames have passed since the last sweep (R220). -/
  | rateSweep (u : DcId)
  /-- `CALIBRATION_EVALUATION`. Tick 32,768 of the frame (R224). -/
  | calibrationEvaluation (u : DcId)
  /-- `WM_WAIT_EXPIRY`. WM_WAIT ticks have passed since the last slice of the group awaited (R233). -/
  | wmWaitExpiry (u : DcId)
  /-- `GROUP_EVALUATION`. The completed group is evaluated (R238). -/
  | groupEvaluation (u : DcId)
  /-- `SOFT`. The SOFT command (R245). -/
  | soft (u : DcId) (pkt : Pkt) (tag : Nat)
  /-- `WINDOW`. The WINDOW command (R245). -/
  | window (u : DcId) (pkt : Pkt) (start stop tag : Nat)
  /-- `ENGINE_EN`. `DC.TRG.CTRL.EN` is written (R241). -/
  | engineEn (u : DcId) (en : Bool)
  /-- `PATTERN_EN`. `DC.TRG.PCTRL[j]` is written (R241). -/
  | patternEn (u : DcId) (j : Fin 512) (value : Word)
  /-- `CAPTURE_READY`. DT reaches end + 31,744 of a capture; the extractor starts and reads that many slots at once (R254). -/
  | captureReady (u : DcId) (seq : Nat) (slots : Nat)
  /-- `FRAGMENT_CLOSE`. The extractor hands on the next closed fragment of a capture (R258). -/
  | fragmentClose (u : DcId) (seq : Nat)
  /-- `EXTRACTION_COMPLETE`. The extractor has read the last slot of a capture (R255). -/
  | extractionComplete (u : DcId) (seq : Nat)
  /-- `RATE_PERIOD_END`. A period of 1,024 frames ends (R265). -/
  | ratePeriodEnd (u : DcId)
  /-- `QUALIFIER_FRAGMENT_ARRIVAL`. The oldest fragment or tombstone handed on reaches the qualifier (R272). -/
  | qualifierFragmentArrival (u : DcId)
  /-- `MASK_LOAD`. A bit of `DC.QLF.MASK_CTRL.LOAD` is written (R277). -/
  | maskLoad (u : DcId) (m : Fin 8) (open' : Bool)
  /-- `CODE_RECORD`. The oldest released record is coded; `fault`: bytes of the coded body that reach the verify decoder changed, each as its index and the bits that differ (R269, R291). -/
  | codeRecord (u : DcId) (fault : List (Nat × Nat))
  /-- `LZD_FLUSH`. FLUSH0 or FLUSH1 is written (R289). -/
  | lzdFlush (u : DcId) (stream : Fin 2)
  /-- `FOLD_START`. A 1 is written to START of a Fold context (R293). -/
  | foldStart (u : DcId) (x : Fin 16)
  /-- `FOLD_DATA64`. `DATA_LO` of a Fold context is written (R293). -/
  | foldData64 (u : DcId) (x : Fin 16) (value : Word)
  /-- `FOLD_DATA32`. `DATA32` of a Fold context is written (R293). -/
  | foldData32 (u : DcId) (x : Fin 16) (value : Word)
  /-- `FOLD_VALUE_WRITE`. `VALUE_LO` or `VALUE_HI` of a Fold context is written (R293). -/
  | foldValueWrite (u : DcId) (x : Fin 16) (hi : Bool) (value : Word)
  /-- `RECORD_SUBMIT`. The oldest coded record is submitted to the Peat log (R304). -/
  | recordSubmit (u : DcId)
  /-- `PAGE_FLUSH_TIMEOUT`. The oldest byte of the open logical page has waited FLUSH frames (R308). -/
  | pageFlushTimeout (u : DcId)
  /-- `PAGE_PROGRAM_DONE`. The program of a logical page ends at DT `t` (R308). -/
  | pageProgramDone (u : DcId) (page : Nat) (ok : Bool) (t : Nat)
  /-- `JOURNAL_PAGE_PROGRAM`. The open journal page is full or FLUSH frames old (R309). -/
  | journalPageProgram (u : DcId)
  /-- `JOURNAL_PROGRAM_DONE`. The programs of both copies of the oldest journal page end (R310). -/
  | journalProgramDone (u : DcId) (okEven okOdd : Bool)
  /-- `CHECKPOINT_START`. 1 GiB of journal or CP_MIN minutes have passed (R311). -/
  | checkpointStart (u : DcId)
  /-- `CHECKPOINT_DONE`. The root page of the running checkpoint is programmed (R311). -/
  | checkpointDone (u : DcId)
  /-- `BLOCK_ERASE_DONE`. The erase of the block newly allocated on a channel ends (R314). -/
  | blockEraseDone (u : DcId) (c : Fin 8) (ok : Bool)
  /-- `BLOCK_RELOCATION`. The firmware takes its next step on a block of a channel named in the correction log (R315). -/
  | blockRelocation (u : DcId) (c : Fin 8) (block : Nat)
  /-- `PFAIL`. PFAIL_N falls, or the droop passes the level of the step to ÷4 (R312). -/
  | pfail (u : DcId)
  /-- `PEAT_RESUME`. The clock has left ÷4 and PFAIL_N is high (R449). -/
  | peatResume (u : DcId)
  /-- `PEAT_REPLAY`. The firmware replays the store (R313). -/
  | peatReplay (u : DcId) (x : ReplayRead)
  /-- `DRAIN_DATAGRAM`. The drain sends its next datagram of its own or the partner's log; `wrong`: the wrong bits of each BCH codeword of the flash page, where it is read (R316, R332). -/
  | drainDatagram (u : DcId) (partner : Bool) (wrong : List Nat)
  /-- `MAP_REBUILD`. The firmware rebuilds the map entry of the page the drain stopped at, and the page is read again with these wrong bits (R316, R332). -/
  | mapRebuild (u : DcId) (wrong : List Nat)
  /-- `ACK_WAIT_TIMEOUT`. RELEASE has not moved for ACK_WAIT frames (R318). -/
  | ackWaitTimeout (u : DcId)
  /-- `PEAT_STORE_EN`. `DC.PEAT.CTRL` is written (R307). -/
  | peatStoreEn (u : DcId) (value : Word)
  /-- `PEAT_CREDIT`. The PEAT_CREDIT command (R317). -/
  | peatCredit (u : DcId) (pkt : Pkt) (id limit : Nat)
  /-- `PEAT_ACK`. The PEAT_ACK command (R317). -/
  | peatAck (u : DcId) (pkt : Pkt) (id pos : Nat)
  /-- `PEAT_REWIND`. The PEAT_REWIND command (R317). -/
  | peatRewind (u : DcId) (pkt : Pkt) (id pos : Nat)
  /-- `PEAT_CHECKPOINT`. The PEAT_CHECKPOINT command (R317). -/
  | peatCheckpoint (u : DcId) (pkt : Pkt)
  /-- `PEAT_FORMAT`. The PEAT_FORMAT command (R317). -/
  | peatFormat (u : DcId) (pkt : Pkt) (word : Nat)
  /-- `PEAT_FENCE`. The PEAT_FENCE command (R317). -/
  | peatFence (u : DcId) (pkt : Pkt) (index : Nat)
  /-- `SRAM_SCRUB`. The walker reads one SRAM word and finds this (R328, R329). -/
  | sramScrub (u : DcId) (array : Fin 10) (word : Nat) (found : SramFind)
  /-- `BUCKET_LEAK`. LEAK frames have passed on an SRAM bucket (R330). -/
  | bucketLeak (u : DcId) (array : Fin 10)
  /-- `SCRUB_READ`. The scrubber reads one codeword of a channel, 32-byte aligned; `found`: how it differs by now (R323, R340). -/
  | scrubRead (u : DcId) (c : Fin 8) (addr : Nat) (found : DramFind)
  /-- `MEM_HEAL`. The MEM_HEAL command (R341). -/
  | memHeal (u : DcId) (pkt : Pkt) (c start len : Nat)
  /-- `MEM_RETIRE`. The MEM_RETIRE command (R343). -/
  | memRetire (u : DcId) (pkt : Pkt) (c page : Nat)
  /-- `LOG_ACK`. `DC.MEM.LOG_ACK` is written (R339). -/
  | logAck (u : DcId) (index : Nat)
  /-- `TMR_WALK`. The triple-redundancy walker rewrites that many disagreeing copies (R345). -/
  | tmrWalk (c : ChipRef) (copies : Nat)
  /-- `CAUSEWAY_BLOCK_RECEIVE`. A Causeway receiver of unit `u` takes a block slot (R354). -/
  | causewayBlockReceive (u : DcId) (l : Fin 4) (k : Nat) (line : List Bool) (t fine : Nat)
  /-- `HEARTBEAT_CHECK`. Tick 16,384 of the frame (R355). -/
  | heartbeatCheck (u : DcId)
  /-- `ROLE_TIMEOUT`. The listening time of a paired unit in CLUSTER_UP ends (R353). -/
  | roleTimeout (u : DcId)
  /-- `STATE_COPY_SEND`. The active unit sends the copy of the frame before (R357). -/
  | stateCopySend (u : DcId)
  /-- `COPY_DEADLINE`. Tick 8,192 of the frame, at the standby (R357). -/
  | copyDeadline (u : DcId)
  /-- `ACK_DEADLINE`. Tick 16,384 of the frame, at the active unit (R361). -/
  | ackDeadline (u : DcId)
  /-- `OWNERSHIP_CHECK`. The replies of one frame to the ownership READs (R362). -/
  | ownershipCheck (u : DcId) (replies : List OwnReply)
  /-- `TAKEOVER`. The takeover boundary of a standby (R365). -/
  | takeover (u : DcId)
  /-- `HANDOVER`. The next step of a handover at its time (R368). -/
  | handover (u : DcId)
  /-- `GRATUITOUS_ARP`. The next gratuitous ARP frame is due (R365). -/
  | gratuitousArp (u : DcId)
  /-- `PAIR_HANDOVER`. The PAIR_HANDOVER command (R369). -/
  | pairHandover (u : DcId) (pkt : Pkt)
  /-- `PAIR_FORCE`. The PAIR_FORCE command (R369). -/
  | pairForce (u : DcId) (pkt : Pkt) (seq : Nat)
  /-- `HK_CONVERSION_SLOT`. The sequencer runs its next slot: the raw code of each conversion, in 3-wire form of P − N in `codes` and of EXC − P in `wires`, and whether the port clamp conducted (R374, R379). -/
  | hkConversionSlot (n : Fin 64) (codes wires : List Int) (clamped : Bool)
  /-- `HK_EN`. `DF.HK.CTRL` is written (R378). -/
  | hkEn (n : Fin 64) (value : Word)
  /-- `HK_CALIBRATION`. A 1 is written to `DF.HK.CTRL.CAL` (R386). -/
  | hkCalibration (n : Fin 64)
  /-- `HK_CALIBRATION_DONE`. The 16 points of a self-calibration are done: offset in LSB and gain error in ppm at each of the eight gains (R386). -/
  | hkCalibrationDone (n : Fin 64) (points : List (Int × Int))
  /-- `HK_PORT_CLAMP`. The clamp of a port pin starts or stops conducting (R375). -/
  | hkPortClamp (n : Fin 64) (port : Fin 8) (on : Bool)
  /-- `BIAS_EVALUATION`. A frame boundary whose number is a multiple of EVAL (R392). -/
  | biasEvaluation (n : Fin 64)
  /-- `MONITOR_UPDATE`. A monitor output updates; `age`: time since the last new result of its source, in 10 ms (R394, R395). -/
  | monitorUpdate (n : Fin 64) (m : Fin 2) (age : Nat)
  /-- `ARP_REQUEST`. An ARP request for an address (R399). -/
  | arpRequest (u : DcId) (port : Fin 2) (ip asker : Nat)
  /-- `STRANGER_FRAME`. A frame of no row of its own arrives: it is dropped and counted under the first reason of R400 that applies. -/
  | strangerFrame (u : DcId) (port : Fin 2) (frame : EthFrame)
  /-- `RATE_LIMIT_LEAK`. 1 ms has passed (R401). -/
  | rateLimitLeak (u : DcId)
  /-- `ABSYN_READ`. The READ command of the DC64 (R411). -/
  | absynRead (u : DcId) (pkt : Pkt) (addr count : Nat)
  /-- `ABSYN_WRITE`. The WRITE command of the DC64 (R411). -/
  | absynWrite (u : DcId) (pkt : Pkt) (addr : Nat) (value : Word)
  /-- `ABSYN_WRITE_BLOCK`. The WRITE_BLOCK command of the DC64 (R411, R479). -/
  | absynWriteBlock (u : DcId) (pkt : Pkt) (addr : Nat) (values : List Word)
  /-- `SESSION_OPEN`. The SESSION_OPEN command (R406). -/
  | sessionOpen (u : DcId) (pkt : Pkt) (nonce : Nat)
  /-- `SESSION_CLOSE`. The SESSION_CLOSE command (R411). -/
  | sessionClose (u : DcId) (pkt : Pkt)
  /-- `NOTICE_ACK`. The NOTICE_ACK command (R423). -/
  | noticeAck (u : DcId) (pkt : Pkt) (seq : Nat)
  /-- `NOTICE_RESEND`. RESEND frames have passed (R423). -/
  | noticeResend (u : DcId)
  /-- `FORWARDED`. A packet for a DF640 (R412). -/
  | forwarded (u : DcId) (pkt : Pkt) (params : List Rec)
  /-- `COMMAND_FRAME_SEND`. The DC64 sends the next queued command frame of a port (R414). -/
  | commandFrameSend (u : DcId) (n : Fin 64)
  /-- `COMMAND_RETRY`. 4 frames have passed without a complete reply (R414). -/
  | commandRetry (u : DcId) (n : Fin 64)
  /-- `IBAST_READ`. The Ibast READ command frame (R417). -/
  | ibastRead (n : Fin 64) (f : FrameHdr) (addr count : Nat)
  /-- `IBAST_WRITE`. The Ibast WRITE command frame (R417). -/
  | ibastWrite (n : Fin 64) (f : FrameHdr) (addr : Nat) (value : Word)
  /-- `IBAST_WRITE_BLOCK`. The Ibast WRITE_BLOCK command frame (R417). -/
  | ibastWriteBlock (n : Fin 64) (f : FrameHdr) (addr : Nat) (values : List Word)
  /-- `LOCK`. The Ibast LOCK command frame (R418). -/
  | lock (n : Fin 64) (f : FrameHdr)
  /-- `COMMIT`. The Ibast COMMIT command frame (R419). -/
  | commit (n : Fin 64) (f : FrameHdr)
  /-- `ABANDON`. The Ibast ABANDON command frame (R421). -/
  | abandon (n : Fin 64) (f : FrameHdr)
  /-- `LEASE_EXPIRY`. The next frame boundary, at which the lease of the lock falls by 1 (R420). -/
  | leaseExpiry (n : Fin 64)
  /-- `TAKE`. The Ibast TAKE command frame, on downlink `d` (R362). -/
  | take (n : Fin 64) (f : FrameHdr) (d : Fin 2)
  /-- `SYNC`. The Ibast SYNC command frame (R417). -/
  | sync (n : Fin 64) (f : FrameHdr)
  /-- `ARM`. The Ibast ARM command frame (R417). -/
  | arm (n : Fin 64) (f : FrameHdr)
  /-- `DISARM`. The Ibast DISARM command frame (R417). -/
  | disarm (n : Fin 64) (f : FrameHdr)
  /-- `INJECT`. The Ibast INJECT command frame (R57). -/
  | inject (n : Fin 64) (f : FrameHdr) (armMask stopMask : Nat)
  /-- `HK_INJECT`. The Ibast HK_INJECT command frame (R385). -/
  | hkInject (n : Fin 64) (f : FrameHdr) (a b : Word)
  /-- `LINK_STEP`. The Ibast LINK_STEP command frame (R417). -/
  | linkStep (n : Fin 64) (f : FrameHdr) (lanes downs : Nat) (restart : Bool)
  /-- `SLEEP`. The Ibast SLEEP command frame (R417). -/
  | sleep (n : Fin 64) (f : FrameHdr)
  /-- `DORMANT`. The Ibast DORMANT command frame (R441). -/
  | dormant (n : Fin 64) (f : FrameHdr)
  /-- `WAKE`. The Ibast WAKE command frame (R417). -/
  | wake (n : Fin 64) (f : FrameHdr)
  /-- `ECHO`. The Ibast ECHO command frame (R171). -/
  | echo (n : Fin 64) (f : FrameHdr)
  /-- `ECHO_TIMEOUT`. 64 frames have passed since an ECHO (R417). -/
  | echoTimeout (n : Fin 64)
  /-- `POWER_ON`. A supply falls below its power-on level (R443). -/
  | powerOn (c : ChipRef)
  /-- `BROWN_OUT`. The core supply falls below the brown-out level (R443). -/
  | brownOut (c : ChipRef)
  /-- `PIN_RESET`. RESET_N has been low for 1 µs (R443). -/
  | pinReset (n : Fin 64)
  /-- `SOFT_RESET`. A RESET register is written (R443). -/
  | softReset (c : ChipRef) (value : Word)
  /-- `POWER_RELEASE`. The supplies have been valid for the time required; for a DC64 the straps sampled (R428, R490). -/
  | powerRelease (c : ChipRef) (pref pfailHigh : Bool)
  /-- `FUSE_LOAD`. The fuse words are loaded; a word that is uncorrectable on both reads is none (R430). -/
  | fuseLoad (c : ChipRef) (fuses : Fuses)
  /-- `IMAGE_LOAD`. The signed image is read from SPI, or taken from the partner, as bytes (R432). -/
  | imageLoad (u : DcId) (image : List Nat) (fromPartner : Bool)
  /-- `IMAGE_RETRY`. 2 s have passed without a valid image (R434). -/
  | imageRetry (u : DcId)
  /-- `SELFTEST`. The checker self-test ends with this FAIL word (R347). -/
  | selftest (u : DcId) (fail : Nat)
  /-- `DRAM_TRAIN`. DDR5 training ends: the capacity code of each channel, or none for a channel that fails (R199). -/
  | dramTrain (u : DcId) (caps : List (Option Nat))
  /-- `FILL`. The power-on fill ends (R346). -/
  | fill (u : DcId) (ms : Nat)
  /-- `CORE_START`. The boot ROM has read the image again; the flash training result (R435, R298). -/
  | coreStart (u : DcId) (image : List Nat) (flash : Option (List FlashChan))
  /-- `GO_CLUSTER`. A 1 is written to `DC.BOOT.CTRL.GO_CLUSTER` (R436). -/
  | goCluster (u : DcId)
  /-- `GO_RUN`. A 1 is written to `DC.BOOT.CTRL.GO_RUN` (R438). -/
  | goRun (u : DcId)
  /-- `FRONT_END_CONFIG`. The firmware sends TAKE and the front-end section to a DF640 in CONFIG (R437). -/
  | frontEndConfig (u : DcId) (n : Fin 64)
  /-- `DONE`. A 1 is written to `DF.BOOT.CTRL.DONE` (R439). -/
  | done (n : Fin 64)
  /-- `LISTEN_TIMEOUT`. 4 ms have passed in LISTEN on one receiver (R439). -/
  | listenTimeout (n : Fin 64)
  /-- `SAFE_ENTRY`. No downlink has been in RUN for 4,096 frames (R442). -/
  | safeEntry (n : Fin 64)
  /-- `DROOP_STEP`. A droop reading in millivolts (R446). -/
  | droopStep (c : ChipRef) (mv : Nat)
  /-- `DROOP_RECOVER`. HOLD µs have passed above the level being left (R446). -/
  | droopRecover (c : ChipRef)
  /-- `LEDGER_SETTLEMENT`. Tick 32,768 of the frame after the one settled is reached with six LEDGER records held (R457). -/
  | ledgerSettlement (u : DcId) (n : Fin 64)
  /-- `LEDGER_STALE`. No LEDGER record has arrived for LEDGER_WAIT frames (R460). -/
  | ledgerStale (u : DcId) (n : Fin 64)
  /-- `SNAP`. A 1 is written to `DC.LDG.CTRL.SNAP` (R470). -/
  | snap (u : DcId)
  /-- `PATTERN_WORD_CHECK`. A checker receives 64 pattern bits: receiver 2n + j of a DC64, or downlink receiver `j` of a DF640 (R159). -/
  | patternWordCheck (c : ChipRef) (n : Fin 64) (j : Fin 2) (word : Rec)
  /-- `PHASE_SLEW_END`. The PHASE slew reaches its target (R170). -/
  | phaseSlewEnd (n : Fin 64)
  /-- `PTP_FOLLOW_UP_RECEIVE`. A Follow_Up of a two-step master arrives (R177). -/
  | ptpFollowUpReceive (u : DcId) (port : Fin 2) (msg : PtpMsg)
  /-- `ETHERNET_PORT_LINK_CHANGE`. A 100GBASE-R port comes up or goes down (R316). -/
  | ethernetPortLinkChange (u : DcId) (port : Fin 2) (up : Bool)
  /-- `DRAM_TEMPERATURE_REPORT`. Mode register 4 of a device reports above, or not above, 85 °C (R207). -/
  | dramTemperatureReport (u : DcId) (c : Fin 8) (hot : Bool)
  /-- `CORE_RESTART_DONE`. The restart of the Cybriax core completes (R334). -/
  | coreRestartDone (u : DcId)
  /-- `MEM_HEAL_COMPLETE`. The running MEM_HEAL reaches the end of its range (R341). -/
  | memHealComplete (u : DcId)
  deriving DecidableEq, Repr

end Sys2Proof
end

