-- ==== Sys2Proof/Decode.lean ====
section
/-! DEFINITION. The command that a word spells by the bits of the table of commands. The table gives bits to none of its rows. -/
namespace Sys2Proof

/-- No row of the table of commands has bits, so no word spells a command (log entry 3). -/
def decodeTableWord (_nbits _w : Nat) : Option Instr := none

end Sys2Proof
end

