-- ==== Sys2Proof/Machine/Crypto.lean ====
section
/-! DEFINITION. The standard algorithms the spec names: SHA-256, HMAC-SHA-256 (R403) and ECDSA P-256 verification (R432),
over lists of bytes. -/
namespace Sys2Proof.Machine

/-- The primes below 312, of which there are 64. -/
def smallPrimes : List Nat := (List.range 312).filter fun n => decide (2 ≤ n) && [2, 3, 5, 7, 11, 13, 17].all fun p => decide (n < p * p) || n % p != 0

/-- The greatest number below 2 to the first argument, plus `got`, whose `k`-th power is at most `x`. -/
def rootBelow (k x : Nat) : Nat → Nat → Nat
  | 0, got => got
  | b + 1, got => rootBelow k x b (if (got + 2 ^ b) ^ k ≤ x then got + 2 ^ b else got)

/-- The first 32 bits of the fraction of the `k`-th root of `p`: of the square roots of the first 8 primes SHA-256 has its initial hash, of the cube roots of the first
64 its round constants. PRESUMED (log entry 91). -/
def rootFraction (k p : Nat) : Nat := rootBelow k (p * 2 ^ (32 * k)) 38 0 % 2 ^ 32

/-- A number from bytes, most significant first (R11). -/
def ofBytesBE (l : List Nat) : Nat := l.foldl (fun a b => 256 * a + b % 256) 0

/-- A 32-bit number turned right by `n`, and the exclusive or of several turns of it. -/
def turn32 (x n : Nat) : Nat := x / 2 ^ n + x % 2 ^ n * 2 ^ (32 - n)
def turns (x : Nat) (l : List Nat) : Nat := l.foldl (fun s n => s ^^^ turn32 x n) 0

/-- The compression of one block: the eight working numbers, and the 16 numbers of the schedule from the one in use on. -/
structure Digesting where
  v : List Nat
  w : List Nat

/-- One round with its constant: the schedule moves on by one number. -/
def Digesting.round (x : Digesting) (k : Nat) : Digesting :=
  let v (i : Nat) : Nat := x.v.getD i 0
  let w (i : Nat) : Nat := x.w.getD i 0
  let mixed := v 7 + turns (v 4) [6, 11, 25] + (v 6 ^^^ (v 4 &&& (v 5 ^^^ v 6))) + k + w 0
  let most := turns (v 0) [2, 13, 22] + ((v 0 &&& v 1) ||| (v 2 &&& (v 0 ||| v 1)))
  let next := w 0 + (turns (w 1) [7, 18] ^^^ w 1 / 8) + w 9 + (turns (w 14) [17, 19] ^^^ w 14 / 1024)
  { v := (mixed + most) % 2 ^ 32 :: v 0 :: v 1 :: v 2 :: (v 3 + mixed) % 2 ^ 32 :: (x.v.drop 4).take 3, w := x.w.drop 1 ++ [next % 2 ^ 32] }

/-- The hash numbers after a block of 16 numbers. -/
def digestBlock (h block : List Nat) : List Nat :=
  let x := (smallPrimes.map (rootFraction 3)).foldl Digesting.round { v := h, w := block }
  List.zipWith (fun a b => (a + b) % 2 ^ 32) h x.v

/-- The hash numbers after `n` blocks. -/
def digestBlocks : Nat → List Nat → List Nat → List Nat
  | 0, h, _ => h
  | n + 1, h, m => digestBlocks n (digestBlock h ((List.range 16).map fun i => ofBytesBE ((m.drop (4 * i)).take 4))) (m.drop 64)

/-- SHA-256 of a list of bytes: 32 bytes. -/
def sha256 (m : List Nat) : List Nat :=
  let p := m ++ [128] ++ List.replicate ((119 - m.length % 64) % 64) 0 ++ bytesBE 8 (8 * m.length)
  (digestBlocks (p.length / 64) ((smallPrimes.take 8).map (rootFraction 2)) p).flatMap (bytesBE 4)

/-- HMAC-SHA-256 with a key of at most 64 bytes. -/
def hmac (key msg : List Nat) : List Nat :=
  let k := key ++ List.replicate (64 - key.length) 0
  sha256 (k.map (· ^^^ 0x5c) ++ sha256 (k.map (· ^^^ 0x36) ++ msg))

/-- The Absyn tag: the first 16 bytes of the HMAC (R403). -/
def absynTag (key msg : List Nat) : List Nat := (hmac key msg).take 16

/-- The field prime, curve coefficient, base point and order of P-256. -/
def p256p : Nat := 0xffffffff00000001000000000000000000000000ffffffffffffffffffffffff
def p256b : Nat := 0x5ac635d8aa3a93e7b3ebbd55769886bc651d06b0cc53b0f63bce3c3e27d2604b
def p256g : Nat × Nat :=
  (0x6b17d1f2e12c4247f8bce6e563a440f277037d812deb33a0f4a13945d898c296,
   0x4fe342e2fe1a7f9b8ee7eb4a7c0f9e162bce33576b315ececbb6406837bf51f5)
def p256n : Nat := 0xffffffff00000000ffffffffffffffffbce6faada7179e84f3b9cac2fc632551

/-- `b ^ e` modulo `m`, by the `k` low bits of `e`. -/
def powMod (m : Nat) : Nat → Nat → Nat → Nat
  | 0, _, _ => 1 % m
  | k + 1, b, e => let r := powMod m k (b * b % m) (e / 2); if e % 2 = 1 then r * b % m else r

/-- The inverse modulo a prime. -/
def invMod (m a : Nat) : Nat := powMod m 256 (a % m) (m - 2)

/-- A difference modulo the field prime. -/
def subP (a b : Nat) : Nat := (a + p256p - b % p256p) % p256p

/-- The sum of two points of the curve; none is the point at infinity. -/
def addPt : Option (Nat × Nat) → Option (Nat × Nat) → Option (Nat × Nat)
  | none, q => q
  | q, none => q
  | some (x1, y1), some (x2, y2) =>
    if x1 = x2 ∧ (y1 + y2) % p256p = 0 then none
    else
      let l := if x1 = x2 then (3 * x1 * x1 + (p256p - 3)) % p256p * invMod p256p (2 * y1) % p256p
        else subP y2 y1 * invMod p256p (subP x2 x1) % p256p
      let x3 := subP (l * l % p256p) (x1 + x2)
      some (x3, subP (l * subP x1 x3 % p256p) y1)

/-- A multiple of a point, by the `k` low bits of the factor. -/
def mulPt : Nat → Nat → Option (Nat × Nat) → Option (Nat × Nat)
  | 0, _, _ => none
  | k + 1, e, q => let r := mulPt k (e / 2) (addPt q q); if e % 2 = 1 then addPt r q else r

/-- Whether a point lies on the curve. -/
def onCurve (q : Nat × Nat) : Bool :=
  decide (q.1 < p256p ∧ q.2 < p256p) && (q.2 * q.2 % p256p == (q.1 * q.1 * q.1 + (p256p - 3) * q.1 + p256b) % p256p)

/-- ECDSA P-256: whether (r, s) signs the digest `z` under the key. -/
def ecdsaOk (key : Nat × Nat) (r s z : Nat) : Bool :=
  if onCurve key ∧ 0 < r ∧ r < p256n ∧ 0 < s ∧ s < p256n then
    let w := invMod p256n s
    match addPt (mulPt 256 (z * w % p256n) (some p256g)) (mulPt 256 (r * w % p256n) (some key)) with
    | none => false
    | some q => q.1 % p256n == r
  else false

end Sys2Proof.Machine
end

