-- ==== Sys2Proof/Machine/FMap.lean ====
section
/-! DEFINITION. Sparse data by key: a list of key and value pairs in one canonical form (keys strictly rising, no entry
equal to what an unlisted key reads as), with one read and one write. Everything the block holds per channel, per
context, per slot or per register address is held so. -/
namespace Sys2Proof.Machine

/-- A sparse map from numbers to values. -/
abbrev FMap (α : Type) := List (Nat × α)

/-- The value at key `k`; an unlisted key reads as `d`. -/
def FMap.get {α : Type} (d : α) : FMap α → Nat → α
  | [], _ => d
  | (a, v) :: t, k => if a = k then v else FMap.get d t k

/-- Remove every entry at key `k`. -/
def FMap.erase {α : Type} (m : FMap α) (k : Nat) : FMap α := m.filter (fun p => p.1 != k)

/-- Insert an entry before the first greater key. -/
def FMap.ins {α : Type} (k : Nat) (v : α) : FMap α → FMap α
  | [] => [(k, v)]
  | (a, w) :: t => if k < a then (k, v) :: (a, w) :: t else (a, w) :: FMap.ins k v t

/-- Write `v` at key `k`, keeping the canonical form: writing what an unlisted key reads as removes the entry. -/
def FMap.put {α : Type} [DecidableEq α] (d : α) (m : FMap α) (k : Nat) (v : α) : FMap α :=
  if v = d then m.erase k else FMap.ins k v (m.erase k)

/-- Change the value at key `k` by a function. -/
def FMap.upd {α : Type} [DecidableEq α] (d : α) (m : FMap α) (k : Nat) (f : α → α) : FMap α :=
  m.put d k (f (m.get d k))

/-- Keys strictly rising. -/
def FMap.sorted {α : Type} : FMap α → Bool
  | [] => true
  | (a, _) :: t => (t.all fun p => decide (a < p.1)) && FMap.sorted t

/-- The canonical form: keys strictly rising and no entry equal to what an unlisted key reads as. -/
def FMap.wf {α : Type} [DecidableEq α] (d : α) (m : FMap α) : Bool :=
  m.sorted && m.all fun p => decide (p.2 ≠ d)

end Sys2Proof.Machine
end

