-- ==== Sys2Proof/Machine/RegFile.lean ====
section
/-! DEFINITION. Register words, their fields, and what a read or a write of one word does by the access codes of R14 to
R17. The tables of the two chips are in DfRegs.lean and DcRegs.lean. -/
namespace Sys2Proof.Machine

/-- A field of one register: the register's address, the lowest bit and the width (R9, R13). -/
structure Fd where
  addr : Nat
  lo : Nat
  width : Nat
  deriving DecidableEq, Repr

/-- The access codes of R14. No field of the spec's tables carries RWL. -/
inductive Acc
  | rw | ro | wo | w1c | w1s | rc
  deriving DecidableEq, Repr

/-- One row of a register table: bits, access code, reset value, whether a write is staged (R47), and the
value ranges whose writing is refused with BAD_PARAM. -/
structure FieldDesc where
  lo : Nat
  width : Nat
  acc : Acc
  rst : Nat
  staged : Bool
  bad : List (Nat × Nat)
  deriving DecidableEq, Repr

/-- One register or array of registers: its base, its index ranges as (first index, count, stride), widest stride first,
and its fields. -/
structure RegDesc where
  base : Nat
  dims : List (Nat × Nat × Nat)
  fields : List FieldDesc
  deriving DecidableEq, Repr

/-- Whether an address distance is one of the array's. -/
def dimsCover : List (Nat × Nat × Nat) → Nat → Bool
  | [], d => d == 0
  | (st, c, s) :: t, d => decide (st ≤ d / s) && decide (d / s < st + c) && dimsCover t (d % s)

/-- Whether address `a` is a register of this row. -/
def RegDesc.covers (r : RegDesc) (a : Nat) : Bool :=
  decide (r.base ≤ a) && dimsCover r.dims (a - r.base)

/-- The reset word of a row: every field at its stated reset value, reserved bits 0 (R15, R16). -/
def RegDesc.reset (r : RegDesc) : Word :=
  r.fields.foldl (fun w f => w ||| (BitVec.ofNat 32 f.rst <<< f.lo)) 0

/-- A mask of `width` ones from bit `lo`. -/
def maskW (lo width : Nat) : Word := BitVec.ofNat 32 ((2 ^ width - 1) * 2 ^ lo)

/-- The value of a field in a word. -/
def fieldOf (w : Word) (lo width : Nat) : Nat := bits w.toNat lo width

/-- A word with one field replaced by the low bits of `v`. -/
def withField (w : Word) (lo width v : Nat) : Word :=
  (w &&& ~~~(maskW lo width)) ||| (BitVec.ofNat 32 (v % 2 ^ width * 2 ^ lo))

/-- The stored word after a write of `v`, field by field (R14): RW takes the written bits, W1C clears the bits written 1,
every other access code ignores the write. -/
def RegDesc.written (r : RegDesc) (w v : Word) : Word :=
  r.fields.foldl (fun acc f =>
    match f.acc with
    | .rw => withField acc f.lo f.width (fieldOf v f.lo f.width)
    | .w1c => acc &&& ~~~(v &&& maskW f.lo f.width)
    | _ => acc) w

/-- Whether a written word puts a refused value into an RW field. -/
def RegDesc.refuses (r : RegDesc) (v : Word) : Bool :=
  r.fields.any fun f =>
    f.acc == .rw && f.bad.any fun b => decide (b.1 ≤ fieldOf v f.lo f.width) && decide (fieldOf v f.lo f.width ≤ b.2)

/-- Whether a write to this row stages a value (R47). -/
def RegDesc.stages (r : RegDesc) : Bool := r.fields.any (·.staged)

/-- The mask of the staged bits of a row. -/
def RegDesc.stagedMask (r : RegDesc) : Word :=
  r.fields.foldl (fun w f => if f.staged then w ||| maskW f.lo f.width else w) 0

/-- What a read returns of the stored word: WO and W1S fields read 0 (R14). -/
def RegDesc.readable (r : RegDesc) (w : Word) : Word :=
  r.fields.foldl (fun acc f =>
    match f.acc with
    | .wo => acc &&& ~~~(maskW f.lo f.width)
    | .w1s => acc &&& ~~~(maskW f.lo f.width)
    | _ => acc) w

/-- The stored word after a clearing read: every RC field returns to 0 (R14, R17); a field whose reset value is not 0
returns to it, as `DROOP_STAT.MIN` whose 1,023 means that there is no reading. -/
def RegDesc.cleared (r : RegDesc) (w : Word) : Word :=
  r.fields.foldl (fun acc f =>
    match f.acc with
    | .rc => withField acc f.lo f.width f.rst
    | _ => acc) w

/-- The row of a table that holds an address. -/
def findReg (t : List RegDesc) (a : Nat) : Option RegDesc := t.find? (·.covers a)

/-- A register file: the words that differ from their reset words, by address. -/
abbrev RegFile := FMap Word

end Sys2Proof.Machine
end

