-- ==== Sys2Proof/Machine/DcRegs.lean ====
section
/-! DEFINITION. The DC64 byte-addressed register space (R473, R474): the name, address and bit range of every
field of every register table of the spec, and the table rows with access code, reset value and refused values.
A reset value the spec writes as fuse, pin, image or cause is 0 here and is written by the start-up commands (R15). -/
namespace Sys2Proof.Machine

/-- `DC.IBR.CFG`, R164. -/
def DC.IBR.CFG.addr (i : Nat) : Nat := 0x10000 + 0x40 * i
def DC.IBR.CFG.EN (i : Nat) : Fd := ⟨(DC.IBR.CFG.addr i), 0, 1⟩
def DC.IBR.CFG.UP_CAP (i : Nat) : Fd := ⟨(DC.IBR.CFG.addr i), 1, 2⟩
def DC.IBR.CFG.DN_CAP (i : Nat) : Fd := ⟨(DC.IBR.CFG.addr i), 3, 2⟩
def DC.IBR.CFG.ERR_MAX (i : Nat) : Fd := ⟨(DC.IBR.CFG.addr i), 5, 8⟩
def DC.IBR.CFG.TEST (i : Nat) : Fd := ⟨(DC.IBR.CFG.addr i), 13, 1⟩
def DC.IBR.CFG.PAT (i : Nat) : Fd := ⟨(DC.IBR.CFG.addr i), 14, 2⟩
def DC.IBR.CFG.LOOP (i : Nat) : Fd := ⟨(DC.IBR.CFG.addr i), 16, 2⟩
def DC.IBR.CFG.INJ_ERR (i : Nat) : Fd := ⟨(DC.IBR.CFG.addr i), 18, 1⟩
/-- `DC.IBR.STAT`, R164. -/
def DC.IBR.STAT.addr (i : Nat) : Nat := 0x10004 + 0x40 * i
def DC.IBR.STAT.DN_STATE (i : Nat) : Fd := ⟨(DC.IBR.STAT.addr i), 0, 4⟩
def DC.IBR.STAT.DN_RUNG (i : Nat) : Fd := ⟨(DC.IBR.STAT.addr i), 4, 2⟩
def DC.IBR.STAT.DEGRADED (i : Nat) : Fd := ⟨(DC.IBR.STAT.addr i), 6, 1⟩
def DC.IBR.STAT.SKEW_OVER (i : Nat) : Fd := ⟨(DC.IBR.STAT.addr i), 7, 1⟩
def DC.IBR.STAT.SKEW (i : Nat) : Fd := ⟨(DC.IBR.STAT.addr i), 8, 8⟩
def DC.IBR.STAT.SYNC (i : Nat) : Fd := ⟨(DC.IBR.STAT.addr i), 16, 2⟩
def DC.IBR.STAT.SYNC_LOST (i : Nat) : Fd := ⟨(DC.IBR.STAT.addr i), 18, 2⟩
/-- `DC.IBR.LANE`, R164. -/
def DC.IBR.LANE.addr (i : Nat) (j : Nat) : Nat := 0x10008 + 0x40 * i + 4 * j
def DC.IBR.LANE.STATE (i : Nat) (j : Nat) : Fd := ⟨(DC.IBR.LANE.addr i j), 0, 4⟩
def DC.IBR.LANE.RUNG (i : Nat) (j : Nat) : Fd := ⟨(DC.IBR.LANE.addr i j), 4, 2⟩
def DC.IBR.LANE.ASLEEP (i : Nat) (j : Nat) : Fd := ⟨(DC.IBR.LANE.addr i j), 6, 1⟩
def DC.IBR.LANE.RETRAINS (i : Nat) (j : Nat) : Fd := ⟨(DC.IBR.LANE.addr i j), 8, 8⟩
def DC.IBR.LANE.ORDER (i : Nat) (j : Nat) : Fd := ⟨(DC.IBR.LANE.addr i j), 16, 8⟩
/-- `DC.IBR.ERR`, R164. -/
def DC.IBR.ERR.addr (i : Nat) (j : Nat) : Nat := 0x10010 + 0x40 * i + 4 * j
def DC.IBR.ERR.CRC (i : Nat) (j : Nat) : Fd := ⟨(DC.IBR.ERR.addr i j), 0, 16⟩
def DC.IBR.ERR.STUFF (i : Nat) (j : Nat) : Fd := ⟨(DC.IBR.ERR.addr i j), 16, 8⟩
def DC.IBR.ERR.MARKER_MISS (i : Nat) (j : Nat) : Fd := ⟨(DC.IBR.ERR.addr i j), 24, 8⟩
/-- `DC.IBR.PRBS_ERR`, R164. -/
def DC.IBR.PRBS_ERR.addr (i : Nat) (j : Nat) : Nat := 0x10020 + 0x40 * i + 4 * j
def DC.IBR.PRBS_ERR.COUNT (i : Nat) (j : Nat) : Fd := ⟨(DC.IBR.PRBS_ERR.addr i j), 0, 32⟩
/-- `DC.IBR.PRBS_WORDS`, R164. -/
def DC.IBR.PRBS_WORDS.addr (i : Nat) (j : Nat) : Nat := 0x10028 + 0x40 * i + 4 * j
def DC.IBR.PRBS_WORDS.COUNT (i : Nat) (j : Nat) : Fd := ⟨(DC.IBR.PRBS_WORDS.addr i j), 0, 32⟩
/-- `DC.TIME.NOW_LO`, R190. -/
def DC.TIME.NOW_LO.addr : Nat := 0x4000
def DC.TIME.NOW_LO.TICK : Fd := ⟨DC.TIME.NOW_LO.addr, 0, 32⟩
/-- `DC.TIME.NOW_HI`, R190. -/
def DC.TIME.NOW_HI.addr : Nat := 0x4004
def DC.TIME.NOW_HI.TICK : Fd := ⟨DC.TIME.NOW_HI.addr, 0, 32⟩
/-- `DC.TIME.NOW_FINE`, R190. -/
def DC.TIME.NOW_FINE.addr : Nat := 0x4008
def DC.TIME.NOW_FINE.FINE : Fd := ⟨DC.TIME.NOW_FINE.addr, 0, 10⟩
/-- `DC.TIME.STATUS`, R190. -/
def DC.TIME.STATUS.addr : Nat := 0x400c
def DC.TIME.STATUS.STATE : Fd := ⟨DC.TIME.STATUS.addr, 0, 3⟩
def DC.TIME.STATUS.DT_UNSYNC : Fd := ⟨DC.TIME.STATUS.addr, 3, 1⟩
def DC.TIME.STATUS.HOLDOVER : Fd := ⟨DC.TIME.STATUS.addr, 4, 1⟩
def DC.TIME.STATUS.DISCONT : Fd := ⟨DC.TIME.STATUS.addr, 5, 1⟩
def DC.TIME.STATUS.SLEWING : Fd := ⟨DC.TIME.STATUS.addr, 6, 1⟩
def DC.TIME.STATUS.STEER_LIMIT : Fd := ⟨DC.TIME.STATUS.addr, 7, 1⟩
def DC.TIME.STATUS.TXQ_FULL : Fd := ⟨DC.TIME.STATUS.addr, 8, 1⟩
def DC.TIME.STATUS.SEG_WRAP : Fd := ⟨DC.TIME.STATUS.addr, 9, 1⟩
def DC.TIME.STATUS.ALIGN_DRIFT : Fd := ⟨DC.TIME.STATUS.addr, 10, 1⟩
def DC.TIME.STATUS.MASTER : Fd := ⟨DC.TIME.STATUS.addr, 11, 5⟩
/-- `DC.TIME.CTRL`, R190. -/
def DC.TIME.CTRL.addr : Nat := 0x4010
def DC.TIME.CTRL.STEP_LIMIT : Fd := ⟨DC.TIME.CTRL.addr, 0, 16⟩
def DC.TIME.CTRL.CONFIRM : Fd := ⟨DC.TIME.CTRL.addr, 16, 4⟩
def DC.TIME.CTRL.NEWSEG_EN : Fd := ⟨DC.TIME.CTRL.addr, 20, 1⟩
def DC.TIME.CTRL.SLEW_MAX : Fd := ⟨DC.TIME.CTRL.addr, 21, 7⟩
def DC.TIME.CTRL.BW : Fd := ⟨DC.TIME.CTRL.addr, 28, 3⟩
/-- `DC.TIME.ALIGN_PERIOD`, R190. -/
def DC.TIME.ALIGN_PERIOD.addr : Nat := 0x4014
def DC.TIME.ALIGN_PERIOD.FRAMES : Fd := ⟨DC.TIME.ALIGN_PERIOD.addr, 0, 16⟩
/-- `DC.TIME.STEER`, R190. -/
def DC.TIME.STEER.addr : Nat := 0x4018
def DC.TIME.STEER.RATIO : Fd := ⟨DC.TIME.STEER.addr, 0, 32⟩
/-- `DC.TIME.OFFSET`, R190. -/
def DC.TIME.OFFSET.addr : Nat := 0x401c
def DC.TIME.OFFSET.E : Fd := ⟨DC.TIME.OFFSET.addr, 0, 32⟩
/-- `DC.TIME.SET_LO`, R190. -/
def DC.TIME.SET_LO.addr : Nat := 0x4020
def DC.TIME.SET_LO.FRAME : Fd := ⟨DC.TIME.SET_LO.addr, 0, 32⟩
/-- `DC.TIME.SET_HI`, R190. -/
def DC.TIME.SET_HI.addr : Nat := 0x4024
def DC.TIME.SET_HI.FRAME : Fd := ⟨DC.TIME.SET_HI.addr, 0, 16⟩
def DC.TIME.SET_HI.GO : Fd := ⟨DC.TIME.SET_HI.addr, 16, 1⟩
/-- `DC.TIME.TXQ_HEAD`, R190. -/
def DC.TIME.TXQ_HEAD.addr : Nat := 0x4030
def DC.TIME.TXQ_HEAD.TAG : Fd := ⟨DC.TIME.TXQ_HEAD.addr, 0, 16⟩
def DC.TIME.TXQ_HEAD.PORT : Fd := ⟨DC.TIME.TXQ_HEAD.addr, 16, 1⟩
def DC.TIME.TXQ_HEAD.VALID : Fd := ⟨DC.TIME.TXQ_HEAD.addr, 17, 1⟩
/-- `DC.TIME.TXQ_LO`, R190. -/
def DC.TIME.TXQ_LO.addr : Nat := 0x4034
def DC.TIME.TXQ_LO.TICK : Fd := ⟨DC.TIME.TXQ_LO.addr, 0, 32⟩
/-- `DC.TIME.TXQ_HI`, R190. -/
def DC.TIME.TXQ_HI.addr : Nat := 0x4038
def DC.TIME.TXQ_HI.TICK : Fd := ⟨DC.TIME.TXQ_HI.addr, 0, 32⟩
/-- `DC.TIME.TXQ_FINE`, R190. -/
def DC.TIME.TXQ_FINE.addr : Nat := 0x403c
def DC.TIME.TXQ_FINE.FINE : Fd := ⟨DC.TIME.TXQ_FINE.addr, 0, 10⟩
/-- `DC.TIME.TXQ_OVF`, R190. -/
def DC.TIME.TXQ_OVF.addr : Nat := 0x4040
def DC.TIME.TXQ_OVF.COUNT : Fd := ⟨DC.TIME.TXQ_OVF.addr, 0, 32⟩
/-- `DC.TIME.PPS_CTRL`, R190. -/
def DC.TIME.PPS_CTRL.addr : Nat := 0x4044
def DC.TIME.PPS_CTRL.MODE : Fd := ⟨DC.TIME.PPS_CTRL.addr, 0, 2⟩
def DC.TIME.PPS_CTRL.WIDTH : Fd := ⟨DC.TIME.PPS_CTRL.addr, 2, 10⟩
/-- `DC.TIME.PPS_IN_LO`, R190. -/
def DC.TIME.PPS_IN_LO.addr : Nat := 0x4048
def DC.TIME.PPS_IN_LO.TICK : Fd := ⟨DC.TIME.PPS_IN_LO.addr, 0, 32⟩
/-- `DC.TIME.PPS_IN_HI`, R190. -/
def DC.TIME.PPS_IN_HI.addr : Nat := 0x404c
def DC.TIME.PPS_IN_HI.TICK : Fd := ⟨DC.TIME.PPS_IN_HI.addr, 0, 32⟩
/-- `DC.TIME.PPS_IN_FINE`, R190. -/
def DC.TIME.PPS_IN_FINE.addr : Nat := 0x4050
def DC.TIME.PPS_IN_FINE.FINE : Fd := ⟨DC.TIME.PPS_IN_FINE.addr, 0, 10⟩
/-- `DC.TIME.PPS_IN_CNT`, R190. -/
def DC.TIME.PPS_IN_CNT.addr : Nat := 0x4054
def DC.TIME.PPS_IN_CNT.COUNT : Fd := ⟨DC.TIME.PPS_IN_CNT.addr, 0, 32⟩
/-- `DC.TIME.SEG_SEL`, R190. -/
def DC.TIME.SEG_SEL.addr : Nat := 0x4080
def DC.TIME.SEG_SEL.INDEX : Fd := ⟨DC.TIME.SEG_SEL.addr, 0, 8⟩
/-- `DC.TIME.SEG_DT_LO`, R190. -/
def DC.TIME.SEG_DT_LO.addr : Nat := 0x4084
def DC.TIME.SEG_DT_LO.D0 : Fd := ⟨DC.TIME.SEG_DT_LO.addr, 0, 32⟩
/-- `DC.TIME.SEG_DT_HI`, R190. -/
def DC.TIME.SEG_DT_HI.addr : Nat := 0x4088
def DC.TIME.SEG_DT_HI.D0 : Fd := ⟨DC.TIME.SEG_DT_HI.addr, 0, 32⟩
/-- `DC.TIME.SEG_SEC_LO`, R190. -/
def DC.TIME.SEG_SEC_LO.addr : Nat := 0x408c
def DC.TIME.SEG_SEC_LO.SEC : Fd := ⟨DC.TIME.SEG_SEC_LO.addr, 0, 32⟩
/-- `DC.TIME.SEG_SEC_HI`, R190. -/
def DC.TIME.SEG_SEC_HI.addr : Nat := 0x4090
def DC.TIME.SEG_SEC_HI.SEC : Fd := ⟨DC.TIME.SEG_SEC_HI.addr, 0, 16⟩
def DC.TIME.SEG_SEC_HI.CAUSE : Fd := ⟨DC.TIME.SEG_SEC_HI.addr, 16, 2⟩
def DC.TIME.SEG_SEC_HI.MASTER : Fd := ⟨DC.TIME.SEG_SEC_HI.addr, 18, 4⟩
def DC.TIME.SEG_SEC_HI.USED : Fd := ⟨DC.TIME.SEG_SEC_HI.addr, 22, 1⟩
/-- `DC.TIME.SEG_NS`, R190. -/
def DC.TIME.SEG_NS.addr : Nat := 0x4094
def DC.TIME.SEG_NS.NS : Fd := ⟨DC.TIME.SEG_NS.addr, 0, 30⟩
/-- `DC.TIME.SEG_SUB`, R190. -/
def DC.TIME.SEG_SUB.addr : Nat := 0x4098
def DC.TIME.SEG_SUB.SUB : Fd := ⟨DC.TIME.SEG_SUB.addr, 0, 20⟩
/-- `DC.TIME.SEG_COUNT`, R190. -/
def DC.TIME.SEG_COUNT.addr : Nat := 0x409c
def DC.TIME.SEG_COUNT.OPENED : Fd := ⟨DC.TIME.SEG_COUNT.addr, 0, 24⟩
def DC.TIME.SEG_COUNT.WRAPS : Fd := ⟨DC.TIME.SEG_COUNT.addr, 24, 8⟩
/-- `DC.TIME.RTT`, R190. -/
def DC.TIME.RTT.addr (i : Nat) : Nat := 0x4100 + 8 * i
def DC.TIME.RTT.FINE (i : Nat) : Fd := ⟨(DC.TIME.RTT.addr i), 0, 32⟩
/-- `DC.TIME.ASYM`, R190. -/
def DC.TIME.ASYM.addr (i : Nat) : Nat := 0x4104 + 8 * i
def DC.TIME.ASYM.FINE (i : Nat) : Fd := ⟨(DC.TIME.ASYM.addr i), 0, 32⟩
/-- `DC.PTP.CFG`, R191. -/
def DC.PTP.CFG.addr : Nat := 0x5000
def DC.PTP.CFG.DOMAIN : Fd := ⟨DC.PTP.CFG.addr, 0, 8⟩
def DC.PTP.CFG.EN : Fd := ⟨DC.PTP.CFG.addr, 8, 2⟩
def DC.PTP.CFG.P2P : Fd := ⟨DC.PTP.CFG.addr, 10, 2⟩
def DC.PTP.CFG.L2 : Fd := ⟨DC.PTP.CFG.addr, 12, 2⟩
/-- `DC.PTP.RX_LAT`, R191. -/
def DC.PTP.RX_LAT.addr (i : Nat) : Nat := 0x5010 + 0x10 * i
def DC.PTP.RX_LAT.FINE (i : Nat) : Fd := ⟨(DC.PTP.RX_LAT.addr i), 0, 20⟩
/-- `DC.PTP.TX_LAT`, R191. -/
def DC.PTP.TX_LAT.addr (i : Nat) : Nat := 0x5014 + 0x10 * i
def DC.PTP.TX_LAT.FINE (i : Nat) : Fd := ⟨(DC.PTP.TX_LAT.addr i), 0, 20⟩
/-- `DC.PTP.NET_ASYM`, R191. -/
def DC.PTP.NET_ASYM.addr (i : Nat) : Nat := 0x5018 + 0x10 * i
def DC.PTP.NET_ASYM.PS (i : Nat) : Fd := ⟨(DC.PTP.NET_ASYM.addr i), 0, 32⟩
/-- `DC.PTP.MID_LO`, R191. -/
def DC.PTP.MID_LO.addr (i : Nat) : Nat := 0x5100 + 0x10 * i
def DC.PTP.MID_LO.ID (i : Nat) : Fd := ⟨(DC.PTP.MID_LO.addr i), 0, 32⟩
/-- `DC.PTP.MID_HI`, R191. -/
def DC.PTP.MID_HI.addr (i : Nat) : Nat := 0x5104 + 0x10 * i
def DC.PTP.MID_HI.ID (i : Nat) : Fd := ⟨(DC.PTP.MID_HI.addr i), 0, 32⟩
/-- `DC.PTP.MSEL`, R191. -/
def DC.PTP.MSEL.addr (i : Nat) : Nat := 0x5108 + 0x10 * i
def DC.PTP.MSEL.PORT (i : Nat) : Fd := ⟨(DC.PTP.MSEL.addr i), 0, 16⟩
def DC.PTP.MSEL.EN (i : Nat) : Fd := ⟨(DC.PTP.MSEL.addr i), 16, 1⟩
/-- `DC.MIRE.GEOM`, R227. -/
def DC.MIRE.GEOM.addr : Nat := 0x6000
def DC.MIRE.GEOM.CAP : Fd := ⟨DC.MIRE.GEOM.addr, 0, 3⟩
def DC.MIRE.GEOM.MISMATCH : Fd := ⟨DC.MIRE.GEOM.addr, 3, 1⟩
def DC.MIRE.GEOM.WRAPPED : Fd := ⟨DC.MIRE.GEOM.addr, 4, 1⟩
def DC.MIRE.GEOM.HOTREF : Fd := ⟨DC.MIRE.GEOM.addr, 5, 1⟩
/-- `DC.MIRE.RETIRED`, R227. -/
def DC.MIRE.RETIRED.addr : Nat := 0x6004
def DC.MIRE.RETIRED.PAGES : Fd := ⟨DC.MIRE.RETIRED.addr, 0, 24⟩
/-- `DC.MIRE.NEXT_LO`, R227. -/
def DC.MIRE.NEXT_LO.addr : Nat := 0x6008
def DC.MIRE.NEXT_LO.SLOT : Fd := ⟨DC.MIRE.NEXT_LO.addr, 0, 32⟩
/-- `DC.MIRE.NEXT_HI`, R227. -/
def DC.MIRE.NEXT_HI.addr : Nat := 0x600c
def DC.MIRE.NEXT_HI.SLOT : Fd := ⟨DC.MIRE.NEXT_HI.addr, 0, 8⟩
/-- `DC.MIRE.OLDEST_LO`, R227. -/
def DC.MIRE.OLDEST_LO.addr : Nat := 0x6010
def DC.MIRE.OLDEST_LO.SLOT : Fd := ⟨DC.MIRE.OLDEST_LO.addr, 0, 32⟩
/-- `DC.MIRE.OLDEST_HI`, R227. -/
def DC.MIRE.OLDEST_HI.addr : Nat := 0x6014
def DC.MIRE.OLDEST_HI.SLOT : Fd := ⟨DC.MIRE.OLDEST_HI.addr, 0, 8⟩
/-- `DC.MIRE.OLDEST_DT_LO`, R227. -/
def DC.MIRE.OLDEST_DT_LO.addr : Nat := 0x6018
def DC.MIRE.OLDEST_DT_LO.TICK : Fd := ⟨DC.MIRE.OLDEST_DT_LO.addr, 0, 32⟩
/-- `DC.MIRE.OLDEST_DT_HI`, R227. -/
def DC.MIRE.OLDEST_DT_HI.addr : Nat := 0x601c
def DC.MIRE.OLDEST_DT_HI.TICK : Fd := ⟨DC.MIRE.OLDEST_DT_HI.addr, 0, 32⟩
/-- `DC.MIRE.DEPTH`, R227. -/
def DC.MIRE.DEPTH.addr : Nat := 0x6020
def DC.MIRE.DEPTH.FRAMES : Fd := ⟨DC.MIRE.DEPTH.addr, 0, 24⟩
/-- `DC.MIRE.FLAG7`, R227. -/
def DC.MIRE.FLAG7.addr : Nat := 0x6024
def DC.MIRE.FLAG7.COUNT : Fd := ⟨DC.MIRE.FLAG7.addr, 0, 32⟩
/-- `DC.MIRE.STAGE_POISON`, R227. -/
def DC.MIRE.STAGE_POISON.addr : Nat := 0x6028
def DC.MIRE.STAGE_POISON.COUNT : Fd := ⟨DC.MIRE.STAGE_POISON.addr, 0, 32⟩
/-- `DC.MIRE.BADREC`, R227. -/
def DC.MIRE.BADREC.addr : Nat := 0x602c
def DC.MIRE.BADREC.COUNT : Fd := ⟨DC.MIRE.BADREC.addr, 0, 32⟩
/-- `DC.MIRE.STAGE`, R227. -/
def DC.MIRE.STAGE.addr (i : Nat) : Nat := 0x6040 + 4 * i
def DC.MIRE.STAGE.PEAK (i : Nat) : Fd := ⟨(DC.MIRE.STAGE.addr i), 0, 7⟩
def DC.MIRE.STAGE.DEBT_PEAK (i : Nat) : Fd := ⟨(DC.MIRE.STAGE.addr i), 16, 9⟩
def DC.MIRE.STAGE.OVERRUN (i : Nat) : Fd := ⟨(DC.MIRE.STAGE.addr i), 31, 1⟩
/-- `DC.SLU.CTRL`, R228. -/
def DC.SLU.CTRL.addr : Nat := 0x7000
def DC.SLU.CTRL.AGE_STEP : Fd := ⟨DC.SLU.CTRL.addr, 0, 16⟩
def DC.SLU.CTRL.LOCK_MAX : Fd := ⟨DC.SLU.CTRL.addr, 16, 16⟩
/-- `DC.SLU.PRIO`, R228. -/
def DC.SLU.PRIO.addr (i : Nat) : Nat := 0x7000 + 4 * i
def DC.SLU.PRIO.PRIO (i : Nat) : Fd := ⟨(DC.SLU.PRIO.addr i), 0, 3⟩
/-- `DC.SLU.TORN`, R228. -/
def DC.SLU.TORN.addr : Nat := 0x7030
def DC.SLU.TORN.COUNT : Fd := ⟨DC.SLU.TORN.addr, 0, 32⟩
/-- `DC.SLU.LEASE`, R228. -/
def DC.SLU.LEASE.addr : Nat := 0x7034
def DC.SLU.LEASE.COUNT : Fd := ⟨DC.SLU.LEASE.addr, 0, 32⟩
/-- `DC.SLU.LOCK_REFUSED`, R228. -/
def DC.SLU.LOCK_REFUSED.addr : Nat := 0x7038
def DC.SLU.LOCK_REFUSED.COUNT : Fd := ⟨DC.SLU.LOCK_REFUSED.addr, 0, 32⟩
/-- `DC.CTX.GEN`, R229. -/
def DC.CTX.GEN.addr : Nat := 0x400000
def DC.CTX.GEN.GEN : Fd := ⟨DC.CTX.GEN.addr, 0, 16⟩
/-- `DC.CTX.CAL`, R229. -/
def DC.CTX.CAL.addr : Nat := 0x400004
def DC.CTX.CAL.N : Fd := ⟨DC.CTX.CAL.addr, 0, 8⟩
def DC.CTX.CAL.SETTLE : Fd := ⟨DC.CTX.CAL.addr, 8, 8⟩
def DC.CTX.CAL.TOT_TOL : Fd := ⟨DC.CTX.CAL.addr, 16, 8⟩
def DC.CTX.CAL.STEP_MAX : Fd := ⟨DC.CTX.CAL.addr, 24, 8⟩
/-- `DC.CTX.FOLD`, R229. -/
def DC.CTX.FOLD.addr : Nat := 0x400008
def DC.CTX.FOLD.FRAMES : Fd := ⟨DC.CTX.FOLD.addr, 0, 8⟩
def DC.CTX.FOLD.HOT_RATE : Fd := ⟨DC.CTX.FOLD.addr, 8, 24⟩
/-- `DC.CTX.DEAD`, R229. -/
def DC.CTX.DEAD.addr : Nat := 0x40000c
def DC.CTX.DEAD.FOLDS : Fd := ⟨DC.CTX.DEAD.addr, 0, 16⟩
/-- `DC.CTX.REF_PERIOD`, R229. -/
def DC.CTX.REF_PERIOD.addr : Nat := 0x400010
def DC.CTX.REF_PERIOD.TICKS : Fd := ⟨DC.CTX.REF_PERIOD.addr, 0, 32⟩
/-- `DC.CTX.JUMPS`, R229. -/
def DC.CTX.JUMPS.addr : Nat := 0x400014
def DC.CTX.JUMPS.COUNT : Fd := ⟨DC.CTX.JUMPS.addr, 0, 32⟩
/-- `DC.CTX.LOGPOS`, R229. -/
def DC.CTX.LOGPOS.addr : Nat := 0x400018
def DC.CTX.LOGPOS.COUNT : Fd := ⟨DC.CTX.LOGPOS.addr, 0, 32⟩
/-- `DC.CTX.ANCH`, R229. -/
def DC.CTX.ANCH.addr (i : Nat) : Nat := 0x400100 + 8 * i
def DC.CTX.ANCH.K (i : Nat) : Fd := ⟨(DC.CTX.ANCH.addr i), 0, 3⟩
def DC.CTX.ANCH.EN (i : Nat) : Fd := ⟨(DC.CTX.ANCH.addr i), 3, 1⟩
def DC.CTX.ANCH.R (i : Nat) : Fd := ⟨(DC.CTX.ANCH.addr i), 16, 16⟩
/-- `DC.CTX.CHIP`, R229. -/
def DC.CTX.CHIP.addr (i : Nat) : Nat := 0x400104 + 8 * i
def DC.CTX.CHIP.CHIP_OFF (i : Nat) : Fd := ⟨(DC.CTX.CHIP.addr i), 0, 16⟩
/-- `DC.TRG.CTRL`, R266. -/
def DC.TRG.CTRL.addr : Nat := 0x40000
def DC.TRG.CTRL.EN : Fd := ⟨DC.TRG.CTRL.addr, 0, 1⟩
def DC.TRG.CTRL.ISSUE : Fd := ⟨DC.TRG.CTRL.addr, 1, 1⟩
/-- `DC.TRG.PART_LO`, R266. -/
def DC.TRG.PART_LO.addr : Nat := 0x40004
def DC.TRG.PART_LO.MASK : Fd := ⟨DC.TRG.PART_LO.addr, 0, 32⟩
/-- `DC.TRG.PART_HI`, R266. -/
def DC.TRG.PART_HI.addr : Nat := 0x40008
def DC.TRG.PART_HI.MASK : Fd := ⟨DC.TRG.PART_HI.addr, 0, 32⟩
/-- `DC.TRG.WM_WAIT`, R266. -/
def DC.TRG.WM_WAIT.addr : Nat := 0x4000c
def DC.TRG.WM_WAIT.TICKS : Fd := ⟨DC.TRG.WM_WAIT.addr, 0, 16⟩
/-- `DC.TRG.GUARD`, R266. -/
def DC.TRG.GUARD.addr : Nat := 0x40010
def DC.TRG.GUARD.FRAMES : Fd := ⟨DC.TRG.GUARD.addr, 0, 8⟩
/-- `DC.TRG.WIN_MAX`, R266. -/
def DC.TRG.WIN_MAX.addr : Nat := 0x40014
def DC.TRG.WIN_MAX.FRAMES : Fd := ⟨DC.TRG.WIN_MAX.addr, 0, 11⟩
/-- `DC.TRG.HORIZON`, R266. -/
def DC.TRG.HORIZON.addr : Nat := 0x40018
def DC.TRG.HORIZON.FRAMES : Fd := ⟨DC.TRG.HORIZON.addr, 0, 16⟩
/-- `DC.TRG.WISP`, R266. -/
def DC.TRG.WISP.addr : Nat := 0x4001c
def DC.TRG.WISP.TIMEOUT : Fd := ⟨DC.TRG.WISP.addr, 0, 32⟩
/-- `DC.TRG.EXT`, R266. -/
def DC.TRG.EXT.addr : Nat := 0x40020
def DC.TRG.EXT.EN : Fd := ⟨DC.TRG.EXT.addr, 0, 4⟩
def DC.TRG.EXT.FALL : Fd := ⟨DC.TRG.EXT.addr, 4, 4⟩
/-- `DC.TRG.DCAP`, R266. -/
def DC.TRG.DCAP.addr : Nat := 0x40024
def DC.TRG.DCAP.TICKS : Fd := ⟨DC.TRG.DCAP.addr, 0, 32⟩
/-- `DC.TRG.STATUS`, R266. -/
def DC.TRG.STATUS.addr : Nat := 0x40028
def DC.TRG.STATUS.SHRUNK : Fd := ⟨DC.TRG.STATUS.addr, 0, 1⟩
def DC.TRG.STATUS.TQ_FULL : Fd := ⟨DC.TRG.STATUS.addr, 1, 1⟩
def DC.TRG.STATUS.IF_FULL : Fd := ⟨DC.TRG.STATUS.addr, 2, 1⟩
def DC.TRG.STATUS.IN_FLIGHT : Fd := ⟨DC.TRG.STATUS.addr, 16, 13⟩
/-- `DC.TRG.SEQ_LO`, R266. -/
def DC.TRG.SEQ_LO.addr : Nat := 0x40030
def DC.TRG.SEQ_LO.SEQ : Fd := ⟨DC.TRG.SEQ_LO.addr, 0, 32⟩
/-- `DC.TRG.SEQ_HI`, R266. -/
def DC.TRG.SEQ_HI.addr : Nat := 0x40034
def DC.TRG.SEQ_HI.SEQ : Fd := ⟨DC.TRG.SEQ_HI.addr, 0, 16⟩
/-- `DC.TRG.TOMB`, R266. -/
def DC.TRG.TOMB.addr (i : Nat) : Nat := 0x40040 + 4 * i
def DC.TRG.TOMB.COUNT (i : Nat) : Fd := ⟨(DC.TRG.TOMB.addr i), 0, 32⟩
/-- `DC.TRG.UNNUMBERED`, R266. -/
def DC.TRG.UNNUMBERED.addr : Nat := 0x40054
def DC.TRG.UNNUMBERED.COUNT : Fd := ⟨DC.TRG.UNNUMBERED.addr, 0, 32⟩
/-- `DC.TRG.MAP_SEL`, R266. -/
def DC.TRG.MAP_SEL.addr : Nat := 0x40080
def DC.TRG.MAP_SEL.N : Fd := ⟨DC.TRG.MAP_SEL.addr, 0, 6⟩
/-- `DC.TRG.MAP_LO`, R266. -/
def DC.TRG.MAP_LO.addr : Nat := 0x40084
def DC.TRG.MAP_LO.STATE : Fd := ⟨DC.TRG.MAP_LO.addr, 0, 32⟩
/-- `DC.TRG.MAP_HI`, R266. -/
def DC.TRG.MAP_HI.addr : Nat := 0x40088
def DC.TRG.MAP_HI.STATE : Fd := ⟨DC.TRG.MAP_HI.addr, 0, 32⟩
/-- `DC.TRG.MAP_SLICE`, R266. -/
def DC.TRG.MAP_SLICE.addr : Nat := 0x4008c
def DC.TRG.MAP_SLICE.SLICE : Fd := ⟨DC.TRG.MAP_SLICE.addr, 0, 14⟩
def DC.TRG.MAP_SLICE.STALE : Fd := ⟨DC.TRG.MAP_SLICE.addr, 14, 1⟩
/-- `DC.TRG.PRE`, R266. -/
def DC.TRG.PRE.addr (i : Nat) : Nat := 0x40100 + 0x20 * i
def DC.TRG.PRE.SLICES (i : Nat) : Fd := ⟨(DC.TRG.PRE.addr i), 0, 24⟩
/-- `DC.TRG.POST`, R266. -/
def DC.TRG.POST.addr (i : Nat) : Nat := 0x40104 + 0x20 * i
def DC.TRG.POST.SLICES (i : Nat) : Fd := ⟨(DC.TRG.POST.addr i), 0, 24⟩
/-- `DC.TRG.HOLDOFF`, R266. -/
def DC.TRG.HOLDOFF.addr (i : Nat) : Nat := 0x40108 + 0x20 * i
def DC.TRG.HOLDOFF.SLICES (i : Nat) : Fd := ⟨(DC.TRG.HOLDOFF.addr i), 0, 16⟩
def DC.TRG.HOLDOFF.EN (i : Nat) : Fd := ⟨(DC.TRG.HOLDOFF.addr i), 16, 1⟩
/-- `DC.TRG.SCOPE_LO`, R266. -/
def DC.TRG.SCOPE_LO.addr (i : Nat) : Nat := 0x4010c + 0x20 * i
def DC.TRG.SCOPE_LO.MASK (i : Nat) : Fd := ⟨(DC.TRG.SCOPE_LO.addr i), 0, 32⟩
/-- `DC.TRG.SCOPE_HI`, R266. -/
def DC.TRG.SCOPE_HI.addr (i : Nat) : Nat := 0x40110 + 0x20 * i
def DC.TRG.SCOPE_HI.MASK (i : Nat) : Fd := ⟨(DC.TRG.SCOPE_HI.addr i), 0, 32⟩
/-- `DC.TRG.RATE`, R266. -/
def DC.TRG.RATE.addr (i : Nat) : Nat := 0x40114 + 0x20 * i
def DC.TRG.RATE.HZ (i : Nat) : Fd := ⟨(DC.TRG.RATE.addr i), 0, 32⟩
/-- `DC.TRG.ACCEPTED`, R266. -/
def DC.TRG.ACCEPTED.addr (i : Nat) : Nat := 0x40118 + 0x20 * i
def DC.TRG.ACCEPTED.COUNT (i : Nat) : Fd := ⟨(DC.TRG.ACCEPTED.addr i), 0, 32⟩
/-- `DC.TRG.REFUSED`, R266. -/
def DC.TRG.REFUSED.addr (i : Nat) : Nat := 0x4011c + 0x20 * i
def DC.TRG.REFUSED.COUNT (i : Nat) : Fd := ⟨(DC.TRG.REFUSED.addr i), 0, 32⟩
/-- `DC.TRG.PRIM_MISS`, R266. -/
def DC.TRG.PRIM_MISS.addr (i : Nat) : Nat := 0x40400 + 8 * i
def DC.TRG.PRIM_MISS.COUNT (i : Nat) : Fd := ⟨(DC.TRG.PRIM_MISS.addr i), 0, 32⟩
/-- `DC.TRG.WM_LATE`, R266. -/
def DC.TRG.WM_LATE.addr (i : Nat) : Nat := 0x40404 + 8 * i
def DC.TRG.WM_LATE.COUNT (i : Nat) : Fd := ⟨(DC.TRG.WM_LATE.addr i), 0, 32⟩
/-- `DC.TRG.SEL`, R267. -/
def DC.TRG.SEL.addr (i : Nat) (j : Nat) : Nat := 0x50000 + 0x100 * i + 4 * j
def DC.TRG.SEL.E0 (i : Nat) (j : Nat) : Fd := ⟨(DC.TRG.SEL.addr i j), 0, 12⟩
def DC.TRG.SEL.E1 (i : Nat) (j : Nat) : Fd := ⟨(DC.TRG.SEL.addr i j), 16, 12⟩
/-- `DC.TRG.VALUE_LO`, R267. -/
def DC.TRG.VALUE_LO.addr (i : Nat) : Nat := 0x50080 + 0x100 * i
def DC.TRG.VALUE_LO.V (i : Nat) : Fd := ⟨(DC.TRG.VALUE_LO.addr i), 0, 32⟩
/-- `DC.TRG.VALUE_HI`, R267. -/
def DC.TRG.VALUE_HI.addr (i : Nat) : Nat := 0x50084 + 0x100 * i
def DC.TRG.VALUE_HI.V (i : Nat) : Fd := ⟨(DC.TRG.VALUE_HI.addr i), 0, 32⟩
/-- `DC.TRG.CARE_LO`, R267. -/
def DC.TRG.CARE_LO.addr (i : Nat) : Nat := 0x50088 + 0x100 * i
def DC.TRG.CARE_LO.C (i : Nat) : Fd := ⟨(DC.TRG.CARE_LO.addr i), 0, 32⟩
/-- `DC.TRG.CARE_HI`, R267. -/
def DC.TRG.CARE_HI.addr (i : Nat) : Nat := 0x5008c + 0x100 * i
def DC.TRG.CARE_HI.C (i : Nat) : Fd := ⟨(DC.TRG.CARE_HI.addr i), 0, 32⟩
/-- `DC.TRG.PCTRL`, R267. -/
def DC.TRG.PCTRL.addr (i : Nat) : Nat := 0x50090 + 0x100 * i
def DC.TRG.PCTRL.PERSIST (i : Nat) : Fd := ⟨(DC.TRG.PCTRL.addr i), 0, 8⟩
def DC.TRG.PCTRL.EN (i : Nat) : Fd := ⟨(DC.TRG.PCTRL.addr i), 8, 1⟩
def DC.TRG.PCTRL.STALE_BLOCK (i : Nat) : Fd := ⟨(DC.TRG.PCTRL.addr i), 9, 1⟩
def DC.TRG.PCTRL.MATCH (i : Nat) : Fd := ⟨(DC.TRG.PCTRL.addr i), 10, 1⟩
/-- `DC.TRG.FIRED`, R267. -/
def DC.TRG.FIRED.addr (i : Nat) : Nat := 0x50094 + 0x100 * i
def DC.TRG.FIRED.COUNT (i : Nat) : Fd := ⟨(DC.TRG.FIRED.addr i), 0, 32⟩
/-- `DC.QLF.CTRL`, R296. -/
def DC.QLF.CTRL.addr : Nat := 0x80000
def DC.QLF.CTRL.EN : Fd := ⟨DC.QLF.CTRL.addr, 0, 1⟩
def DC.QLF.CTRL.HOLD_MAX : Fd := ⟨DC.QLF.CTRL.addr, 16, 16⟩
/-- `DC.QLF.STATUS`, R296. -/
def DC.QLF.STATUS.addr : Nat := 0x80004
def DC.QLF.STATUS.STOPPED : Fd := ⟨DC.QLF.STATUS.addr, 0, 1⟩
def DC.QLF.STATUS.HOLD_FULL : Fd := ⟨DC.QLF.STATUS.addr, 1, 1⟩
def DC.QLF.STATUS.HELD : Fd := ⟨DC.QLF.STATUS.addr, 16, 16⟩
/-- `DC.QLF.MASK_CTRL`, R296. -/
def DC.QLF.MASK_CTRL.addr : Nat := 0x80008
def DC.QLF.MASK_CTRL.LOAD : Fd := ⟨DC.QLF.MASK_CTRL.addr, 0, 8⟩
def DC.QLF.MASK_CTRL.BAD : Fd := ⟨DC.QLF.MASK_CTRL.addr, 8, 8⟩
/-- `DC.QLF.NONE_HOLD`, R296. -/
def DC.QLF.NONE_HOLD.addr : Nat := 0x80010
def DC.QLF.NONE_HOLD.COUNT : Fd := ⟨DC.QLF.NONE_HOLD.addr, 0, 32⟩
/-- `DC.QLF.NONE_FULL`, R296. -/
def DC.QLF.NONE_FULL.addr : Nat := 0x80014
def DC.QLF.NONE_FULL.COUNT : Fd := ⟨DC.QLF.NONE_FULL.addr, 0, 32⟩
/-- `DC.QLF.MEASURE_FALLBACK`, R296. -/
def DC.QLF.MEASURE_FALLBACK.addr : Nat := 0x80018
def DC.QLF.MEASURE_FALLBACK.COUNT : Fd := ⟨DC.QLF.MEASURE_FALLBACK.addr, 0, 32⟩
/-- `DC.QLF.SRC`, R296. -/
def DC.QLF.SRC.addr (i : Nat) : Nat := 0x80100 + 0x10 * i
def DC.QLF.SRC.MASK (i : Nat) : Fd := ⟨(DC.QLF.SRC.addr i), 0, 3⟩
def DC.QLF.SRC.FORCE_MEASURE (i : Nat) : Fd := ⟨(DC.QLF.SRC.addr i), 3, 1⟩
def DC.QLF.SRC.ACTION (i : Nat) : Fd := ⟨(DC.QLF.SRC.addr i), 4, 2⟩
/-- `DC.QLF.HITS`, R296. -/
def DC.QLF.HITS.addr (i : Nat) : Nat := 0x80104 + 0x10 * i
def DC.QLF.HITS.HITS_MIN (i : Nat) : Fd := ⟨(DC.QLF.HITS.addr i), 0, 16⟩
def DC.QLF.HITS.HITS_MAX (i : Nat) : Fd := ⟨(DC.QLF.HITS.addr i), 16, 16⟩
/-- `DC.QLF.SPAN_MAX`, R296. -/
def DC.QLF.SPAN_MAX.addr (i : Nat) : Nat := 0x80108 + 0x10 * i
def DC.QLF.SPAN_MAX.TICKS (i : Nat) : Fd := ⟨(DC.QLF.SPAN_MAX.addr i), 0, 32⟩
/-- `DC.QLF.VIOL`, R296. -/
def DC.QLF.VIOL.addr (i : Nat) : Nat := 0x8010c + 0x10 * i
def DC.QLF.VIOL.COUNT (i : Nat) : Fd := ⟨(DC.QLF.VIOL.addr i), 0, 32⟩
/-- `DC.QLF.VALUE`, R296. -/
def DC.QLF.VALUE.addr (i : Nat) (j : Nat) : Nat := 0x90000 + 0x4000 * i + 8 * j
def DC.QLF.VALUE.V (i : Nat) (j : Nat) : Fd := ⟨(DC.QLF.VALUE.addr i j), 0, 32⟩
/-- `DC.QLF.CARE`, R296. -/
def DC.QLF.CARE.addr (i : Nat) (j : Nat) : Nat := 0x90004 + 0x4000 * i + 8 * j
def DC.QLF.CARE.C (i : Nat) (j : Nat) : Fd := ⟨(DC.QLF.CARE.addr i j), 0, 32⟩
/-- `DC.CMP.CTRL`, R296. -/
def DC.CMP.CTRL.addr : Nat := 0x8000
def DC.CMP.CTRL.EN : Fd := ⟨DC.CMP.CTRL.addr, 0, 1⟩
def DC.CMP.CTRL.MODE0 : Fd := ⟨DC.CMP.CTRL.addr, 1, 2⟩
def DC.CMP.CTRL.MODE1 : Fd := ⟨DC.CMP.CTRL.addr, 3, 2⟩
def DC.CMP.CTRL.EFFORT0 : Fd := ⟨DC.CMP.CTRL.addr, 5, 3⟩
def DC.CMP.CTRL.EFFORT1 : Fd := ⟨DC.CMP.CTRL.addr, 8, 3⟩
def DC.CMP.CTRL.FLUSH0 : Fd := ⟨DC.CMP.CTRL.addr, 11, 1⟩
def DC.CMP.CTRL.FLUSH1 : Fd := ⟨DC.CMP.CTRL.addr, 12, 1⟩
/-- `DC.CMP.LZD`, R296. -/
def DC.CMP.LZD.addr : Nat := 0x8004
def DC.CMP.LZD.BLOCK : Fd := ⟨DC.CMP.LZD.addr, 0, 11⟩
def DC.CMP.LZD.PRIMARY : Fd := ⟨DC.CMP.LZD.addr, 16, 7⟩
/-- `DC.CMP.POOL`, R296. -/
def DC.CMP.POOL.addr : Nat := 0x8008
def DC.CMP.POOL.FREE : Fd := ⟨DC.CMP.POOL.addr, 0, 12⟩
/-- `DC.CMP.RECORDS`, R296. -/
def DC.CMP.RECORDS.addr : Nat := 0x8010
def DC.CMP.RECORDS.COUNT : Fd := ⟨DC.CMP.RECORDS.addr, 0, 32⟩
/-- `DC.CMP.RAW`, R296. -/
def DC.CMP.RAW.addr (i : Nat) : Nat := 0x8010 + 4 * i
def DC.CMP.RAW.COUNT (i : Nat) : Fd := ⟨(DC.CMP.RAW.addr i), 0, 32⟩
/-- `DC.CMP.SPILLED`, R296. -/
def DC.CMP.SPILLED.addr : Nat := 0x8030
def DC.CMP.SPILLED.COUNT : Fd := ⟨DC.CMP.SPILLED.addr, 0, 32⟩
/-- `DC.FOLD.CFG`, R296. -/
def DC.FOLD.CFG.addr (i : Nat) : Nat := 0x9000 + 0x40 * i
def DC.FOLD.CFG.POLY (i : Nat) : Fd := ⟨(DC.FOLD.CFG.addr i), 0, 2⟩
def DC.FOLD.CFG.REFIN (i : Nat) : Fd := ⟨(DC.FOLD.CFG.addr i), 2, 1⟩
def DC.FOLD.CFG.REFOUT (i : Nat) : Fd := ⟨(DC.FOLD.CFG.addr i), 3, 1⟩
def DC.FOLD.CFG.FOLDLEN (i : Nat) : Fd := ⟨(DC.FOLD.CFG.addr i), 4, 2⟩
def DC.FOLD.CFG.START (i : Nat) : Fd := ⟨(DC.FOLD.CFG.addr i), 6, 1⟩
def DC.FOLD.CFG.HW (i : Nat) : Fd := ⟨(DC.FOLD.CFG.addr i), 7, 1⟩
/-- `DC.FOLD.INIT_LO`, R296. -/
def DC.FOLD.INIT_LO.addr (i : Nat) : Nat := 0x9004 + 0x40 * i
def DC.FOLD.INIT_LO.INIT (i : Nat) : Fd := ⟨(DC.FOLD.INIT_LO.addr i), 0, 32⟩
/-- `DC.FOLD.INIT_HI`, R296. -/
def DC.FOLD.INIT_HI.addr (i : Nat) : Nat := 0x9008 + 0x40 * i
def DC.FOLD.INIT_HI.INIT (i : Nat) : Fd := ⟨(DC.FOLD.INIT_HI.addr i), 0, 32⟩
/-- `DC.FOLD.XOR_LO`, R296. -/
def DC.FOLD.XOR_LO.addr (i : Nat) : Nat := 0x900c + 0x40 * i
def DC.FOLD.XOR_LO.XOROUT (i : Nat) : Fd := ⟨(DC.FOLD.XOR_LO.addr i), 0, 32⟩
/-- `DC.FOLD.XOR_HI`, R296. -/
def DC.FOLD.XOR_HI.addr (i : Nat) : Nat := 0x9010 + 0x40 * i
def DC.FOLD.XOR_HI.XOROUT (i : Nat) : Fd := ⟨(DC.FOLD.XOR_HI.addr i), 0, 32⟩
/-- `DC.FOLD.FOLD_LO`, R296. -/
def DC.FOLD.FOLD_LO.addr (i : Nat) : Nat := 0x9014 + 0x40 * i
def DC.FOLD.FOLD_LO.FOLD (i : Nat) : Fd := ⟨(DC.FOLD.FOLD_LO.addr i), 0, 32⟩
/-- `DC.FOLD.FOLD_HI`, R296. -/
def DC.FOLD.FOLD_HI.addr (i : Nat) : Nat := 0x9018 + 0x40 * i
def DC.FOLD.FOLD_HI.FOLD (i : Nat) : Fd := ⟨(DC.FOLD.FOLD_HI.addr i), 0, 32⟩
/-- `DC.FOLD.VALUE_LO`, R296. -/
def DC.FOLD.VALUE_LO.addr (i : Nat) : Nat := 0x901c + 0x40 * i
def DC.FOLD.VALUE_LO.VALUE (i : Nat) : Fd := ⟨(DC.FOLD.VALUE_LO.addr i), 0, 32⟩
/-- `DC.FOLD.VALUE_HI`, R296. -/
def DC.FOLD.VALUE_HI.addr (i : Nat) : Nat := 0x9020 + 0x40 * i
def DC.FOLD.VALUE_HI.VALUE (i : Nat) : Fd := ⟨(DC.FOLD.VALUE_HI.addr i), 0, 32⟩
/-- `DC.FOLD.DATA_HI`, R296. -/
def DC.FOLD.DATA_HI.addr (i : Nat) : Nat := 0x9024 + 0x40 * i
def DC.FOLD.DATA_HI.DATA (i : Nat) : Fd := ⟨(DC.FOLD.DATA_HI.addr i), 0, 32⟩
/-- `DC.FOLD.DATA_LO`, R296. -/
def DC.FOLD.DATA_LO.addr (i : Nat) : Nat := 0x9028 + 0x40 * i
def DC.FOLD.DATA_LO.DATA (i : Nat) : Fd := ⟨(DC.FOLD.DATA_LO.addr i), 0, 32⟩
/-- `DC.FOLD.DATA32`, R296. -/
def DC.FOLD.DATA32.addr (i : Nat) : Nat := 0x902c + 0x40 * i
def DC.FOLD.DATA32.DATA (i : Nat) : Fd := ⟨(DC.FOLD.DATA32.addr i), 0, 32⟩
/-- `DC.FOLD.RESULT_LO`, R296. -/
def DC.FOLD.RESULT_LO.addr (i : Nat) : Nat := 0x9030 + 0x40 * i
def DC.FOLD.RESULT_LO.RESULT (i : Nat) : Fd := ⟨(DC.FOLD.RESULT_LO.addr i), 0, 32⟩
/-- `DC.FOLD.RESULT_HI`, R296. -/
def DC.FOLD.RESULT_HI.addr (i : Nat) : Nat := 0x9034 + 0x40 * i
def DC.FOLD.RESULT_HI.RESULT (i : Nat) : Fd := ⟨(DC.FOLD.RESULT_HI.addr i), 0, 32⟩
/-- `DC.PEAT.CTRL`, R320. -/
def DC.PEAT.CTRL.addr : Nat := 0xa000
def DC.PEAT.CTRL.EN : Fd := ⟨DC.PEAT.CTRL.addr, 0, 1⟩
def DC.PEAT.CTRL.PSLC : Fd := ⟨DC.PEAT.CTRL.addr, 1, 1⟩
def DC.PEAT.CTRL.DRAIN : Fd := ⟨DC.PEAT.CTRL.addr, 2, 1⟩
def DC.PEAT.CTRL.FLUSH : Fd := ⟨DC.PEAT.CTRL.addr, 4, 6⟩
def DC.PEAT.CTRL.CP_MIN : Fd := ⟨DC.PEAT.CTRL.addr, 16, 6⟩
/-- `DC.PEAT.PSLC_FEAT`, R320. -/
def DC.PEAT.PSLC_FEAT.addr : Nat := 0xa004
def DC.PEAT.PSLC_FEAT.FA : Fd := ⟨DC.PEAT.PSLC_FEAT.addr, 0, 8⟩
def DC.PEAT.PSLC_FEAT.ON : Fd := ⟨DC.PEAT.PSLC_FEAT.addr, 8, 8⟩
def DC.PEAT.PSLC_FEAT.BPC : Fd := ⟨DC.PEAT.PSLC_FEAT.addr, 16, 2⟩
/-- `DC.PEAT.GEOM`, R320. -/
def DC.PEAT.GEOM.addr : Nat := 0xa008
def DC.PEAT.GEOM.CHANNELS : Fd := ⟨DC.PEAT.GEOM.addr, 0, 4⟩
def DC.PEAT.GEOM.TARGETS : Fd := ⟨DC.PEAT.GEOM.addr, 4, 2⟩
def DC.PEAT.GEOM.LUNS : Fd := ⟨DC.PEAT.GEOM.addr, 6, 1⟩
def DC.PEAT.GEOM.PLANES : Fd := ⟨DC.PEAT.GEOM.addr, 7, 2⟩
def DC.PEAT.GEOM.RATE : Fd := ⟨DC.PEAT.GEOM.addr, 9, 2⟩
def DC.PEAT.GEOM.MISMATCH : Fd := ⟨DC.PEAT.GEOM.addr, 11, 1⟩
def DC.PEAT.GEOM.CHAN_FAIL : Fd := ⟨DC.PEAT.GEOM.addr, 12, 1⟩
/-- `DC.PEAT.CAP`, R320. -/
def DC.PEAT.CAP.addr : Nat := 0xa00c
def DC.PEAT.CAP.PAGES : Fd := ⟨DC.PEAT.CAP.addr, 0, 28⟩
/-- `DC.PEAT.FREE`, R320. -/
def DC.PEAT.FREE.addr : Nat := 0xa010
def DC.PEAT.FREE.PAGES : Fd := ⟨DC.PEAT.FREE.addr, 0, 28⟩
/-- `DC.PEAT.SOFT_RES`, R320. -/
def DC.PEAT.SOFT_RES.addr : Nat := 0xa014
def DC.PEAT.SOFT_RES.PAGES : Fd := ⟨DC.PEAT.SOFT_RES.addr, 0, 28⟩
/-- `DC.PEAT.STATUS`, R320. -/
def DC.PEAT.STATUS.addr : Nat := 0xa018
def DC.PEAT.STATUS.READY : Fd := ⟨DC.PEAT.STATUS.addr, 0, 1⟩
def DC.PEAT.STATUS.SOFT : Fd := ⟨DC.PEAT.STATUS.addr, 1, 1⟩
def DC.PEAT.STATUS.HARD : Fd := ⟨DC.PEAT.STATUS.addr, 2, 1⟩
def DC.PEAT.STATUS.FENCE_MISSING : Fd := ⟨DC.PEAT.STATUS.addr, 3, 1⟩
def DC.PEAT.STATUS.PFAIL : Fd := ⟨DC.PEAT.STATUS.addr, 4, 1⟩
def DC.PEAT.STATUS.MAP_POISON : Fd := ⟨DC.PEAT.STATUS.addr, 5, 1⟩
def DC.PEAT.STATUS.CP_BUSY : Fd := ⟨DC.PEAT.STATUS.addr, 6, 1⟩
def DC.PEAT.STATUS.RELOCATING : Fd := ⟨DC.PEAT.STATUS.addr, 7, 1⟩
/-- `DC.PEAT.LOG_ID`, R320. -/
def DC.PEAT.LOG_ID.addr : Nat := 0xa01c
def DC.PEAT.LOG_ID.ID : Fd := ⟨DC.PEAT.LOG_ID.addr, 0, 32⟩
/-- `DC.PEAT.DRAIN_IP`, R320. -/
def DC.PEAT.DRAIN_IP.addr : Nat := 0xa020
def DC.PEAT.DRAIN_IP.ADDR : Fd := ⟨DC.PEAT.DRAIN_IP.addr, 0, 32⟩
/-- `DC.PEAT.DRAIN_UDP`, R320. -/
def DC.PEAT.DRAIN_UDP.addr : Nat := 0xa024
def DC.PEAT.DRAIN_UDP.DST : Fd := ⟨DC.PEAT.DRAIN_UDP.addr, 0, 16⟩
def DC.PEAT.DRAIN_UDP.SRC : Fd := ⟨DC.PEAT.DRAIN_UDP.addr, 16, 16⟩
/-- `DC.PEAT.DRAIN_CFG`, R320. -/
def DC.PEAT.DRAIN_CFG.addr : Nat := 0xa028
def DC.PEAT.DRAIN_CFG.DGRAM : Fd := ⟨DC.PEAT.DRAIN_CFG.addr, 0, 14⟩
def DC.PEAT.DRAIN_CFG.ACK_WAIT : Fd := ⟨DC.PEAT.DRAIN_CFG.addr, 16, 16⟩
/-- `DC.PEAT.POS_LO`, R320. -/
def DC.PEAT.POS_LO.addr (i : Nat) : Nat := 0xa040 + 8 * i
def DC.PEAT.POS_LO.OFFSET (i : Nat) : Fd := ⟨(DC.PEAT.POS_LO.addr i), 0, 32⟩
/-- `DC.PEAT.POS_HI`, R320. -/
def DC.PEAT.POS_HI.addr (i : Nat) : Nat := 0xa044 + 8 * i
def DC.PEAT.POS_HI.OFFSET (i : Nat) : Fd := ⟨(DC.PEAT.POS_HI.addr i), 0, 32⟩
/-- `DC.PEAT.LEDGER_LO`, R320. -/
def DC.PEAT.LEDGER_LO.addr (i : Nat) : Nat := 0xa080 + 8 * i
def DC.PEAT.LEDGER_LO.TOTAL (i : Nat) : Fd := ⟨(DC.PEAT.LEDGER_LO.addr i), 0, 32⟩
/-- `DC.PEAT.LEDGER_HI`, R320. -/
def DC.PEAT.LEDGER_HI.addr (i : Nat) : Nat := 0xa084 + 8 * i
def DC.PEAT.LEDGER_HI.TOTAL (i : Nat) : Fd := ⟨(DC.PEAT.LEDGER_HI.addr i), 0, 16⟩
/-- `DC.PEAT.PROG_FAIL`, R320. -/
def DC.PEAT.PROG_FAIL.addr : Nat := 0xa0b0
def DC.PEAT.PROG_FAIL.COUNT : Fd := ⟨DC.PEAT.PROG_FAIL.addr, 0, 32⟩
/-- `DC.PEAT.ERASE_FAIL`, R320. -/
def DC.PEAT.ERASE_FAIL.addr : Nat := 0xa0b4
def DC.PEAT.ERASE_FAIL.COUNT : Fd := ⟨DC.PEAT.ERASE_FAIL.addr, 0, 32⟩
/-- `DC.PEAT.BCH_WARN`, R320. -/
def DC.PEAT.BCH_WARN.addr : Nat := 0xa0b8
def DC.PEAT.BCH_WARN.THRESH : Fd := ⟨DC.PEAT.BCH_WARN.addr, 0, 7⟩
/-- `DC.PEAT.POISON_REC`, R320. -/
def DC.PEAT.POISON_REC.addr : Nat := 0xa0bc
def DC.PEAT.POISON_REC.COUNT : Fd := ⟨DC.PEAT.POISON_REC.addr, 0, 32⟩
/-- `DC.PEAT.RETIRED`, R320. -/
def DC.PEAT.RETIRED.addr : Nat := 0xa0c0
def DC.PEAT.RETIRED.BLOCKS : Fd := ⟨DC.PEAT.RETIRED.addr, 0, 24⟩
/-- `DC.PEAT.ERASE_MAX`, R320. -/
def DC.PEAT.ERASE_MAX.addr : Nat := 0xa0c4
def DC.PEAT.ERASE_MAX.COUNT : Fd := ⟨DC.PEAT.ERASE_MAX.addr, 0, 32⟩
/-- `DC.PEAT.ERASE_MEAN`, R320. -/
def DC.PEAT.ERASE_MEAN.addr : Nat := 0xa0c8
def DC.PEAT.ERASE_MEAN.COUNT : Fd := ⟨DC.PEAT.ERASE_MEAN.addr, 0, 32⟩
/-- `DC.PEAT.REPLAY_MS`, R320. -/
def DC.PEAT.REPLAY_MS.addr : Nat := 0xa0cc
def DC.PEAT.REPLAY_MS.MS : Fd := ⟨DC.PEAT.REPLAY_MS.addr, 0, 16⟩
/-- `DC.PEAT.P_LOG_ID`, R320. -/
def DC.PEAT.P_LOG_ID.addr : Nat := 0xa100
def DC.PEAT.P_LOG_ID.ID : Fd := ⟨DC.PEAT.P_LOG_ID.addr, 0, 32⟩
/-- `DC.PEAT.P_POS_LO`, R320. -/
def DC.PEAT.P_POS_LO.addr (i : Nat) : Nat := 0xa140 + 8 * i
def DC.PEAT.P_POS_LO.OFFSET (i : Nat) : Fd := ⟨(DC.PEAT.P_POS_LO.addr i), 0, 32⟩
/-- `DC.PEAT.P_POS_HI`, R320. -/
def DC.PEAT.P_POS_HI.addr (i : Nat) : Nat := 0xa144 + 8 * i
def DC.PEAT.P_POS_HI.OFFSET (i : Nat) : Fd := ⟨(DC.PEAT.P_POS_HI.addr i), 0, 32⟩
/-- `DC.MEM.CTRL`, R349. -/
def DC.MEM.CTRL.addr : Nat := 0xb000
def DC.MEM.CTRL.SCRUB_EN : Fd := ⟨DC.MEM.CTRL.addr, 0, 1⟩
def DC.MEM.CTRL.SCRUB_HOURS : Fd := ⟨DC.MEM.CTRL.addr, 8, 8⟩
def DC.MEM.CTRL.STUCK : Fd := ⟨DC.MEM.CTRL.addr, 16, 8⟩
def DC.MEM.CTRL.SRAM_SCRUB : Fd := ⟨DC.MEM.CTRL.addr, 24, 8⟩
/-- `DC.MEM.STATUS`, R349. -/
def DC.MEM.STATUS.addr : Nat := 0xb004
def DC.MEM.STATUS.SELFTEST_PASS : Fd := ⟨DC.MEM.STATUS.addr, 0, 1⟩
def DC.MEM.STATUS.LIMP : Fd := ⟨DC.MEM.STATUS.addr, 1, 1⟩
def DC.MEM.STATUS.FILL_DONE : Fd := ⟨DC.MEM.STATUS.addr, 2, 1⟩
def DC.MEM.STATUS.LOG_FULL : Fd := ⟨DC.MEM.STATUS.addr, 3, 1⟩
def DC.MEM.STATUS.STUCK_ANY : Fd := ⟨DC.MEM.STATUS.addr, 4, 1⟩
def DC.MEM.STATUS.OVF_ANY : Fd := ⟨DC.MEM.STATUS.addr, 5, 1⟩
def DC.MEM.STATUS.HEAL_BUSY : Fd := ⟨DC.MEM.STATUS.addr, 6, 1⟩
/-- `DC.MEM.SELFTEST`, R349. -/
def DC.MEM.SELFTEST.addr : Nat := 0xb008
def DC.MEM.SELFTEST.FAIL : Fd := ⟨DC.MEM.SELFTEST.addr, 0, 27⟩
/-- `DC.MEM.FILL_MS`, R349. -/
def DC.MEM.FILL_MS.addr : Nat := 0xb00c
def DC.MEM.FILL_MS.MS : Fd := ⟨DC.MEM.FILL_MS.addr, 0, 16⟩
/-- `DC.MEM.LOG_COUNT`, R349. -/
def DC.MEM.LOG_COUNT.addr : Nat := 0xb010
def DC.MEM.LOG_COUNT.ENTRIES : Fd := ⟨DC.MEM.LOG_COUNT.addr, 0, 11⟩
/-- `DC.MEM.LOG_LOST`, R349. -/
def DC.MEM.LOG_LOST.addr : Nat := 0xb014
def DC.MEM.LOG_LOST.COUNT : Fd := ⟨DC.MEM.LOG_LOST.addr, 0, 32⟩
/-- `DC.MEM.LOG_SEL`, R349. -/
def DC.MEM.LOG_SEL.addr : Nat := 0xb018
def DC.MEM.LOG_SEL.INDEX : Fd := ⟨DC.MEM.LOG_SEL.addr, 0, 10⟩
/-- `DC.MEM.LOG_ACK`, R349. -/
def DC.MEM.LOG_ACK.addr : Nat := 0xb01c
def DC.MEM.LOG_ACK.INDEX : Fd := ⟨DC.MEM.LOG_ACK.addr, 0, 10⟩
/-- `DC.MEM.LOG_W`, R349. -/
def DC.MEM.LOG_W.addr (i : Nat) : Nat := 0xb020 + 4 * i
def DC.MEM.LOG_W.DATA (i : Nat) : Fd := ⟨(DC.MEM.LOG_W.addr i), 0, 32⟩
/-- `DC.MEM.BUCKET`, R349. -/
def DC.MEM.BUCKET.addr (i : Nat) : Nat := 0xb040 + 4 * i
def DC.MEM.BUCKET.LEVEL (i : Nat) : Fd := ⟨(DC.MEM.BUCKET.addr i), 0, 8⟩
def DC.MEM.BUCKET.DEPTH (i : Nat) : Fd := ⟨(DC.MEM.BUCKET.addr i), 8, 8⟩
def DC.MEM.BUCKET.LEAK (i : Nat) : Fd := ⟨(DC.MEM.BUCKET.addr i), 16, 15⟩
def DC.MEM.BUCKET.OVF (i : Nat) : Fd := ⟨(DC.MEM.BUCKET.addr i), 31, 1⟩
/-- `DC.MEM.DRAM_CE`, R349. -/
def DC.MEM.DRAM_CE.addr (i : Nat) : Nat := 0xb080 + 4 * i
def DC.MEM.DRAM_CE.COUNT (i : Nat) : Fd := ⟨(DC.MEM.DRAM_CE.addr i), 0, 32⟩
/-- `DC.MEM.DRAM_UE`, R349. -/
def DC.MEM.DRAM_UE.addr (i : Nat) : Nat := 0xb0a0 + 4 * i
def DC.MEM.DRAM_UE.COUNT (i : Nat) : Fd := ⟨(DC.MEM.DRAM_UE.addr i), 0, 32⟩
/-- `DC.MEM.SRAM_UE`, R349. -/
def DC.MEM.SRAM_UE.addr : Nat := 0xb0c0
def DC.MEM.SRAM_UE.COUNT : Fd := ⟨DC.MEM.SRAM_UE.addr, 0, 32⟩
/-- `DC.MEM.BITES`, R349. -/
def DC.MEM.BITES.addr : Nat := 0xb0c4
def DC.MEM.BITES.COUNT : Fd := ⟨DC.MEM.BITES.addr, 0, 32⟩
/-- `DC.MEM.CTX_SKIP`, R349. -/
def DC.MEM.CTX_SKIP.addr : Nat := 0xb0c8
def DC.MEM.CTX_SKIP.COUNT : Fd := ⟨DC.MEM.CTX_SKIP.addr, 0, 32⟩
/-- `DC.MEM.HEAL_DONE`, R349. -/
def DC.MEM.HEAL_DONE.addr : Nat := 0xb0cc
def DC.MEM.HEAL_DONE.COUNT : Fd := ⟨DC.MEM.HEAL_DONE.addr, 0, 32⟩
/-- `DC.MEM.HEAL_SKIPPED`, R349. -/
def DC.MEM.HEAL_SKIPPED.addr : Nat := 0xb0d0
def DC.MEM.HEAL_SKIPPED.COUNT : Fd := ⟨DC.MEM.HEAL_SKIPPED.addr, 0, 32⟩
/-- `DC.MEM.SCRUB_PASS`, R349. -/
def DC.MEM.SCRUB_PASS.addr : Nat := 0xb0d4
def DC.MEM.SCRUB_PASS.COUNT : Fd := ⟨DC.MEM.SCRUB_PASS.addr, 0, 32⟩
/-- `DC.MEM.FLASH_UE`, R349. -/
def DC.MEM.FLASH_UE.addr : Nat := 0xb0d8
def DC.MEM.FLASH_UE.COUNT : Fd := ⟨DC.MEM.FLASH_UE.addr, 0, 32⟩
/-- `DC.MEM.TMR_FIX`, R349. -/
def DC.MEM.TMR_FIX.addr : Nat := 0xb0dc
def DC.MEM.TMR_FIX.COUNT : Fd := ⟨DC.MEM.TMR_FIX.addr, 0, 32⟩
/-- `DC.PAIR.CFG`, R370. -/
def DC.PAIR.CFG.addr : Nat := 0x3000
def DC.PAIR.CFG.PAIRED : Fd := ⟨DC.PAIR.CFG.addr, 0, 1⟩
def DC.PAIR.CFG.PREF : Fd := ⟨DC.PAIR.CFG.addr, 1, 1⟩
def DC.PAIR.CFG.RETURN_EN : Fd := ⟨DC.PAIR.CFG.addr, 2, 1⟩
/-- `DC.PAIR.STATUS`, R370. -/
def DC.PAIR.STATUS.addr : Nat := 0x3004
def DC.PAIR.STATUS.ROLE : Fd := ⟨DC.PAIR.STATUS.addr, 0, 2⟩
def DC.PAIR.STATUS.PSTATE : Fd := ⟨DC.PAIR.STATUS.addr, 2, 2⟩
def DC.PAIR.STATUS.HOLD : Fd := ⟨DC.PAIR.STATUS.addr, 4, 1⟩
def DC.PAIR.STATUS.PREF_CLASH : Fd := ⟨DC.PAIR.STATUS.addr, 5, 1⟩
def DC.PAIR.STATUS.RETURN_READY : Fd := ⟨DC.PAIR.STATUS.addr, 6, 1⟩
def DC.PAIR.STATUS.NO_TAKE : Fd := ⟨DC.PAIR.STATUS.addr, 7, 1⟩
def DC.PAIR.STATUS.SYNC_FRAMES : Fd := ⟨DC.PAIR.STATUS.addr, 16, 16⟩
/-- `DC.PAIR.EPOCH`, R370. -/
def DC.PAIR.EPOCH.addr : Nat := 0x3008
def DC.PAIR.EPOCH.EPOCH : Fd := ⟨DC.PAIR.EPOCH.addr, 0, 16⟩
/-- `DC.PAIR.COPY`, R370. -/
def DC.PAIR.COPY.addr : Nat := 0x300c
def DC.PAIR.COPY.BYTES : Fd := ⟨DC.PAIR.COPY.addr, 0, 20⟩
/-- `DC.PAIR.COPY_PEAK`, R370. -/
def DC.PAIR.COPY_PEAK.addr : Nat := 0x3010
def DC.PAIR.COPY_PEAK.BYTES : Fd := ⟨DC.PAIR.COPY_PEAK.addr, 0, 20⟩
/-- `DC.PAIR.LAST_ACK`, R370. -/
def DC.PAIR.LAST_ACK.addr : Nat := 0x3014
def DC.PAIR.LAST_ACK.FRAME : Fd := ⟨DC.PAIR.LAST_ACK.addr, 0, 32⟩
/-- `DC.PAIR.TAKEOVERS`, R370. -/
def DC.PAIR.TAKEOVERS.addr : Nat := 0x3018
def DC.PAIR.TAKEOVERS.COUNT : Fd := ⟨DC.PAIR.TAKEOVERS.addr, 0, 32⟩
/-- `DC.PAIR.RETURNS`, R370. -/
def DC.PAIR.RETURNS.addr : Nat := 0x301c
def DC.PAIR.RETURNS.COUNT : Fd := ⟨DC.PAIR.RETURNS.addr, 0, 32⟩
/-- `DC.PAIR.DEMOTIONS`, R370. -/
def DC.PAIR.DEMOTIONS.addr : Nat := 0x3020
def DC.PAIR.DEMOTIONS.COUNT : Fd := ⟨DC.PAIR.DEMOTIONS.addr, 0, 32⟩
/-- `DC.PAIR.DISCARDED`, R370. -/
def DC.PAIR.DISCARDED.addr : Nat := 0x3024
def DC.PAIR.DISCARDED.COUNT : Fd := ⟨DC.PAIR.DISCARDED.addr, 0, 32⟩
/-- `DC.PAIR.HB_MISS`, R370. -/
def DC.PAIR.HB_MISS.addr : Nat := 0x3028
def DC.PAIR.HB_MISS.COUNT : Fd := ⟨DC.PAIR.HB_MISS.addr, 0, 32⟩
/-- `DC.PAIR.COPY_LATE`, R370. -/
def DC.PAIR.COPY_LATE.addr : Nat := 0x302c
def DC.PAIR.COPY_LATE.COUNT : Fd := ⟨DC.PAIR.COPY_LATE.addr, 0, 32⟩
/-- `DC.PAIR.CONFIRM_FAIL`, R370. -/
def DC.PAIR.CONFIRM_FAIL.addr : Nat := 0x3030
def DC.PAIR.CONFIRM_FAIL.COUNT : Fd := ⟨DC.PAIR.CONFIRM_FAIL.addr, 0, 32⟩
/-- `DC.PAIR.P_STATUS`, R370. -/
def DC.PAIR.P_STATUS.addr : Nat := 0x3034
def DC.PAIR.P_STATUS.EPOCH : Fd := ⟨DC.PAIR.P_STATUS.addr, 0, 16⟩
def DC.PAIR.P_STATUS.ROLE : Fd := ⟨DC.PAIR.P_STATUS.addr, 16, 2⟩
def DC.PAIR.P_STATUS.PSTATE : Fd := ⟨DC.PAIR.P_STATUS.addr, 18, 2⟩
def DC.PAIR.P_STATUS.PREF : Fd := ⟨DC.PAIR.P_STATUS.addr, 20, 1⟩
def DC.PAIR.P_STATUS.RETURN_READY : Fd := ⟨DC.PAIR.P_STATUS.addr, 21, 1⟩
/-- `DC.PAIR.P_DEPTH`, R370. -/
def DC.PAIR.P_DEPTH.addr : Nat := 0x3038
def DC.PAIR.P_DEPTH.FRAMES : Fd := ⟨DC.PAIR.P_DEPTH.addr, 0, 24⟩
/-- `DC.ABS.CFG`, R425. -/
def DC.ABS.CFG.addr : Nat := 0x2000
def DC.ABS.CFG.PORT : Fd := ⟨DC.ABS.CFG.addr, 0, 16⟩
/-- `DC.ABS.STATUS`, R425. -/
def DC.ABS.STATUS.addr : Nat := 0x2004
def DC.ABS.STATUS.KEY_BLANK : Fd := ⟨DC.ABS.STATUS.addr, 0, 1⟩
def DC.ABS.STATUS.NQ_OVF : Fd := ⟨DC.ABS.STATUS.addr, 1, 1⟩
def DC.ABS.STATUS.IRQ : Fd := ⟨DC.ABS.STATUS.addr, 2, 1⟩
/-- `DC.ABS.SVC_IP`, R425. -/
def DC.ABS.SVC_IP.addr : Nat := 0x2008
def DC.ABS.SVC_IP.ADDR : Fd := ⟨DC.ABS.SVC_IP.addr, 0, 32⟩
/-- `DC.ABS.SVC_MAC_LO`, R425. -/
def DC.ABS.SVC_MAC_LO.addr : Nat := 0x200c
def DC.ABS.SVC_MAC_LO.MAC : Fd := ⟨DC.ABS.SVC_MAC_LO.addr, 0, 32⟩
/-- `DC.ABS.SVC_MAC_HI`, R425. -/
def DC.ABS.SVC_MAC_HI.addr : Nat := 0x2010
def DC.ABS.SVC_MAC_HI.MAC : Fd := ⟨DC.ABS.SVC_MAC_HI.addr, 0, 16⟩
/-- `DC.ABS.UNIT_IP`, R425. -/
def DC.ABS.UNIT_IP.addr : Nat := 0x2014
def DC.ABS.UNIT_IP.ADDR : Fd := ⟨DC.ABS.UNIT_IP.addr, 0, 32⟩
/-- `DC.ABS.UNIT_MAC_LO`, R425. -/
def DC.ABS.UNIT_MAC_LO.addr : Nat := 0x2018
def DC.ABS.UNIT_MAC_LO.MAC : Fd := ⟨DC.ABS.UNIT_MAC_LO.addr, 0, 32⟩
/-- `DC.ABS.UNIT_MAC_HI`, R425. -/
def DC.ABS.UNIT_MAC_HI.addr : Nat := 0x201c
def DC.ABS.UNIT_MAC_HI.MAC : Fd := ⟨DC.ABS.UNIT_MAC_HI.addr, 0, 16⟩
/-- `DC.ABS.RL_A`, R425. -/
def DC.ABS.RL_A.addr (i : Nat) : Nat := 0x2020 + 8 * i
def DC.ABS.RL_A.RATE (i : Nat) : Fd := ⟨(DC.ABS.RL_A.addr i), 0, 16⟩
def DC.ABS.RL_A.BURST (i : Nat) : Fd := ⟨(DC.ABS.RL_A.addr i), 16, 16⟩
/-- `DC.ABS.RL_B`, R425. -/
def DC.ABS.RL_B.addr (i : Nat) : Nat := 0x2024 + 8 * i
def DC.ABS.RL_B.RATE (i : Nat) : Fd := ⟨(DC.ABS.RL_B.addr i), 0, 16⟩
def DC.ABS.RL_B.BURST (i : Nat) : Fd := ⟨(DC.ABS.RL_B.addr i), 16, 16⟩
/-- `DC.ABS.NOTICE_CFG`, R425. -/
def DC.ABS.NOTICE_CFG.addr : Nat := 0x2030
def DC.ABS.NOTICE_CFG.RESEND : Fd := ⟨DC.ABS.NOTICE_CFG.addr, 0, 16⟩
def DC.ABS.NOTICE_CFG.IRQ_MASK : Fd := ⟨DC.ABS.NOTICE_CFG.addr, 16, 5⟩
/-- `DC.ABS.NOTICE_PEND`, R425. -/
def DC.ABS.NOTICE_PEND.addr : Nat := 0x2034
def DC.ABS.NOTICE_PEND.COUNT : Fd := ⟨DC.ABS.NOTICE_PEND.addr, 0, 7⟩
/-- `DC.ABS.NOTICE_SEQ`, R425. -/
def DC.ABS.NOTICE_SEQ.addr : Nat := 0x2038
def DC.ABS.NOTICE_SEQ.SEQ : Fd := ⟨DC.ABS.NOTICE_SEQ.addr, 0, 32⟩
/-- `DC.ABS.NOTICE_LOST`, R425. -/
def DC.ABS.NOTICE_LOST.addr : Nat := 0x203c
def DC.ABS.NOTICE_LOST.COUNT : Fd := ⟨DC.ABS.NOTICE_LOST.addr, 0, 32⟩
/-- `DC.ABS.FWD_TIMEOUT`, R425. -/
def DC.ABS.FWD_TIMEOUT.addr : Nat := 0x2040
def DC.ABS.FWD_TIMEOUT.COUNT : Fd := ⟨DC.ABS.FWD_TIMEOUT.addr, 0, 32⟩
/-- `DC.ABS.HOST_IP`, R425. -/
def DC.ABS.HOST_IP.addr (i : Nat) : Nat := 0x2080 + 0x20 * i
def DC.ABS.HOST_IP.ADDR (i : Nat) : Fd := ⟨(DC.ABS.HOST_IP.addr i), 0, 32⟩
/-- `DC.ABS.HOST_CFG`, R425. -/
def DC.ABS.HOST_CFG.addr (i : Nat) : Nat := 0x2084 + 0x20 * i
def DC.ABS.HOST_CFG.UDP (i : Nat) : Fd := ⟨(DC.ABS.HOST_CFG.addr i), 0, 16⟩
def DC.ABS.HOST_CFG.EN (i : Nat) : Fd := ⟨(DC.ABS.HOST_CFG.addr i), 16, 1⟩
def DC.ABS.HOST_CFG.NOTIFY (i : Nat) : Fd := ⟨(DC.ABS.HOST_CFG.addr i), 17, 1⟩
/-- `DC.ABS.SESSION`, R425. -/
def DC.ABS.SESSION.addr (i : Nat) : Nat := 0x2088 + 0x20 * i
def DC.ABS.SESSION.SESSION (i : Nat) : Fd := ⟨(DC.ABS.SESSION.addr i), 0, 32⟩
/-- `DC.ABS.HIGHEST`, R425. -/
def DC.ABS.HIGHEST.addr (i : Nat) : Nat := 0x208c + 0x20 * i
def DC.ABS.HIGHEST.SEQ (i : Nat) : Fd := ⟨(DC.ABS.HIGHEST.addr i), 0, 32⟩
/-- `DC.ABS.AUTH_FAIL`, R425. -/
def DC.ABS.AUTH_FAIL.addr (i : Nat) : Nat := 0x2090 + 0x20 * i
def DC.ABS.AUTH_FAIL.COUNT (i : Nat) : Fd := ⟨(DC.ABS.AUTH_FAIL.addr i), 0, 32⟩
/-- `DC.ABS.STALE`, R425. -/
def DC.ABS.STALE.addr (i : Nat) : Nat := 0x2094 + 0x20 * i
def DC.ABS.STALE.COUNT (i : Nat) : Fd := ⟨(DC.ABS.STALE.addr i), 0, 32⟩
/-- `DC.ABS.STRANGER`, R425. -/
def DC.ABS.STRANGER.addr (i : Nat) : Nat := 0x2180 + 4 * i
def DC.ABS.STRANGER.COUNT (i : Nat) : Fd := ⟨(DC.ABS.STRANGER.addr i), 0, 32⟩
/-- `DC.BOOT.STATE`, R451. -/
def DC.BOOT.STATE.addr : Nat := 0x1000
def DC.BOOT.STATE.STATE : Fd := ⟨DC.BOOT.STATE.addr, 0, 4⟩
def DC.BOOT.STATE.PREV : Fd := ⟨DC.BOOT.STATE.addr, 4, 4⟩
def DC.BOOT.STATE.FUSE_ERR : Fd := ⟨DC.BOOT.STATE.addr, 8, 1⟩
/-- `DC.BOOT.CAUSE`, R451. -/
def DC.BOOT.CAUSE.addr : Nat := 0x1004
def DC.BOOT.CAUSE.POR : Fd := ⟨DC.BOOT.CAUSE.addr, 0, 1⟩
def DC.BOOT.CAUSE.BOR : Fd := ⟨DC.BOOT.CAUSE.addr, 1, 1⟩
def DC.BOOT.CAUSE.SOFT : Fd := ⟨DC.BOOT.CAUSE.addr, 2, 1⟩
/-- `DC.BOOT.IMAGE`, R451. -/
def DC.BOOT.IMAGE.addr : Nat := 0x1008
def DC.BOOT.IMAGE.SRC : Fd := ⟨DC.BOOT.IMAGE.addr, 0, 2⟩
def DC.BOOT.IMAGE.ATTEMPTS : Fd := ⟨DC.BOOT.IMAGE.addr, 8, 8⟩
def DC.BOOT.IMAGE.IMAGE_IGN : Fd := ⟨DC.BOOT.IMAGE.addr, 16, 16⟩
/-- `DC.BOOT.IMAGE_VER`, R451. -/
def DC.BOOT.IMAGE_VER.addr : Nat := 0x100c
def DC.BOOT.IMAGE_VER.VER : Fd := ⟨DC.BOOT.IMAGE_VER.addr, 0, 32⟩
/-- `DC.BOOT.CTRL`, R451. -/
def DC.BOOT.CTRL.addr : Nat := 0x1010
def DC.BOOT.CTRL.GO_CLUSTER : Fd := ⟨DC.BOOT.CTRL.addr, 0, 1⟩
def DC.BOOT.CTRL.GO_RUN : Fd := ⟨DC.BOOT.CTRL.addr, 1, 1⟩
def DC.BOOT.CTRL.FE_AUTO : Fd := ⟨DC.BOOT.CTRL.addr, 2, 1⟩
/-- `DC.BOOT.RESET`, R451. -/
def DC.BOOT.RESET.addr : Nat := 0x1014
def DC.BOOT.RESET.KEY : Fd := ⟨DC.BOOT.RESET.addr, 0, 32⟩
/-- `DC.BOOT.BOOT_MS`, R451. -/
def DC.BOOT.BOOT_MS.addr : Nat := 0x1018
def DC.BOOT.BOOT_MS.MS : Fd := ⟨DC.BOOT.BOOT_MS.addr, 0, 24⟩
/-- `DC.BOOT.DROOP_CFG`, R451. -/
def DC.BOOT.DROOP_CFG.addr : Nat := 0x101c
def DC.BOOT.DROOP_CFG.L1 : Fd := ⟨DC.BOOT.DROOP_CFG.addr, 0, 10⟩
def DC.BOOT.DROOP_CFG.L2 : Fd := ⟨DC.BOOT.DROOP_CFG.addr, 10, 10⟩
def DC.BOOT.DROOP_CFG.HOLD : Fd := ⟨DC.BOOT.DROOP_CFG.addr, 20, 8⟩
/-- `DC.BOOT.DROOP_STAT`, R451. -/
def DC.BOOT.DROOP_STAT.addr : Nat := 0x1020
def DC.BOOT.DROOP_STAT.STEP : Fd := ⟨DC.BOOT.DROOP_STAT.addr, 0, 2⟩
def DC.BOOT.DROOP_STAT.MIN : Fd := ⟨DC.BOOT.DROOP_STAT.addr, 2, 10⟩
/-- `DC.BOOT.DROOP_N2`, R451. -/
def DC.BOOT.DROOP_N2.addr : Nat := 0x1024
def DC.BOOT.DROOP_N2.COUNT : Fd := ⟨DC.BOOT.DROOP_N2.addr, 0, 32⟩
/-- `DC.BOOT.DROOP_N4`, R451. -/
def DC.BOOT.DROOP_N4.addr : Nat := 0x1028
def DC.BOOT.DROOP_N4.COUNT : Fd := ⟨DC.BOOT.DROOP_N4.addr, 0, 32⟩
/-- `DC.BOOT.CAL_SKIP`, R451. -/
def DC.BOOT.CAL_SKIP.addr : Nat := 0x102c
def DC.BOOT.CAL_SKIP.COUNT : Fd := ⟨DC.BOOT.CAL_SKIP.addr, 0, 32⟩
/-- `DC.LDG.CTRL`, R471. -/
def DC.LDG.CTRL.addr : Nat := 0xc000
def DC.LDG.CTRL.SNAP : Fd := ⟨DC.LDG.CTRL.addr, 0, 1⟩
def DC.LDG.CTRL.LEDGER_WAIT : Fd := ⟨DC.LDG.CTRL.addr, 8, 8⟩
/-- `DC.LDG.STATUS`, R471. -/
def DC.LDG.STATUS.addr : Nat := 0xc004
def DC.LDG.STATUS.SNAP_VALID : Fd := ⟨DC.LDG.STATUS.addr, 0, 1⟩
def DC.LDG.STATUS.FAULT_ANY : Fd := ⟨DC.LDG.STATUS.addr, 1, 1⟩
def DC.LDG.STATUS.STALE_ANY : Fd := ⟨DC.LDG.STATUS.addr, 2, 1⟩
/-- `DC.LDG.SNAP_FRAME_LO`, R471. -/
def DC.LDG.SNAP_FRAME_LO.addr : Nat := 0xc008
def DC.LDG.SNAP_FRAME_LO.FRAME : Fd := ⟨DC.LDG.SNAP_FRAME_LO.addr, 0, 32⟩
/-- `DC.LDG.SNAP_FRAME_HI`, R471. -/
def DC.LDG.SNAP_FRAME_HI.addr : Nat := 0xc00c
def DC.LDG.SNAP_FRAME_HI.FRAME : Fd := ⟨DC.LDG.SNAP_FRAME_HI.addr, 0, 16⟩
/-- `DC.LDG.FAULTS`, R471. -/
def DC.LDG.FAULTS.addr : Nat := 0xc010
def DC.LDG.FAULTS.COUNT : Fd := ⟨DC.LDG.FAULTS.addr, 0, 32⟩
/-- `DC.LDG.TOT_LO`, R471. -/
def DC.LDG.TOT_LO.addr (i : Nat) : Nat := 0xc040 + 8 * i
def DC.LDG.TOT_LO.TOTAL (i : Nat) : Fd := ⟨(DC.LDG.TOT_LO.addr i), 0, 32⟩
/-- `DC.LDG.TOT_HI`, R471. -/
def DC.LDG.TOT_HI.addr (i : Nat) : Nat := 0xc044 + 8 * i
def DC.LDG.TOT_HI.TOTAL (i : Nat) : Fd := ⟨(DC.LDG.TOT_HI.addr i), 0, 32⟩
/-- `DC.LDG.ACCT_LO`, R471. -/
def DC.LDG.ACCT_LO.addr (i : Nat) (j : Nat) : Nat := 0xd000 + 0x80 * i + 8 * j
def DC.LDG.ACCT_LO.TOTAL (i : Nat) (j : Nat) : Fd := ⟨(DC.LDG.ACCT_LO.addr i j), 0, 32⟩
/-- `DC.LDG.ACCT_HI`, R471. -/
def DC.LDG.ACCT_HI.addr (i : Nat) (j : Nat) : Nat := 0xd004 + 0x80 * i + 8 * j
def DC.LDG.ACCT_HI.TOTAL (i : Nat) (j : Nat) : Fd := ⟨(DC.LDG.ACCT_HI.addr i j), 0, 32⟩
/-- `DC.LDG.SETTLED`, R471. -/
def DC.LDG.SETTLED.addr (i : Nat) : Nat := 0xd050 + 0x80 * i
def DC.LDG.SETTLED.FRAME (i : Nat) : Fd := ⟨(DC.LDG.SETTLED.addr i), 0, 32⟩
/-- `DC.LDG.PSTAT`, R471. -/
def DC.LDG.PSTAT.addr (i : Nat) : Nat := 0xd054 + 0x80 * i
def DC.LDG.PSTAT.STALE (i : Nat) : Fd := ⟨(DC.LDG.PSTAT.addr i), 0, 1⟩
def DC.LDG.PSTAT.FAULT (i : Nat) : Fd := ⟨(DC.LDG.PSTAT.addr i), 1, 1⟩
def DC.LDG.PSTAT.RESETS (i : Nat) : Fd := ⟨(DC.LDG.PSTAT.addr i), 16, 8⟩
/-- `DC.LDG.PFAULTS`, R471. -/
def DC.LDG.PFAULTS.addr (i : Nat) : Nat := 0xd058 + 0x80 * i
def DC.LDG.PFAULTS.COUNT (i : Nat) : Fd := ⟨(DC.LDG.PFAULTS.addr i), 0, 32⟩
/-- `DC.LDG.UNSETTLED`, R471. -/
def DC.LDG.UNSETTLED.addr (i : Nat) : Nat := 0xd05c + 0x80 * i
def DC.LDG.UNSETTLED.COUNT (i : Nat) : Fd := ⟨(DC.LDG.UNSETTLED.addr i), 0, 32⟩
/-- `DC.LDG.XCHECK_SKIP`, R471. -/
def DC.LDG.XCHECK_SKIP.addr (i : Nat) : Nat := 0xd060 + 0x80 * i
def DC.LDG.XCHECK_SKIP.COUNT (i : Nat) : Fd := ⟨(DC.LDG.XCHECK_SKIP.addr i), 0, 32⟩
/-- `DC.ID.PART`, R482. -/
def DC.ID.PART.addr : Nat := 0x0
def DC.ID.PART.CHIP : Fd := ⟨DC.ID.PART.addr, 0, 16⟩
def DC.ID.PART.MAJOR : Fd := ⟨DC.ID.PART.addr, 16, 4⟩
def DC.ID.PART.MINOR : Fd := ⟨DC.ID.PART.addr, 20, 4⟩
def DC.ID.PART.GRADE : Fd := ⟨DC.ID.PART.addr, 24, 1⟩
/-- `DC.ID.DIE_LO`, R482. -/
def DC.ID.DIE_LO.addr : Nat := 0x4
def DC.ID.DIE_LO.ID : Fd := ⟨DC.ID.DIE_LO.addr, 0, 32⟩
/-- `DC.ID.DIE_HI`, R482. -/
def DC.ID.DIE_HI.addr : Nat := 0x8
def DC.ID.DIE_HI.ID : Fd := ⟨DC.ID.DIE_HI.addr, 0, 32⟩
/-- `DC.ID.MAP_VER`, R482. -/
def DC.ID.MAP_VER.addr : Nat := 0xc
def DC.ID.MAP_VER.VER : Fd := ⟨DC.ID.MAP_VER.addr, 0, 16⟩
/-- `DC.ID.SUMMARY`, R482. -/
def DC.ID.SUMMARY.addr : Nat := 0x10
def DC.ID.SUMMARY.BOOT : Fd := ⟨DC.ID.SUMMARY.addr, 0, 1⟩
def DC.ID.SUMMARY.MEM : Fd := ⟨DC.ID.SUMMARY.addr, 1, 1⟩
def DC.ID.SUMMARY.LDG : Fd := ⟨DC.ID.SUMMARY.addr, 2, 1⟩
def DC.ID.SUMMARY.TIME : Fd := ⟨DC.ID.SUMMARY.addr, 3, 1⟩
def DC.ID.SUMMARY.PEAT : Fd := ⟨DC.ID.SUMMARY.addr, 4, 1⟩
def DC.ID.SUMMARY.TRG : Fd := ⟨DC.ID.SUMMARY.addr, 5, 1⟩
def DC.ID.SUMMARY.QLF : Fd := ⟨DC.ID.SUMMARY.addr, 6, 1⟩
def DC.ID.SUMMARY.PAIR : Fd := ⟨DC.ID.SUMMARY.addr, 7, 1⟩
def DC.ID.SUMMARY.IBR : Fd := ⟨DC.ID.SUMMARY.addr, 8, 1⟩
def DC.ID.SUMMARY.ABS : Fd := ⟨DC.ID.SUMMARY.addr, 9, 1⟩
def DC.ID.SUMMARY.NOTICE : Fd := ⟨DC.ID.SUMMARY.addr, 16, 5⟩
def DC.ID.SUMMARY.IRQ : Fd := ⟨DC.ID.SUMMARY.addr, 21, 1⟩
/-- `DC.ID.SCRATCH`, R482. -/
def DC.ID.SCRATCH.addr : Nat := 0x14
def DC.ID.SCRATCH.DATA : Fd := ⟨DC.ID.SCRATCH.addr, 0, 32⟩

/-- Rows of the `DC.IBR` tables. -/
def DC.IBR.table : List RegDesc := [
  ⟨0x10000, [(0, 64, 64)],
    [⟨0, 1, .rw, 0, false, []⟩,
     ⟨1, 2, .rw, 3, false, []⟩,
     ⟨3, 2, .rw, 2, false, [(3, 3)]⟩,
     ⟨5, 8, .rw, 0, false, []⟩,
     ⟨13, 1, .rw, 0, false, []⟩,
     ⟨14, 2, .rw, 3, false, []⟩,
     ⟨16, 2, .rw, 0, false, []⟩,
     ⟨18, 1, .w1s, 0, false, []⟩]⟩,
  ⟨0x10004, [(0, 64, 64)],
    [⟨0, 4, .ro, 0, false, []⟩,
     ⟨4, 2, .ro, 0, false, []⟩,
     ⟨6, 1, .ro, 0, false, []⟩,
     ⟨7, 1, .w1c, 0, false, []⟩,
     ⟨8, 8, .ro, 0, false, []⟩,
     ⟨16, 2, .ro, 0, false, []⟩,
     ⟨18, 2, .w1c, 0, false, []⟩]⟩,
  ⟨0x10008, [(0, 64, 64), (0, 2, 4)],
    [⟨0, 4, .ro, 0, false, []⟩,
     ⟨4, 2, .ro, 0, false, []⟩,
     ⟨6, 1, .ro, 0, false, []⟩,
     ⟨8, 8, .rc, 0, false, []⟩,
     ⟨16, 8, .rc, 0, false, []⟩]⟩,
  ⟨0x10010, [(0, 64, 64), (0, 2, 4)],
    [⟨0, 16, .rc, 0, false, []⟩,
     ⟨16, 8, .rc, 0, false, []⟩,
     ⟨24, 8, .rc, 0, false, []⟩]⟩,
  ⟨0x10020, [(0, 64, 64), (0, 2, 4)],
    [⟨0, 32, .rc, 0, false, []⟩]⟩,
  ⟨0x10028, [(0, 64, 64), (0, 2, 4)],
    [⟨0, 32, .rc, 0, false, []⟩]⟩]

/-- Rows of the `DC.TIME` tables. -/
def DC.TIME.table0 : List RegDesc := [
  ⟨0x4000, [],
    [⟨0, 32, .ro, 0, false, []⟩]⟩,
  ⟨0x4004, [],
    [⟨0, 32, .ro, 0, false, []⟩]⟩,
  ⟨0x4008, [],
    [⟨0, 10, .ro, 0, false, []⟩]⟩,
  ⟨0x400c, [],
    [⟨0, 3, .ro, 0, false, []⟩,
     ⟨3, 1, .ro, 1, false, []⟩,
     ⟨4, 1, .ro, 0, false, []⟩,
     ⟨5, 1, .ro, 0, false, []⟩,
     ⟨6, 1, .ro, 0, false, []⟩,
     ⟨7, 1, .w1c, 0, false, []⟩,
     ⟨8, 1, .w1c, 0, false, []⟩,
     ⟨9, 1, .w1c, 0, false, []⟩,
     ⟨10, 1, .w1c, 0, false, []⟩,
     ⟨11, 5, .ro, 31, false, []⟩]⟩,
  ⟨0x4010, [],
    [⟨0, 16, .rw, 1000, false, [(0, 99)]⟩,
     ⟨16, 4, .rw, 4, false, [(0, 0)]⟩,
     ⟨20, 1, .rw, 0, false, []⟩,
     ⟨21, 7, .rw, 100, false, [(0, 0), (101, 127)]⟩,
     ⟨28, 3, .rw, 4, false, []⟩]⟩,
  ⟨0x4014, [],
    [⟨0, 16, .rw, 1024, false, []⟩]⟩,
  ⟨0x4018, [],
    [⟨0, 32, .ro, 0, false, []⟩]⟩,
  ⟨0x401c, [],
    [⟨0, 32, .ro, 0, false, []⟩]⟩,
  ⟨0x4020, [],
    [⟨0, 32, .rw, 0, false, []⟩]⟩,
  ⟨0x4024, [],
    [⟨0, 16, .rw, 0, false, []⟩,
     ⟨16, 1, .w1s, 0, false, []⟩]⟩]

/-- Rows of the `DC.TIME` tables. -/
def DC.TIME.table1 : List RegDesc := [
  ⟨0x4030, [],
    [⟨0, 16, .rc, 0, false, []⟩,
     ⟨16, 1, .rc, 0, false, []⟩,
     ⟨17, 1, .rc, 0, false, []⟩]⟩,
  ⟨0x4034, [],
    [⟨0, 32, .ro, 0, false, []⟩]⟩,
  ⟨0x4038, [],
    [⟨0, 32, .ro, 0, false, []⟩]⟩,
  ⟨0x403c, [],
    [⟨0, 10, .ro, 0, false, []⟩]⟩,
  ⟨0x4040, [],
    [⟨0, 32, .rc, 0, false, []⟩]⟩,
  ⟨0x4044, [],
    [⟨0, 2, .rw, 0, false, [(3, 3)]⟩,
     ⟨2, 10, .rw, 99, false, [(999, 1023)]⟩]⟩,
  ⟨0x4048, [],
    [⟨0, 32, .ro, 0, false, []⟩]⟩,
  ⟨0x404c, [],
    [⟨0, 32, .ro, 0, false, []⟩]⟩,
  ⟨0x4050, [],
    [⟨0, 10, .ro, 0, false, []⟩]⟩,
  ⟨0x4054, [],
    [⟨0, 32, .rc, 0, false, []⟩]⟩]

/-- Rows of the `DC.TIME` tables. -/
def DC.TIME.table2 : List RegDesc := [
  ⟨0x4080, [],
    [⟨0, 8, .rw, 0, false, []⟩]⟩,
  ⟨0x4084, [],
    [⟨0, 32, .ro, 0, false, []⟩]⟩,
  ⟨0x4088, [],
    [⟨0, 32, .ro, 0, false, []⟩]⟩,
  ⟨0x408c, [],
    [⟨0, 32, .ro, 0, false, []⟩]⟩,
  ⟨0x4090, [],
    [⟨0, 16, .ro, 0, false, []⟩,
     ⟨16, 2, .ro, 0, false, []⟩,
     ⟨18, 4, .ro, 0, false, []⟩,
     ⟨22, 1, .ro, 0, false, []⟩]⟩,
  ⟨0x4094, [],
    [⟨0, 30, .ro, 0, false, []⟩]⟩,
  ⟨0x4098, [],
    [⟨0, 20, .ro, 0, false, []⟩]⟩,
  ⟨0x409c, [],
    [⟨0, 24, .ro, 0, false, []⟩,
     ⟨24, 8, .ro, 0, false, []⟩]⟩,
  ⟨0x4100, [(0, 64, 8)],
    [⟨0, 32, .ro, 0, false, []⟩]⟩,
  ⟨0x4104, [(0, 64, 8)],
    [⟨0, 32, .rw, 0, false, []⟩]⟩]

/-- All rows of `DC.TIME`. -/
def DC.TIME.table : List RegDesc := DC.TIME.table0 ++ DC.TIME.table1 ++ DC.TIME.table2

/-- Rows of the `DC.PTP` tables. -/
def DC.PTP.table : List RegDesc := [
  ⟨0x5000, [],
    [⟨0, 8, .rw, 0, false, [(128, 255)]⟩,
     ⟨8, 2, .rw, 0, false, []⟩,
     ⟨10, 2, .rw, 0, false, []⟩,
     ⟨12, 2, .rw, 0, false, []⟩]⟩,
  ⟨0x5010, [(0, 2, 16)],
    [⟨0, 20, .rw, 0, false, []⟩]⟩,
  ⟨0x5014, [(0, 2, 16)],
    [⟨0, 20, .rw, 0, false, []⟩]⟩,
  ⟨0x5018, [(0, 2, 16)],
    [⟨0, 32, .rw, 0, false, []⟩]⟩,
  ⟨0x5100, [(0, 16, 16)],
    [⟨0, 32, .rw, 0, false, []⟩]⟩,
  ⟨0x5104, [(0, 16, 16)],
    [⟨0, 32, .rw, 0, false, []⟩]⟩,
  ⟨0x5108, [(0, 16, 16)],
    [⟨0, 16, .rw, 65535, false, []⟩,
     ⟨16, 1, .rw, 0, false, []⟩]⟩]

/-- Rows of the `DC.MIRE` tables. -/
def DC.MIRE.table0 : List RegDesc := [
  ⟨0x6000, [],
    [⟨0, 3, .ro, 0, false, []⟩,
     ⟨3, 1, .ro, 0, false, []⟩,
     ⟨4, 1, .ro, 0, false, []⟩,
     ⟨5, 1, .ro, 0, false, []⟩]⟩,
  ⟨0x6004, [],
    [⟨0, 24, .ro, 0, false, []⟩]⟩,
  ⟨0x6008, [],
    [⟨0, 32, .ro, 0, false, []⟩]⟩,
  ⟨0x600c, [],
    [⟨0, 8, .ro, 0, false, []⟩]⟩,
  ⟨0x6010, [],
    [⟨0, 32, .ro, 0, false, []⟩]⟩,
  ⟨0x6014, [],
    [⟨0, 8, .ro, 0, false, []⟩]⟩,
  ⟨0x6018, [],
    [⟨0, 32, .ro, 0, false, []⟩]⟩,
  ⟨0x601c, [],
    [⟨0, 32, .ro, 0, false, []⟩]⟩,
  ⟨0x6020, [],
    [⟨0, 24, .ro, 0, false, []⟩]⟩,
  ⟨0x6024, [],
    [⟨0, 32, .rc, 0, false, []⟩]⟩]

/-- Rows of the `DC.MIRE` tables. -/
def DC.MIRE.table1 : List RegDesc := [
  ⟨0x6028, [],
    [⟨0, 32, .rc, 0, false, []⟩]⟩,
  ⟨0x602c, [],
    [⟨0, 32, .rc, 0, false, []⟩]⟩,
  ⟨0x6040, [(0, 8, 4)],
    [⟨0, 7, .rc, 0, false, []⟩,
     ⟨16, 9, .rc, 0, false, []⟩,
     ⟨31, 1, .w1c, 0, false, []⟩]⟩]

/-- All rows of `DC.MIRE`. -/
def DC.MIRE.table : List RegDesc := DC.MIRE.table0 ++ DC.MIRE.table1

/-- Rows of the `DC.SLU` tables. -/
def DC.SLU.table : List RegDesc := [
  ⟨0x7000, [],
    [⟨0, 16, .rw, 256, false, [(0, 7)]⟩,
     ⟨16, 16, .rw, 1024, false, [(0, 63)]⟩]⟩,
  ⟨0x7000, [(1, 9, 4)],
    [⟨0, 3, .rw, 0, false, []⟩]⟩,
  ⟨0x7030, [],
    [⟨0, 32, .rc, 0, false, []⟩]⟩,
  ⟨0x7034, [],
    [⟨0, 32, .rc, 0, false, []⟩]⟩,
  ⟨0x7038, [],
    [⟨0, 32, .rc, 0, false, []⟩]⟩]

/-- Rows of the `DC.CTX` tables. -/
def DC.CTX.table : List RegDesc := [
  ⟨0x400000, [],
    [⟨0, 16, .ro, 0, false, []⟩]⟩,
  ⟨0x400004, [],
    [⟨0, 8, .rw, 64, false, []⟩,
     ⟨8, 8, .rw, 2, false, []⟩,
     ⟨16, 8, .rw, 5, false, [(51, 255)]⟩,
     ⟨24, 8, .rw, 16, false, [(0, 0)]⟩]⟩,
  ⟨0x400008, [],
    [⟨0, 8, .rw, 16, false, [(0, 0)]⟩,
     ⟨8, 24, .rw, 1000000, false, []⟩]⟩,
  ⟨0x40000c, [],
    [⟨0, 16, .rw, 64, false, []⟩]⟩,
  ⟨0x400010, [],
    [⟨0, 32, .rw, 0, false, [(1, 1023)]⟩]⟩,
  ⟨0x400014, [],
    [⟨0, 32, .rc, 0, false, []⟩]⟩,
  ⟨0x400018, [],
    [⟨0, 32, .ro, 0, false, []⟩]⟩,
  ⟨0x400100, [(0, 64, 8)],
    [⟨0, 3, .rw, 0, false, []⟩,
     ⟨3, 1, .rw, 0, false, []⟩,
     ⟨16, 16, .rw, 0, false, []⟩]⟩,
  ⟨0x400104, [(0, 64, 8)],
    [⟨0, 16, .ro, 0, false, []⟩]⟩]

/-- Rows of the `DC.TRG` tables. -/
def DC.TRG.table0 : List RegDesc := [
  ⟨0x40000, [],
    [⟨0, 1, .rw, 0, false, []⟩,
     ⟨1, 1, .ro, 0, false, []⟩]⟩,
  ⟨0x40004, [],
    [⟨0, 32, .rw, 0, false, []⟩]⟩,
  ⟨0x40008, [],
    [⟨0, 32, .rw, 0, false, []⟩]⟩,
  ⟨0x4000c, [],
    [⟨0, 16, .rw, 32768, false, [(0, 4095)]⟩]⟩,
  ⟨0x40010, [],
    [⟨0, 8, .rw, 8, false, []⟩]⟩,
  ⟨0x40014, [],
    [⟨0, 11, .rw, 16, false, [(0, 0), (1025, 2047)]⟩]⟩,
  ⟨0x40018, [],
    [⟨0, 16, .rw, 0, false, []⟩]⟩,
  ⟨0x4001c, [],
    [⟨0, 32, .rw, 0, false, []⟩]⟩,
  ⟨0x40020, [],
    [⟨0, 4, .rw, 0, false, []⟩,
     ⟨4, 4, .rw, 0, false, []⟩]⟩,
  ⟨0x40024, [],
    [⟨0, 32, .ro, 0, false, []⟩]⟩]

/-- Rows of the `DC.TRG` tables. -/
def DC.TRG.table1 : List RegDesc := [
  ⟨0x40028, [],
    [⟨0, 1, .w1c, 0, false, []⟩,
     ⟨1, 1, .w1c, 0, false, []⟩,
     ⟨2, 1, .w1c, 0, false, []⟩,
     ⟨16, 13, .ro, 0, false, []⟩]⟩,
  ⟨0x40030, [],
    [⟨0, 32, .rw, 0, false, []⟩]⟩,
  ⟨0x40034, [],
    [⟨0, 16, .rw, 0, false, []⟩]⟩,
  ⟨0x40040, [(1, 4, 4)],
    [⟨0, 32, .rc, 0, false, []⟩]⟩,
  ⟨0x40054, [],
    [⟨0, 32, .rc, 0, false, []⟩]⟩,
  ⟨0x40080, [],
    [⟨0, 6, .rw, 0, false, []⟩]⟩,
  ⟨0x40084, [],
    [⟨0, 32, .ro, 0, false, []⟩]⟩,
  ⟨0x40088, [],
    [⟨0, 32, .ro, 0, false, []⟩]⟩,
  ⟨0x4008c, [],
    [⟨0, 14, .ro, 0, false, []⟩,
     ⟨14, 1, .ro, 1, false, []⟩]⟩,
  ⟨0x40100, [(1, 5, 32)],
    [⟨0, 24, .rw, 80, false, []⟩]⟩]

/-- Rows of the `DC.TRG` tables. -/
def DC.TRG.table2 : List RegDesc := [
  ⟨0x40104, [(1, 5, 32)],
    [⟨0, 24, .rw, 240, false, []⟩]⟩,
  ⟨0x40108, [(1, 5, 32)],
    [⟨0, 16, .rw, 8, false, []⟩,
     ⟨16, 1, .rw, 0, false, []⟩]⟩,
  ⟨0x4010c, [(1, 5, 32)],
    [⟨0, 32, .rw, 4294967295, false, []⟩]⟩,
  ⟨0x40110, [(1, 5, 32)],
    [⟨0, 32, .rw, 4294967295, false, []⟩]⟩,
  ⟨0x40114, [(1, 5, 32)],
    [⟨0, 32, .ro, 4294967295, false, []⟩]⟩,
  ⟨0x40118, [(1, 5, 32)],
    [⟨0, 32, .rc, 0, false, []⟩]⟩,
  ⟨0x4011c, [(1, 5, 32)],
    [⟨0, 32, .rc, 0, false, []⟩]⟩,
  ⟨0x40400, [(0, 64, 8)],
    [⟨0, 32, .rc, 0, false, []⟩]⟩,
  ⟨0x40404, [(0, 64, 8)],
    [⟨0, 32, .rc, 0, false, []⟩]⟩,
  ⟨0x50000, [(0, 512, 256), (0, 32, 4)],
    [⟨0, 12, .rw, 0, false, []⟩,
     ⟨16, 12, .rw, 0, false, []⟩]⟩]

/-- Rows of the `DC.TRG` tables. -/
def DC.TRG.table3 : List RegDesc := [
  ⟨0x50080, [(0, 512, 256)],
    [⟨0, 32, .rw, 0, false, []⟩]⟩,
  ⟨0x50084, [(0, 512, 256)],
    [⟨0, 32, .rw, 0, false, []⟩]⟩,
  ⟨0x50088, [(0, 512, 256)],
    [⟨0, 32, .rw, 0, false, []⟩]⟩,
  ⟨0x5008c, [(0, 512, 256)],
    [⟨0, 32, .rw, 0, false, []⟩]⟩,
  ⟨0x50090, [(0, 512, 256)],
    [⟨0, 8, .rw, 0, false, []⟩,
     ⟨8, 1, .rw, 0, false, []⟩,
     ⟨9, 1, .rw, 0, false, []⟩,
     ⟨10, 1, .ro, 0, false, []⟩]⟩,
  ⟨0x50094, [(0, 512, 256)],
    [⟨0, 32, .rc, 0, false, []⟩]⟩]

/-- All rows of `DC.TRG`. -/
def DC.TRG.table : List RegDesc := DC.TRG.table0 ++ DC.TRG.table1 ++ DC.TRG.table2 ++ DC.TRG.table3

/-- Rows of the `DC.QLF` tables. -/
def DC.QLF.table0 : List RegDesc := [
  ⟨0x80000, [],
    [⟨0, 1, .rw, 0, false, []⟩,
     ⟨16, 16, .rw, 128, false, [(0, 0)]⟩]⟩,
  ⟨0x80004, [],
    [⟨0, 1, .w1c, 0, false, []⟩,
     ⟨1, 1, .w1c, 0, false, []⟩,
     ⟨16, 16, .ro, 0, false, []⟩]⟩,
  ⟨0x80008, [],
    [⟨0, 8, .rw, 0, false, []⟩,
     ⟨8, 8, .ro, 0, false, []⟩]⟩,
  ⟨0x80010, [],
    [⟨0, 32, .rc, 0, false, []⟩]⟩,
  ⟨0x80014, [],
    [⟨0, 32, .rc, 0, false, []⟩]⟩,
  ⟨0x80018, [],
    [⟨0, 32, .rc, 0, false, []⟩]⟩,
  ⟨0x80100, [(1, 5, 16)],
    [⟨0, 3, .rw, 0, false, []⟩,
     ⟨3, 1, .rw, 0, false, []⟩,
     ⟨4, 2, .rw, 0, false, []⟩]⟩,
  ⟨0x80104, [(1, 5, 16)],
    [⟨0, 16, .rw, 0, false, []⟩,
     ⟨16, 16, .rw, 0, false, []⟩]⟩,
  ⟨0x80108, [(1, 5, 16)],
    [⟨0, 32, .rw, 0, false, []⟩]⟩,
  ⟨0x8010c, [(1, 5, 16)],
    [⟨0, 32, .rc, 0, false, []⟩]⟩]

/-- Rows of the `DC.QLF` tables. -/
def DC.QLF.table1 : List RegDesc := [
  ⟨0x90000, [(0, 8, 16384), (0, 1280, 8)],
    [⟨0, 32, .rw, 0, false, []⟩]⟩,
  ⟨0x90004, [(0, 8, 16384), (0, 1280, 8)],
    [⟨0, 32, .rw, 0, false, []⟩]⟩]

/-- All rows of `DC.QLF`. -/
def DC.QLF.table : List RegDesc := DC.QLF.table0 ++ DC.QLF.table1

/-- Rows of the `DC.CMP` tables. -/
def DC.CMP.table : List RegDesc := [
  ⟨0x8000, [],
    [⟨0, 1, .rw, 0, false, []⟩,
     ⟨1, 2, .rw, 1, false, []⟩,
     ⟨3, 2, .rw, 1, false, []⟩,
     ⟨5, 3, .rw, 3, false, []⟩,
     ⟨8, 3, .rw, 3, false, []⟩,
     ⟨11, 1, .w1s, 0, false, []⟩,
     ⟨12, 1, .w1s, 0, false, []⟩]⟩,
  ⟨0x8004, [],
    [⟨0, 11, .rw, 64, false, [(0, 3), (1025, 2047)]⟩,
     ⟨16, 7, .rw, 16, false, [(0, 3), (65, 127)]⟩]⟩,
  ⟨0x8008, [],
    [⟨0, 12, .ro, 2048, false, []⟩]⟩,
  ⟨0x8010, [],
    [⟨0, 32, .rc, 0, false, []⟩]⟩,
  ⟨0x8010, [(1, 7, 4)],
    [⟨0, 32, .rc, 0, false, []⟩]⟩,
  ⟨0x8030, [],
    [⟨0, 32, .rc, 0, false, []⟩]⟩]

/-- Rows of the `DC.FOLD` tables. -/
def DC.FOLD.table0 : List RegDesc := [
  ⟨0x9000, [(0, 16, 64)],
    [⟨0, 2, .rw, 2, false, []⟩,
     ⟨2, 1, .rw, 1, false, []⟩,
     ⟨3, 1, .rw, 1, false, []⟩,
     ⟨4, 2, .rw, 2, false, [(3, 3)]⟩,
     ⟨6, 1, .w1s, 0, false, []⟩,
     ⟨7, 1, .ro, 0, false, []⟩]⟩,
  ⟨0x9004, [(0, 16, 64)],
    [⟨0, 32, .rw, 4294967295, false, []⟩]⟩,
  ⟨0x9008, [(0, 16, 64)],
    [⟨0, 32, .rw, 0, false, []⟩]⟩,
  ⟨0x900c, [(0, 16, 64)],
    [⟨0, 32, .rw, 4294967295, false, []⟩]⟩,
  ⟨0x9010, [(0, 16, 64)],
    [⟨0, 32, .rw, 0, false, []⟩]⟩,
  ⟨0x9014, [(0, 16, 64)],
    [⟨0, 32, .rw, 0, false, []⟩]⟩,
  ⟨0x9018, [(0, 16, 64)],
    [⟨0, 32, .rw, 0, false, []⟩]⟩,
  ⟨0x901c, [(0, 16, 64)],
    [⟨0, 32, .rw, 0, false, []⟩]⟩,
  ⟨0x9020, [(0, 16, 64)],
    [⟨0, 32, .rw, 0, false, []⟩]⟩,
  ⟨0x9024, [(0, 16, 64)],
    [⟨0, 32, .wo, 0, false, []⟩]⟩]

/-- Rows of the `DC.FOLD` tables. -/
def DC.FOLD.table1 : List RegDesc := [
  ⟨0x9028, [(0, 16, 64)],
    [⟨0, 32, .wo, 0, false, []⟩]⟩,
  ⟨0x902c, [(0, 16, 64)],
    [⟨0, 32, .wo, 0, false, []⟩]⟩,
  ⟨0x9030, [(0, 16, 64)],
    [⟨0, 32, .ro, 0, false, []⟩]⟩,
  ⟨0x9034, [(0, 16, 64)],
    [⟨0, 32, .ro, 0, false, []⟩]⟩]

/-- All rows of `DC.FOLD`. -/
def DC.FOLD.table : List RegDesc := DC.FOLD.table0 ++ DC.FOLD.table1

/-- Rows of the `DC.PEAT` tables. -/
def DC.PEAT.table0 : List RegDesc := [
  ⟨0xa000, [],
    [⟨0, 1, .rw, 0, false, []⟩,
     ⟨1, 1, .rw, 1, false, []⟩,
     ⟨2, 1, .rw, 0, false, []⟩,
     ⟨4, 6, .rw, 5, false, [(0, 0)]⟩,
     ⟨16, 6, .rw, 10, false, [(0, 0), (61, 63)]⟩]⟩,
  ⟨0xa004, [],
    [⟨0, 8, .rw, 0, false, []⟩,
     ⟨8, 8, .rw, 0, false, []⟩,
     ⟨16, 2, .rw, 2, false, []⟩]⟩,
  ⟨0xa008, [],
    [⟨0, 4, .ro, 0, false, []⟩,
     ⟨4, 2, .ro, 0, false, []⟩,
     ⟨6, 1, .ro, 0, false, []⟩,
     ⟨7, 2, .ro, 0, false, []⟩,
     ⟨9, 2, .ro, 0, false, []⟩,
     ⟨11, 1, .ro, 0, false, []⟩,
     ⟨12, 1, .ro, 0, false, []⟩]⟩,
  ⟨0xa00c, [],
    [⟨0, 28, .ro, 0, false, []⟩]⟩,
  ⟨0xa010, [],
    [⟨0, 28, .ro, 0, false, []⟩]⟩,
  ⟨0xa014, [],
    [⟨0, 28, .rw, 1048576, false, []⟩]⟩,
  ⟨0xa018, [],
    [⟨0, 1, .ro, 0, false, []⟩,
     ⟨1, 1, .ro, 0, false, []⟩,
     ⟨2, 1, .ro, 0, false, []⟩,
     ⟨3, 1, .w1c, 0, false, []⟩,
     ⟨4, 1, .w1c, 0, false, []⟩,
     ⟨5, 1, .w1c, 0, false, []⟩,
     ⟨6, 1, .ro, 0, false, []⟩,
     ⟨7, 1, .ro, 0, false, []⟩]⟩,
  ⟨0xa01c, [],
    [⟨0, 32, .ro, 0, false, []⟩]⟩,
  ⟨0xa020, [],
    [⟨0, 32, .rw, 0, false, []⟩]⟩,
  ⟨0xa024, [],
    [⟨0, 16, .rw, 0, false, []⟩,
     ⟨16, 16, .rw, 0, false, []⟩]⟩]

/-- Rows of the `DC.PEAT` tables. -/
def DC.PEAT.table1 : List RegDesc := [
  ⟨0xa028, [],
    [⟨0, 14, .rw, 8192, false, [(0, 1023), (8961, 16383)]⟩,
     ⟨16, 16, .rw, 4096, false, []⟩]⟩,
  ⟨0xa040, [(0, 5, 8)],
    [⟨0, 32, .ro, 0, false, []⟩]⟩,
  ⟨0xa044, [(0, 5, 8)],
    [⟨0, 32, .ro, 0, false, []⟩]⟩,
  ⟨0xa080, [(0, 6, 8)],
    [⟨0, 32, .ro, 0, false, []⟩]⟩,
  ⟨0xa084, [(0, 6, 8)],
    [⟨0, 16, .ro, 0, false, []⟩]⟩,
  ⟨0xa0b0, [],
    [⟨0, 32, .rc, 0, false, []⟩]⟩,
  ⟨0xa0b4, [],
    [⟨0, 32, .rc, 0, false, []⟩]⟩,
  ⟨0xa0b8, [],
    [⟨0, 7, .rw, 56, false, [(0, 0), (73, 127)]⟩]⟩,
  ⟨0xa0bc, [],
    [⟨0, 32, .rc, 0, false, []⟩]⟩,
  ⟨0xa0c0, [],
    [⟨0, 24, .ro, 0, false, []⟩]⟩]

/-- Rows of the `DC.PEAT` tables. -/
def DC.PEAT.table2 : List RegDesc := [
  ⟨0xa0c4, [],
    [⟨0, 32, .ro, 0, false, []⟩]⟩,
  ⟨0xa0c8, [],
    [⟨0, 32, .ro, 0, false, []⟩]⟩,
  ⟨0xa0cc, [],
    [⟨0, 16, .ro, 0, false, []⟩]⟩,
  ⟨0xa100, [],
    [⟨0, 32, .ro, 0, false, []⟩]⟩,
  ⟨0xa140, [(0, 5, 8)],
    [⟨0, 32, .ro, 0, false, []⟩]⟩,
  ⟨0xa144, [(0, 5, 8)],
    [⟨0, 32, .ro, 0, false, []⟩]⟩]

/-- All rows of `DC.PEAT`. -/
def DC.PEAT.table : List RegDesc := DC.PEAT.table0 ++ DC.PEAT.table1 ++ DC.PEAT.table2

/-- Rows of the `DC.MEM` tables. -/
def DC.MEM.table0 : List RegDesc := [
  ⟨0xb000, [],
    [⟨0, 1, .rw, 1, false, []⟩,
     ⟨8, 8, .rw, 24, false, [(0, 0), (169, 255)]⟩,
     ⟨16, 8, .rw, 16, false, [(0, 1)]⟩,
     ⟨24, 8, .rw, 100, false, [(0, 0)]⟩]⟩,
  ⟨0xb004, [],
    [⟨0, 1, .ro, 0, false, []⟩,
     ⟨1, 1, .ro, 0, false, []⟩,
     ⟨2, 1, .ro, 0, false, []⟩,
     ⟨3, 1, .w1c, 0, false, []⟩,
     ⟨4, 1, .w1c, 0, false, []⟩,
     ⟨5, 1, .ro, 0, false, []⟩,
     ⟨6, 1, .ro, 0, false, []⟩]⟩,
  ⟨0xb008, [],
    [⟨0, 27, .ro, 0, false, []⟩]⟩,
  ⟨0xb00c, [],
    [⟨0, 16, .ro, 0, false, []⟩]⟩,
  ⟨0xb010, [],
    [⟨0, 11, .ro, 0, false, []⟩]⟩,
  ⟨0xb014, [],
    [⟨0, 32, .rc, 0, false, []⟩]⟩,
  ⟨0xb018, [],
    [⟨0, 10, .rw, 0, false, []⟩]⟩,
  ⟨0xb01c, [],
    [⟨0, 10, .wo, 0, false, []⟩]⟩,
  ⟨0xb020, [(0, 8, 4)],
    [⟨0, 32, .ro, 0, false, []⟩]⟩,
  ⟨0xb040, [(0, 16, 4)],
    [⟨0, 8, .ro, 0, false, []⟩,
     ⟨8, 8, .rw, 64, false, [(0, 0)]⟩,
     ⟨16, 15, .rw, 4096, false, [(0, 0)]⟩,
     ⟨31, 1, .w1c, 0, false, []⟩]⟩]

/-- Rows of the `DC.MEM` tables. -/
def DC.MEM.table1 : List RegDesc := [
  ⟨0xb080, [(0, 8, 4)],
    [⟨0, 32, .rc, 0, false, []⟩]⟩,
  ⟨0xb0a0, [(0, 8, 4)],
    [⟨0, 32, .rc, 0, false, []⟩]⟩,
  ⟨0xb0c0, [],
    [⟨0, 32, .rc, 0, false, []⟩]⟩,
  ⟨0xb0c4, [],
    [⟨0, 32, .rc, 0, false, []⟩]⟩,
  ⟨0xb0c8, [],
    [⟨0, 32, .rc, 0, false, []⟩]⟩,
  ⟨0xb0cc, [],
    [⟨0, 32, .rc, 0, false, []⟩]⟩,
  ⟨0xb0d0, [],
    [⟨0, 32, .rc, 0, false, []⟩]⟩,
  ⟨0xb0d4, [],
    [⟨0, 32, .ro, 0, false, []⟩]⟩,
  ⟨0xb0d8, [],
    [⟨0, 32, .rc, 0, false, []⟩]⟩,
  ⟨0xb0dc, [],
    [⟨0, 32, .rc, 0, false, []⟩]⟩]

/-- All rows of `DC.MEM`. -/
def DC.MEM.table : List RegDesc := DC.MEM.table0 ++ DC.MEM.table1

/-- Rows of the `DC.PAIR` tables. -/
def DC.PAIR.table0 : List RegDesc := [
  ⟨0x3000, [],
    [⟨0, 1, .rw, 0, false, []⟩,
     ⟨1, 1, .ro, 0, false, []⟩,
     ⟨2, 1, .rw, 1, false, []⟩]⟩,
  ⟨0x3004, [],
    [⟨0, 2, .ro, 1, false, []⟩,
     ⟨2, 2, .ro, 0, false, []⟩,
     ⟨4, 1, .ro, 0, false, []⟩,
     ⟨5, 1, .w1c, 0, false, []⟩,
     ⟨6, 1, .ro, 0, false, []⟩,
     ⟨7, 1, .w1c, 0, false, []⟩,
     ⟨16, 16, .ro, 0, false, []⟩]⟩,
  ⟨0x3008, [],
    [⟨0, 16, .ro, 0, false, []⟩]⟩,
  ⟨0x300c, [],
    [⟨0, 20, .ro, 0, false, []⟩]⟩,
  ⟨0x3010, [],
    [⟨0, 20, .rc, 0, false, []⟩]⟩,
  ⟨0x3014, [],
    [⟨0, 32, .ro, 0, false, []⟩]⟩,
  ⟨0x3018, [],
    [⟨0, 32, .rc, 0, false, []⟩]⟩,
  ⟨0x301c, [],
    [⟨0, 32, .rc, 0, false, []⟩]⟩,
  ⟨0x3020, [],
    [⟨0, 32, .rc, 0, false, []⟩]⟩,
  ⟨0x3024, [],
    [⟨0, 32, .rc, 0, false, []⟩]⟩]

/-- Rows of the `DC.PAIR` tables. -/
def DC.PAIR.table1 : List RegDesc := [
  ⟨0x3028, [],
    [⟨0, 32, .rc, 0, false, []⟩]⟩,
  ⟨0x302c, [],
    [⟨0, 32, .rc, 0, false, []⟩]⟩,
  ⟨0x3030, [],
    [⟨0, 32, .rc, 0, false, []⟩]⟩,
  ⟨0x3034, [],
    [⟨0, 16, .ro, 0, false, []⟩,
     ⟨16, 2, .ro, 0, false, []⟩,
     ⟨18, 2, .ro, 0, false, []⟩,
     ⟨20, 1, .ro, 0, false, []⟩,
     ⟨21, 1, .ro, 0, false, []⟩]⟩,
  ⟨0x3038, [],
    [⟨0, 24, .ro, 0, false, []⟩]⟩]

/-- All rows of `DC.PAIR`. -/
def DC.PAIR.table : List RegDesc := DC.PAIR.table0 ++ DC.PAIR.table1

/-- Rows of the `DC.ABS` tables. -/
def DC.ABS.table0 : List RegDesc := [
  ⟨0x2000, [],
    [⟨0, 16, .rw, 0, false, [(0, 0), (319, 320)]⟩]⟩,
  ⟨0x2004, [],
    [⟨0, 1, .ro, 0, false, []⟩,
     ⟨1, 1, .w1c, 0, false, []⟩,
     ⟨2, 1, .ro, 0, false, []⟩]⟩,
  ⟨0x2008, [],
    [⟨0, 32, .rw, 0, false, []⟩]⟩,
  ⟨0x200c, [],
    [⟨0, 32, .rw, 0, false, []⟩]⟩,
  ⟨0x2010, [],
    [⟨0, 16, .rw, 0, false, []⟩]⟩,
  ⟨0x2014, [],
    [⟨0, 32, .rw, 0, false, []⟩]⟩,
  ⟨0x2018, [],
    [⟨0, 32, .rw, 0, false, []⟩]⟩,
  ⟨0x201c, [],
    [⟨0, 16, .rw, 0, false, []⟩]⟩,
  ⟨0x2020, [(0, 2, 8)],
    [⟨0, 16, .rw, 200, false, [(0, 0)]⟩,
     ⟨16, 16, .rw, 512, false, [(0, 0)]⟩]⟩,
  ⟨0x2024, [(0, 2, 8)],
    [⟨0, 16, .rw, 16, false, [(0, 0)]⟩,
     ⟨16, 16, .rw, 64, false, [(0, 0)]⟩]⟩]

/-- Rows of the `DC.ABS` tables. -/
def DC.ABS.table1 : List RegDesc := [
  ⟨0x2030, [],
    [⟨0, 16, .rw, 512, false, [(0, 0)]⟩,
     ⟨16, 5, .rw, 31, false, []⟩]⟩,
  ⟨0x2034, [],
    [⟨0, 7, .ro, 0, false, []⟩]⟩,
  ⟨0x2038, [],
    [⟨0, 32, .ro, 0, false, []⟩]⟩,
  ⟨0x203c, [],
    [⟨0, 32, .rc, 0, false, []⟩]⟩,
  ⟨0x2040, [],
    [⟨0, 32, .rc, 0, false, []⟩]⟩,
  ⟨0x2080, [(0, 8, 32)],
    [⟨0, 32, .rw, 0, false, []⟩]⟩,
  ⟨0x2084, [(0, 8, 32)],
    [⟨0, 16, .rw, 0, false, []⟩,
     ⟨16, 1, .rw, 0, false, []⟩,
     ⟨17, 1, .rw, 0, false, []⟩]⟩,
  ⟨0x2088, [(0, 8, 32)],
    [⟨0, 32, .ro, 0, false, []⟩]⟩,
  ⟨0x208c, [(0, 8, 32)],
    [⟨0, 32, .ro, 0, false, []⟩]⟩,
  ⟨0x2090, [(0, 8, 32)],
    [⟨0, 32, .rc, 0, false, []⟩]⟩]

/-- Rows of the `DC.ABS` tables. -/
def DC.ABS.table2 : List RegDesc := [
  ⟨0x2094, [(0, 8, 32)],
    [⟨0, 32, .rc, 0, false, []⟩]⟩,
  ⟨0x2180, [(0, 8, 4)],
    [⟨0, 32, .rc, 0, false, []⟩]⟩]

/-- All rows of `DC.ABS`. -/
def DC.ABS.table : List RegDesc := DC.ABS.table0 ++ DC.ABS.table1 ++ DC.ABS.table2

/-- Rows of the `DC.BOOT` tables. -/
def DC.BOOT.table0 : List RegDesc := [
  ⟨0x1000, [],
    [⟨0, 4, .ro, 1, false, []⟩,
     ⟨4, 4, .ro, 0, false, []⟩,
     ⟨8, 1, .ro, 0, false, []⟩]⟩,
  ⟨0x1004, [],
    [⟨0, 1, .ro, 0, false, []⟩,
     ⟨1, 1, .ro, 0, false, []⟩,
     ⟨2, 1, .ro, 0, false, []⟩]⟩,
  ⟨0x1008, [],
    [⟨0, 2, .ro, 0, false, []⟩,
     ⟨8, 8, .ro, 0, false, []⟩,
     ⟨16, 16, .ro, 0, false, []⟩]⟩,
  ⟨0x100c, [],
    [⟨0, 32, .ro, 0, false, []⟩]⟩,
  ⟨0x1010, [],
    [⟨0, 1, .w1s, 0, false, []⟩,
     ⟨1, 1, .w1s, 0, false, []⟩,
     ⟨2, 1, .rw, 1, false, []⟩]⟩,
  ⟨0x1014, [],
    [⟨0, 32, .wo, 0, false, []⟩]⟩,
  ⟨0x1018, [],
    [⟨0, 24, .ro, 0, false, []⟩]⟩,
  ⟨0x101c, [],
    [⟨0, 10, .rw, 0, false, []⟩,
     ⟨10, 10, .rw, 0, false, []⟩,
     ⟨20, 8, .rw, 20, false, [(0, 0)]⟩]⟩,
  ⟨0x1020, [],
    [⟨0, 2, .ro, 0, false, []⟩,
     ⟨2, 10, .rc, 1023, false, []⟩]⟩,
  ⟨0x1024, [],
    [⟨0, 32, .rc, 0, false, []⟩]⟩]

/-- Rows of the `DC.BOOT` tables. -/
def DC.BOOT.table1 : List RegDesc := [
  ⟨0x1028, [],
    [⟨0, 32, .rc, 0, false, []⟩]⟩,
  ⟨0x102c, [],
    [⟨0, 32, .rc, 0, false, []⟩]⟩]

/-- All rows of `DC.BOOT`. -/
def DC.BOOT.table : List RegDesc := DC.BOOT.table0 ++ DC.BOOT.table1

/-- Rows of the `DC.LDG` tables. -/
def DC.LDG.table0 : List RegDesc := [
  ⟨0xc000, [],
    [⟨0, 1, .w1s, 0, false, []⟩,
     ⟨8, 8, .rw, 64, false, [(0, 0)]⟩]⟩,
  ⟨0xc004, [],
    [⟨0, 1, .ro, 0, false, []⟩,
     ⟨1, 1, .w1c, 0, false, []⟩,
     ⟨2, 1, .ro, 0, false, []⟩]⟩,
  ⟨0xc008, [],
    [⟨0, 32, .ro, 0, false, []⟩]⟩,
  ⟨0xc00c, [],
    [⟨0, 16, .ro, 0, false, []⟩]⟩,
  ⟨0xc010, [],
    [⟨0, 32, .rc, 0, false, []⟩]⟩,
  ⟨0xc040, [(0, 15, 8)],
    [⟨0, 32, .ro, 0, false, []⟩]⟩,
  ⟨0xc044, [(0, 15, 8)],
    [⟨0, 32, .ro, 0, false, []⟩]⟩,
  ⟨0xd000, [(0, 64, 128), (0, 10, 8)],
    [⟨0, 32, .ro, 0, false, []⟩]⟩,
  ⟨0xd004, [(0, 64, 128), (0, 10, 8)],
    [⟨0, 32, .ro, 0, false, []⟩]⟩,
  ⟨0xd050, [(0, 64, 128)],
    [⟨0, 32, .ro, 0, false, []⟩]⟩]

/-- Rows of the `DC.LDG` tables. -/
def DC.LDG.table1 : List RegDesc := [
  ⟨0xd054, [(0, 64, 128)],
    [⟨0, 1, .ro, 0, false, []⟩,
     ⟨1, 1, .w1c, 0, false, []⟩,
     ⟨16, 8, .ro, 0, false, []⟩]⟩,
  ⟨0xd058, [(0, 64, 128)],
    [⟨0, 32, .rc, 0, false, []⟩]⟩,
  ⟨0xd05c, [(0, 64, 128)],
    [⟨0, 32, .rc, 0, false, []⟩]⟩,
  ⟨0xd060, [(0, 64, 128)],
    [⟨0, 32, .rc, 0, false, []⟩]⟩]

/-- All rows of `DC.LDG`. -/
def DC.LDG.table : List RegDesc := DC.LDG.table0 ++ DC.LDG.table1

/-- Rows of the `DC.ID` tables. -/
def DC.ID.table : List RegDesc := [
  ⟨0x0, [],
    [⟨0, 16, .ro, 56420, false, []⟩,
     ⟨16, 4, .ro, 1, false, []⟩,
     ⟨20, 4, .ro, 1, false, []⟩,
     ⟨24, 1, .ro, 0, false, []⟩]⟩,
  ⟨0x4, [],
    [⟨0, 32, .ro, 0, false, []⟩]⟩,
  ⟨0x8, [],
    [⟨0, 32, .ro, 0, false, []⟩]⟩,
  ⟨0xc, [],
    [⟨0, 16, .ro, 1, false, []⟩]⟩,
  ⟨0x10, [],
    [⟨0, 1, .ro, 0, false, []⟩,
     ⟨1, 1, .ro, 0, false, []⟩,
     ⟨2, 1, .ro, 0, false, []⟩,
     ⟨3, 1, .ro, 1, false, []⟩,
     ⟨4, 1, .ro, 0, false, []⟩,
     ⟨5, 1, .ro, 0, false, []⟩,
     ⟨6, 1, .ro, 0, false, []⟩,
     ⟨7, 1, .ro, 0, false, []⟩,
     ⟨8, 1, .ro, 0, false, []⟩,
     ⟨9, 1, .ro, 0, false, []⟩,
     ⟨16, 5, .ro, 0, false, []⟩,
     ⟨21, 1, .ro, 0, false, []⟩]⟩,
  ⟨0x14, [],
    [⟨0, 32, .rw, 0, false, []⟩]⟩]

end Sys2Proof.Machine
end

