-- ==== Sys2Proof/Machine/DfRegs.lean ====
section
/-! DEFINITION. The DF640 word-addressed register space (R473, R474): the name, address and bit range of every
field of every register table of the spec, and the table rows with access code, reset value and refused values.
A reset value the spec writes as fuse, pin, image or cause is 0 here and is written by the start-up commands (R15). -/
namespace Sys2Proof.Machine

/-- `DF.AFE.GLOBAL`, R65. -/
def DF.AFE.GLOBAL.addr : Nat := 0x1000
def DF.AFE.GLOBAL.T_DAC : Fd := ⟨DF.AFE.GLOBAL.addr, 0, 10⟩
def DF.AFE.GLOBAL.V_DAC : Fd := ⟨DF.AFE.GLOBAL.addr, 16, 10⟩
/-- `DF.AFE.CONFIG`, R65. -/
def DF.AFE.CONFIG.addr : Nat := 0x1001
def DF.AFE.CONFIG.VALMODE : Fd := ⟨DF.AFE.CONFIG.addr, 0, 1⟩
def DF.AFE.CONFIG.VALWIN : Fd := ⟨DF.AFE.CONFIG.addr, 1, 3⟩
def DF.AFE.CONFIG.DISCH : Fd := ⟨DF.AFE.CONFIG.addr, 6, 6⟩
def DF.AFE.CONFIG.GATE : Fd := ⟨DF.AFE.CONFIG.addr, 12, 6⟩
def DF.AFE.CONFIG.BLC_EN : Fd := ⟨DF.AFE.CONFIG.addr, 18, 1⟩
/-- `DF.AFE.STATUS`, R65. -/
def DF.AFE.STATUS.addr : Nat := 0x1002
def DF.AFE.STATUS.PEND : Fd := ⟨DF.AFE.STATUS.addr, 0, 1⟩
def DF.AFE.STATUS.CLAMP_ANY : Fd := ⟨DF.AFE.STATUS.addr, 1, 1⟩
def DF.AFE.STATUS.BLC_ANY : Fd := ⟨DF.AFE.STATUS.addr, 2, 1⟩
/-- `DF.AFE.INJ_SKIP`, R65. -/
def DF.AFE.INJ_SKIP.addr : Nat := 0x1003
def DF.AFE.INJ_SKIP.COUNT : Fd := ⟨DF.AFE.INJ_SKIP.addr, 0, 32⟩
/-- `DF.AFE.INJ_A`, R65. -/
def DF.AFE.INJ_A.addr (i : Nat) : Nat := 0x1008 + 2 * i
def DF.AFE.INJ_A.TICK (i : Nat) : Fd := ⟨(DF.AFE.INJ_A.addr i), 0, 16⟩
def DF.AFE.INJ_A.CHARGE (i : Nat) : Fd := ⟨(DF.AFE.INJ_A.addr i), 16, 10⟩
def DF.AFE.INJ_A.RANGE (i : Nat) : Fd := ⟨(DF.AFE.INJ_A.addr i), 26, 1⟩
def DF.AFE.INJ_A.ARMED (i : Nat) : Fd := ⟨(DF.AFE.INJ_A.addr i), 31, 1⟩
/-- `DF.AFE.INJ_B`, R65. -/
def DF.AFE.INJ_B.addr (i : Nat) : Nat := 0x1009 + 2 * i
def DF.AFE.INJ_B.PERIOD (i : Nat) : Fd := ⟨(DF.AFE.INJ_B.addr i), 0, 8⟩
def DF.AFE.INJ_B.COUNT (i : Nat) : Fd := ⟨(DF.AFE.INJ_B.addr i), 8, 16⟩
/-- `DF.AFE.CH`, R65. -/
def DF.AFE.CH.addr (i : Nat) : Nat := 0x1400 + 1 * i
def DF.AFE.CH.MODE (i : Nat) : Fd := ⟨(DF.AFE.CH.addr i), 0, 2⟩
def DF.AFE.CH.POL (i : Nat) : Fd := ⟨(DF.AFE.CH.addr i), 2, 1⟩
def DF.AFE.CH.ZIN (i : Nat) : Fd := ⟨(DF.AFE.CH.addr i), 3, 2⟩
def DF.AFE.CH.T_TRIM (i : Nat) : Fd := ⟨(DF.AFE.CH.addr i), 5, 6⟩
def DF.AFE.CH.V_TRIM (i : Nat) : Fd := ⟨(DF.AFE.CH.addr i), 11, 6⟩
def DF.AFE.CH.INJ_SEL (i : Nat) : Fd := ⟨(DF.AFE.CH.addr i), 17, 4⟩
def DF.AFE.CH.BLC_LIM (i : Nat) : Fd := ⟨(DF.AFE.CH.addr i), 30, 1⟩
def DF.AFE.CH.CLAMP (i : Nat) : Fd := ⟨(DF.AFE.CH.addr i), 31, 1⟩
/-- `DF.AFE.TONLY`, R65. -/
def DF.AFE.TONLY.addr (i : Nat) : Nat := 0x1800 + 1 * i
def DF.AFE.TONLY.COUNT (i : Nat) : Fd := ⟨(DF.AFE.TONLY.addr i), 0, 24⟩
/-- `DF.REED.REFRESH`, R99. -/
def DF.REED.REFRESH.addr : Nat := 0x2000
def DF.REED.REFRESH.INTERVAL : Fd := ⟨DF.REED.REFRESH.addr, 0, 16⟩
/-- `DF.REED.AGE`, R99. -/
def DF.REED.AGE.addr : Nat := 0x2001
def DF.REED.AGE.LIMIT : Fd := ⟨DF.REED.AGE.addr, 0, 16⟩
/-- `DF.REED.STATUS`, R99. -/
def DF.REED.STATUS.addr : Nat := 0x2002
def DF.REED.STATUS.ALL_READY : Fd := ⟨DF.REED.STATUS.addr, 0, 1⟩
def DF.REED.STATUS.CALDEAD_ANY : Fd := ⟨DF.REED.STATUS.addr, 1, 1⟩
def DF.REED.STATUS.ANCHOR_READY : Fd := ⟨DF.REED.STATUS.addr, 2, 1⟩
/-- `DF.REED.UNARMED`, R99. -/
def DF.REED.UNARMED.addr : Nat := 0x2003
def DF.REED.UNARMED.COUNT : Fd := ⟨DF.REED.UNARMED.addr, 0, 32⟩
/-- `DF.REED.LOOP`, R99. -/
def DF.REED.LOOP.addr : Nat := 0x2004
def DF.REED.LOOP.DELTA_MEAN : Fd := ⟨DF.REED.LOOP.addr, 0, 10⟩
def DF.REED.LOOP.LIMIT : Fd := ⟨DF.REED.LOOP.addr, 16, 1⟩
/-- `DF.REED.ANCHOR`, R99. -/
def DF.REED.ANCHOR.addr (i : Nat) : Nat := 0x2010 + 1 * i
def DF.REED.ANCHOR.SRC (i : Nat) : Fd := ⟨(DF.REED.ANCHOR.addr i), 0, 1⟩
def DF.REED.ANCHOR.PIN (i : Nat) : Fd := ⟨(DF.REED.ANCHOR.addr i), 1, 3⟩
def DF.REED.ANCHOR.INV (i : Nat) : Fd := ⟨(DF.REED.ANCHOR.addr i), 4, 1⟩
def DF.REED.ANCHOR.LOCKED (i : Nat) : Fd := ⟨(DF.REED.ANCHOR.addr i), 5, 1⟩
def DF.REED.ANCHOR.UNLOCK (i : Nat) : Fd := ⟨(DF.REED.ANCHOR.addr i), 6, 1⟩
/-- `DF.REED.CH`, R99. -/
def DF.REED.CH.addr (i : Nat) : Nat := 0x2400 + 1 * i
def DF.REED.CH.RA (i : Nat) : Fd := ⟨(DF.REED.CH.addr i), 0, 10⟩
def DF.REED.CH.RB (i : Nat) : Fd := ⟨(DF.REED.CH.addr i), 10, 10⟩
def DF.REED.CH.NOTCAL (i : Nat) : Fd := ⟨(DF.REED.CH.addr i), 20, 1⟩
def DF.REED.CH.CALDEAD (i : Nat) : Fd := ⟨(DF.REED.CH.addr i), 21, 1⟩
def DF.REED.CH.RETRY (i : Nat) : Fd := ⟨(DF.REED.CH.addr i), 22, 1⟩
def DF.REED.CH.CALFAIL (i : Nat) : Fd := ⟨(DF.REED.CH.addr i), 23, 8⟩
/-- `DF.REED.COARSE`, R99. -/
def DF.REED.COARSE.addr (i : Nat) : Nat := 0x2800 + 1 * i
def DF.REED.COARSE.COUNT (i : Nat) : Fd := ⟨(DF.REED.COARSE.addr i), 0, 24⟩
/-- `DF.REED.PILEUP`, R99. -/
def DF.REED.PILEUP.addr (i : Nat) : Nat := 0x2c00 + 1 * i
def DF.REED.PILEUP.COUNT (i : Nat) : Fd := ⟨(DF.REED.PILEUP.addr i), 0, 24⟩
/-- `DF.REED.NCAL`, R99. -/
def DF.REED.NCAL.addr (i : Nat) : Nat := 0x3000 + 1 * i
def DF.REED.NCAL.COUNT (i : Nat) : Fd := ⟨(DF.REED.NCAL.addr i), 0, 32⟩
/-- `DF.HIT.CTRL`, R131. -/
def DF.HIT.CTRL.addr : Nat := 0x100
def DF.HIT.CTRL.FLUSH : Fd := ⟨DF.HIT.CTRL.addr, 0, 14⟩
def DF.HIT.CTRL.RESYNC_PERIOD : Fd := ⟨DF.HIT.CTRL.addr, 16, 8⟩
/-- `DF.HIT.STATUS`, R131. -/
def DF.HIT.STATUS.addr : Nat := 0x101
def DF.HIT.STATUS.POS0_UP : Fd := ⟨DF.HIT.STATUS.addr, 0, 1⟩
def DF.HIT.STATUS.POS1_UP : Fd := ⟨DF.HIT.STATUS.addr, 1, 1⟩
def DF.HIT.STATUS.CTRL_POS : Fd := ⟨DF.HIT.STATUS.addr, 2, 1⟩
def DF.HIT.STATUS.RESYNC_PEND : Fd := ⟨DF.HIT.STATUS.addr, 3, 1⟩
def DF.HIT.STATUS.CQ_FILL : Fd := ⟨DF.HIT.STATUS.addr, 8, 10⟩
/-- `DF.HIT.PRIM_LOST`, R131. -/
def DF.HIT.PRIM_LOST.addr : Nat := 0x102
def DF.HIT.PRIM_LOST.COUNT : Fd := ⟨DF.HIT.PRIM_LOST.addr, 0, 32⟩
/-- `DF.HIT.CQ_PEAK`, R131. -/
def DF.HIT.CQ_PEAK.addr : Nat := 0x103
def DF.HIT.CQ_PEAK.PEAK : Fd := ⟨DF.HIT.CQ_PEAK.addr, 0, 10⟩
/-- `DF.HIT.CALGEN`, R131. -/
def DF.HIT.CALGEN.addr : Nat := 0x104
def DF.HIT.CALGEN.GEN : Fd := ⟨DF.HIT.CALGEN.addr, 0, 16⟩
def DF.HIT.CALGEN.LAST_MASK : Fd := ⟨DF.HIT.CALGEN.addr, 16, 8⟩
/-- `DF.HIT.CQ_DROP`, R131. -/
def DF.HIT.CQ_DROP.addr : Nat := 0x105
def DF.HIT.CQ_DROP.COUNT : Fd := ⟨DF.HIT.CQ_DROP.addr, 0, 32⟩
/-- `DF.HIT.MQ_DROP`, R131. -/
def DF.HIT.MQ_DROP.addr : Nat := 0x106
def DF.HIT.MQ_DROP.COUNT : Fd := ⟨DF.HIT.MQ_DROP.addr, 0, 32⟩
/-- `DF.HIT.ACCT_LO`, R131. -/
def DF.HIT.ACCT_LO.addr (i : Nat) : Nat := 0x110 + 2 * i
def DF.HIT.ACCT_LO.TOTAL_LO (i : Nat) : Fd := ⟨(DF.HIT.ACCT_LO.addr i), 0, 32⟩
/-- `DF.HIT.ACCT_HI`, R131. -/
def DF.HIT.ACCT_HI.addr (i : Nat) : Nat := 0x111 + 2 * i
def DF.HIT.ACCT_HI.TOTAL_HI (i : Nat) : Fd := ⟨(DF.HIT.ACCT_HI.addr i), 0, 16⟩
/-- `DF.TUS.RULE`, R131. -/
def DF.TUS.RULE.addr (i : Nat) : Nat := 0x800 + 1 * i
def DF.TUS.RULE.M (i : Nat) : Fd := ⟨(DF.TUS.RULE.addr i), 0, 10⟩
def DF.TUS.RULE.W (i : Nat) : Fd := ⟨(DF.TUS.RULE.addr i), 10, 3⟩
def DF.TUS.RULE.EN (i : Nat) : Fd := ⟨(DF.TUS.RULE.addr i), 16, 1⟩
/-- `DF.TUS.STATE_LO`, R131. -/
def DF.TUS.STATE_LO.addr : Nat := 0x840
def DF.TUS.STATE_LO.STATE : Fd := ⟨DF.TUS.STATE_LO.addr, 0, 32⟩
/-- `DF.TUS.STATE_HI`, R131. -/
def DF.TUS.STATE_HI.addr : Nat := 0x841
def DF.TUS.STATE_HI.STATE : Fd := ⟨DF.TUS.STATE_HI.addr, 0, 32⟩
/-- `DF.TUS.MEMBER`, R131. -/
def DF.TUS.MEMBER.addr (i : Nat) : Nat := 0xc00 + 1 * i
def DF.TUS.MEMBER.A (i : Nat) : Fd := ⟨(DF.TUS.MEMBER.addr i), 0, 6⟩
def DF.TUS.MEMBER.A_EN (i : Nat) : Fd := ⟨(DF.TUS.MEMBER.addr i), 6, 1⟩
def DF.TUS.MEMBER.B (i : Nat) : Fd := ⟨(DF.TUS.MEMBER.addr i), 8, 6⟩
def DF.TUS.MEMBER.B_EN (i : Nat) : Fd := ⟨(DF.TUS.MEMBER.addr i), 14, 1⟩
/-- `DF.LINK.SLEEP`, R163. -/
def DF.LINK.SLEEP.addr : Nat := 0x80
def DF.LINK.SLEEP.EN : Fd := ⟨DF.LINK.SLEEP.addr, 0, 1⟩
def DF.LINK.SLEEP.LOW : Fd := ⟨DF.LINK.SLEEP.addr, 1, 10⟩
def DF.LINK.SLEEP.HOLD : Fd := ⟨DF.LINK.SLEEP.addr, 16, 16⟩
/-- `DF.LINK.LANE`, R163. -/
def DF.LINK.LANE.addr (i : Nat) : Nat := 0x84 + 1 * i
def DF.LINK.LANE.STATE (i : Nat) : Fd := ⟨(DF.LINK.LANE.addr i), 0, 4⟩
def DF.LINK.LANE.RUNG (i : Nat) : Fd := ⟨(DF.LINK.LANE.addr i), 4, 2⟩
def DF.LINK.LANE.ASLEEP (i : Nat) : Fd := ⟨(DF.LINK.LANE.addr i), 6, 1⟩
def DF.LINK.LANE.RETRAINS (i : Nat) : Fd := ⟨(DF.LINK.LANE.addr i), 16, 8⟩
/-- `DF.LINK.DN`, R163. -/
def DF.LINK.DN.addr (i : Nat) : Nat := 0x88 + 1 * i
def DF.LINK.DN.STATE (i : Nat) : Fd := ⟨(DF.LINK.DN.addr i), 0, 4⟩
def DF.LINK.DN.RUNG (i : Nat) : Fd := ⟨(DF.LINK.DN.addr i), 4, 2⟩
def DF.LINK.DN.LOCKED (i : Nat) : Fd := ⟨(DF.LINK.DN.addr i), 6, 1⟩
def DF.LINK.DN.SOURCE (i : Nat) : Fd := ⟨(DF.LINK.DN.addr i), 7, 1⟩
def DF.LINK.DN.CRC_ERR (i : Nat) : Fd := ⟨(DF.LINK.DN.addr i), 8, 8⟩
def DF.LINK.DN.SEQ_GAP (i : Nat) : Fd := ⟨(DF.LINK.DN.addr i), 16, 8⟩
def DF.LINK.DN.MARKER_MISS (i : Nat) : Fd := ⟨(DF.LINK.DN.addr i), 24, 8⟩
/-- `DF.LINK.TEST`, R163. -/
def DF.LINK.TEST.addr : Nat := 0x8c
def DF.LINK.TEST.LANES : Fd := ⟨DF.LINK.TEST.addr, 0, 4⟩
def DF.LINK.TEST.PAT : Fd := ⟨DF.LINK.TEST.addr, 4, 2⟩
def DF.LINK.TEST.LOOP : Fd := ⟨DF.LINK.TEST.addr, 6, 2⟩
def DF.LINK.TEST.INJ_ERR : Fd := ⟨DF.LINK.TEST.addr, 8, 1⟩
def DF.LINK.TEST.SYNC : Fd := ⟨DF.LINK.TEST.addr, 9, 2⟩
def DF.LINK.TEST.SYNC_LOST : Fd := ⟨DF.LINK.TEST.addr, 11, 2⟩
/-- `DF.LINK.PRBS_ERR`, R163. -/
def DF.LINK.PRBS_ERR.addr (i : Nat) : Nat := 0x90 + 1 * i
def DF.LINK.PRBS_ERR.COUNT (i : Nat) : Fd := ⟨(DF.LINK.PRBS_ERR.addr i), 0, 32⟩
/-- `DF.TIME.ADJ`, R189. -/
def DF.TIME.ADJ.addr (i : Nat) : Nat := 0xc0 + 1 * i
def DF.TIME.ADJ.COARSE (i : Nat) : Fd := ⟨(DF.TIME.ADJ.addr i), 0, 16⟩
def DF.TIME.ADJ.PHASE (i : Nat) : Fd := ⟨(DF.TIME.ADJ.addr i), 16, 10⟩
/-- `DF.TIME.STATUS`, R189. -/
def DF.TIME.STATUS.addr : Nat := 0xc2
def DF.TIME.STATUS.SOURCE : Fd := ⟨DF.TIME.STATUS.addr, 0, 1⟩
def DF.TIME.STATUS.SLEWING : Fd := ⟨DF.TIME.STATUS.addr, 1, 1⟩
def DF.TIME.STATUS.SWITCHED : Fd := ⟨DF.TIME.STATUS.addr, 2, 1⟩
def DF.TIME.STATUS.STEP_BIG : Fd := ⟨DF.TIME.STATUS.addr, 3, 1⟩
def DF.TIME.STATUS.SLIP : Fd := ⟨DF.TIME.STATUS.addr, 4, 1⟩
def DF.TIME.STATUS.HOLD : Fd := ⟨DF.TIME.STATUS.addr, 5, 1⟩
/-- `DF.TIME.ECHO`, R189. -/
def DF.TIME.ECHO.addr : Nat := 0xc3
def DF.TIME.ECHO.FRAME : Fd := ⟨DF.TIME.ECHO.addr, 0, 24⟩
def DF.TIME.ECHO.VALID : Fd := ⟨DF.TIME.ECHO.addr, 24, 4⟩
/-- `DF.TIME.PROBE`, R189. -/
def DF.TIME.PROBE.addr (i : Nat) : Nat := 0xc4 + 1 * i
def DF.TIME.PROBE.TICK (i : Nat) : Fd := ⟨(DF.TIME.PROBE.addr i), 0, 16⟩
def DF.TIME.PROBE.FINE (i : Nat) : Fd := ⟨(DF.TIME.PROBE.addr i), 16, 10⟩
/-- `DF.TIME.TXMARK_A`, R189. -/
def DF.TIME.TXMARK_A.addr (i : Nat) : Nat := 0xc6 + 2 * i
def DF.TIME.TXMARK_A.COUNT (i : Nat) : Fd := ⟨(DF.TIME.TXMARK_A.addr i), 0, 24⟩
def DF.TIME.TXMARK_A.FRAME (i : Nat) : Fd := ⟨(DF.TIME.TXMARK_A.addr i), 24, 8⟩
/-- `DF.TIME.TXMARK_B`, R189. -/
def DF.TIME.TXMARK_B.addr (i : Nat) : Nat := 0xc7 + 2 * i
def DF.TIME.TXMARK_B.TICK (i : Nat) : Fd := ⟨(DF.TIME.TXMARK_B.addr i), 0, 16⟩
def DF.TIME.TXMARK_B.FINE (i : Nat) : Fd := ⟨(DF.TIME.TXMARK_B.addr i), 16, 10⟩
/-- `DF.TIME.REFIN_LAT`, R189. -/
def DF.TIME.REFIN_LAT.addr : Nat := 0xca
def DF.TIME.REFIN_LAT.LAT : Fd := ⟨DF.TIME.REFIN_LAT.addr, 0, 12⟩
/-- `DF.MEM.TMR_FIX`, R349. -/
def DF.MEM.TMR_FIX.addr : Nat := 0x70
def DF.MEM.TMR_FIX.COUNT : Fd := ⟨DF.MEM.TMR_FIX.addr, 0, 32⟩
/-- `DF.PAIR.EPOCH`, R371. -/
def DF.PAIR.EPOCH.addr : Nat := 0x60
def DF.PAIR.EPOCH.EPOCH : Fd := ⟨DF.PAIR.EPOCH.addr, 0, 16⟩
def DF.PAIR.EPOCH.VALID : Fd := ⟨DF.PAIR.EPOCH.addr, 16, 1⟩
/-- `DF.PAIR.REFUSED`, R371. -/
def DF.PAIR.REFUSED.addr : Nat := 0x61
def DF.PAIR.REFUSED.COUNT : Fd := ⟨DF.PAIR.REFUSED.addr, 0, 32⟩
/-- `DF.PAIR.TAKES`, R371. -/
def DF.PAIR.TAKES.addr : Nat := 0x62
def DF.PAIR.TAKES.COUNT : Fd := ⟨DF.PAIR.TAKES.addr, 0, 16⟩
/-- `DF.HK.CTRL`, R396. -/
def DF.HK.CTRL.addr : Nat := 0x400
def DF.HK.CTRL.EN : Fd := ⟨DF.HK.CTRL.addr, 0, 1⟩
def DF.HK.CTRL.LP : Fd := ⟨DF.HK.CTRL.addr, 1, 1⟩
def DF.HK.CTRL.CAL : Fd := ⟨DF.HK.CTRL.addr, 2, 1⟩
def DF.HK.CTRL.RECOVERY : Fd := ⟨DF.HK.CTRL.addr, 3, 8⟩
/-- `DF.HK.STATUS`, R396. -/
def DF.HK.STATUS.addr : Nat := 0x401
def DF.HK.STATUS.RUNNING : Fd := ⟨DF.HK.STATUS.addr, 0, 1⟩
def DF.HK.STATUS.CAL_BUSY : Fd := ⟨DF.HK.STATUS.addr, 1, 1⟩
def DF.HK.STATUS.CAL_DONE : Fd := ⟨DF.HK.STATUS.addr, 2, 1⟩
def DF.HK.STATUS.CAL_FAIL : Fd := ⟨DF.HK.STATUS.addr, 3, 1⟩
def DF.HK.STATUS.INJ_PEND : Fd := ⟨DF.HK.STATUS.addr, 4, 3⟩
def DF.HK.STATUS.ENTRY : Fd := ⟨DF.HK.STATUS.addr, 7, 5⟩
/-- `DF.HK.PORTS`, R396. -/
def DF.HK.PORTS.addr : Nat := 0x402
def DF.HK.PORTS.OPEN : Fd := ⟨DF.HK.PORTS.addr, 0, 8⟩
def DF.HK.PORTS.CLAMP : Fd := ⟨DF.HK.PORTS.addr, 8, 8⟩
/-- `DF.HK.LOOP_TIME`, R396. -/
def DF.HK.LOOP_TIME.addr : Nat := 0x403
def DF.HK.LOOP_TIME.T : Fd := ⟨DF.HK.LOOP_TIME.addr, 0, 24⟩
/-- `DF.HK.INJ_RESULT`, R396. -/
def DF.HK.INJ_RESULT.addr (i : Nat) : Nat := 0x408 + 1 * i
def DF.HK.INJ_RESULT.VALUE (i : Nat) : Fd := ⟨(DF.HK.INJ_RESULT.addr i), 0, 16⟩
def DF.HK.INJ_RESULT.FLAGS (i : Nat) : Fd := ⟨(DF.HK.INJ_RESULT.addr i), 16, 8⟩
def DF.HK.INJ_RESULT.COUNT (i : Nat) : Fd := ⟨(DF.HK.INJ_RESULT.addr i), 24, 8⟩
/-- `DF.HK.MON_CFG`, R396. -/
def DF.HK.MON_CFG.addr (i : Nat) : Nat := 0x410 + 1 * i
def DF.HK.MON_CFG.EN (i : Nat) : Fd := ⟨(DF.HK.MON_CFG.addr i), 0, 1⟩
def DF.HK.MON_CFG.MODE (i : Nat) : Fd := ⟨(DF.HK.MON_CFG.addr i), 1, 2⟩
def DF.HK.MON_CFG.FAULT_HI (i : Nat) : Fd := ⟨(DF.HK.MON_CFG.addr i), 3, 1⟩
def DF.HK.MON_CFG.SRC (i : Nat) : Fd := ⟨(DF.HK.MON_CFG.addr i), 4, 5⟩
def DF.HK.MON_CFG.FILT (i : Nat) : Fd := ⟨(DF.HK.MON_CFG.addr i), 9, 4⟩
def DF.HK.MON_CFG.STALE (i : Nat) : Fd := ⟨(DF.HK.MON_CFG.addr i), 13, 10⟩
def DF.HK.MON_CFG.FAULT (i : Nat) : Fd := ⟨(DF.HK.MON_CFG.addr i), 23, 1⟩
/-- `DF.HK.MON_SCALE`, R396. -/
def DF.HK.MON_SCALE.addr (i : Nat) : Nat := 0x412 + 1 * i
def DF.HK.MON_SCALE.LO (i : Nat) : Fd := ⟨(DF.HK.MON_SCALE.addr i), 0, 16⟩
def DF.HK.MON_SCALE.HI (i : Nat) : Fd := ⟨(DF.HK.MON_SCALE.addr i), 16, 16⟩
/-- `DF.HK.ENTRY_A`, R396. -/
def DF.HK.ENTRY_A.addr (i : Nat) : Nat := 0x420 + 1 * i
def DF.HK.ENTRY_A.INPUT (i : Nat) : Fd := ⟨(DF.HK.ENTRY_A.addr i), 0, 5⟩
def DF.HK.ENTRY_A.GAIN (i : Nat) : Fd := ⟨(DF.HK.ENTRY_A.addr i), 5, 3⟩
def DF.HK.ENTRY_A.EXC (i : Nat) : Fd := ⟨(DF.HK.ENTRY_A.addr i), 8, 3⟩
def DF.HK.ENTRY_A.CURVE (i : Nat) : Fd := ⟨(DF.HK.ENTRY_A.addr i), 11, 4⟩
def DF.HK.ENTRY_A.PSET (i : Nat) : Fd := ⟨(DF.HK.ENTRY_A.addr i), 15, 3⟩
def DF.HK.ENTRY_A.WIRE (i : Nat) : Fd := ⟨(DF.HK.ENTRY_A.addr i), 18, 2⟩
def DF.HK.ENTRY_A.OW (i : Nat) : Fd := ⟨(DF.HK.ENTRY_A.addr i), 20, 2⟩
def DF.HK.ENTRY_A.DIAG (i : Nat) : Fd := ⟨(DF.HK.ENTRY_A.addr i), 22, 1⟩
def DF.HK.ENTRY_A.FAST (i : Nat) : Fd := ⟨(DF.HK.ENTRY_A.addr i), 23, 1⟩
def DF.HK.ENTRY_A.RATE (i : Nat) : Fd := ⟨(DF.HK.ENTRY_A.addr i), 24, 4⟩
def DF.HK.ENTRY_A.EN (i : Nat) : Fd := ⟨(DF.HK.ENTRY_A.addr i), 28, 1⟩
/-- `DF.HK.ENTRY_B`, R396. -/
def DF.HK.ENTRY_B.addr (i : Nat) : Nat := 0x440 + 1 * i
def DF.HK.ENTRY_B.REPEAT (i : Nat) : Fd := ⟨(DF.HK.ENTRY_B.addr i), 0, 8⟩
def DF.HK.ENTRY_B.DELAY (i : Nat) : Fd := ⟨(DF.HK.ENTRY_B.addr i), 8, 16⟩
def DF.HK.ENTRY_B.AUX (i : Nat) : Fd := ⟨(DF.HK.ENTRY_B.addr i), 24, 6⟩
/-- `DF.HK.RESULT`, R396. -/
def DF.HK.RESULT.addr (i : Nat) : Nat := 0x460 + 1 * i
def DF.HK.RESULT.VALUE (i : Nat) : Fd := ⟨(DF.HK.RESULT.addr i), 0, 16⟩
def DF.HK.RESULT.FLAGS (i : Nat) : Fd := ⟨(DF.HK.RESULT.addr i), 16, 8⟩
def DF.HK.RESULT.COUNT (i : Nat) : Fd := ⟨(DF.HK.RESULT.addr i), 24, 8⟩
/-- `DF.HK.PARAM`, R396. -/
def DF.HK.PARAM.addr (i : Nat) (j : Nat) : Nat := 0x480 + 4 * i + 1 * j
def DF.HK.PARAM.P (i : Nat) (j : Nat) : Fd := ⟨(DF.HK.PARAM.addr i j), 0, 32⟩
/-- `DF.HK.UTAB`, R396. -/
def DF.HK.UTAB.addr (i : Nat) (j : Nat) : Nat := 0x4c0 + 0x20 * i + 1 * j
def DF.HK.UTAB.X (i : Nat) (j : Nat) : Fd := ⟨(DF.HK.UTAB.addr i j), 0, 16⟩
def DF.HK.UTAB.Y (i : Nat) (j : Nat) : Fd := ⟨(DF.HK.UTAB.addr i j), 16, 16⟩
/-- `DF.BIAS.CTRL`, R397. -/
def DF.BIAS.CTRL.addr : Nat := 0x200
def DF.BIAS.CTRL.EVAL : Fd := ⟨DF.BIAS.CTRL.addr, 0, 16⟩
def DF.BIAS.CTRL.STEP_MAX : Fd := ⟨DF.BIAS.CTRL.addr, 16, 6⟩
def DF.BIAS.CTRL.DEADBAND : Fd := ⟨DF.BIAS.CTRL.addr, 22, 4⟩
def DF.BIAS.CTRL.FILT : Fd := ⟨DF.BIAS.CTRL.addr, 26, 4⟩
/-- `DF.BIAS.STATUS`, R397. -/
def DF.BIAS.STATUS.addr : Nat := 0x201
def DF.BIAS.STATUS.UNCOMP_ANY : Fd := ⟨DF.BIAS.STATUS.addr, 0, 1⟩
def DF.BIAS.STATUS.LIM_ANY : Fd := ⟨DF.BIAS.STATUS.addr, 1, 1⟩
/-- `DF.BIAS.GROUP_A`, R397. -/
def DF.BIAS.GROUP_A.addr (i : Nat) : Nat := 0x210 + 1 * i
def DF.BIAS.GROUP_A.BASE (i : Nat) : Fd := ⟨(DF.BIAS.GROUP_A.addr i), 0, 12⟩
def DF.BIAS.GROUP_A.LOOP (i : Nat) : Fd := ⟨(DF.BIAS.GROUP_A.addr i), 12, 1⟩
def DF.BIAS.GROUP_A.SRC (i : Nat) : Fd := ⟨(DF.BIAS.GROUP_A.addr i), 13, 5⟩
/-- `DF.BIAS.GROUP_B`, R397. -/
def DF.BIAS.GROUP_B.addr (i : Nat) : Nat := 0x240 + 1 * i
def DF.BIAS.GROUP_B.K (i : Nat) : Fd := ⟨(DF.BIAS.GROUP_B.addr i), 0, 16⟩
def DF.BIAS.GROUP_B.TREF (i : Nat) : Fd := ⟨(DF.BIAS.GROUP_B.addr i), 16, 16⟩
/-- `DF.BIAS.TRIM`, R397. -/
def DF.BIAS.TRIM.addr (i : Nat) : Nat := 0x270 + 1 * i
def DF.BIAS.TRIM.CODE (i : Nat) : Fd := ⟨(DF.BIAS.TRIM.addr i), 0, 12⟩
def DF.BIAS.TRIM.TARGET (i : Nat) : Fd := ⟨(DF.BIAS.TRIM.addr i), 12, 12⟩
def DF.BIAS.TRIM.UNCOMP (i : Nat) : Fd := ⟨(DF.BIAS.TRIM.addr i), 24, 1⟩
def DF.BIAS.TRIM.LIM (i : Nat) : Fd := ⟨(DF.BIAS.TRIM.addr i), 25, 1⟩
/-- `DF.CMD.LOCK`, R426. -/
def DF.CMD.LOCK.addr : Nat := 0x50
def DF.CMD.LOCK.HELD : Fd := ⟨DF.CMD.LOCK.addr, 0, 1⟩
def DF.CMD.LOCK.OWNER : Fd := ⟨DF.CMD.LOCK.addr, 1, 4⟩
def DF.CMD.LOCK.LEASE : Fd := ⟨DF.CMD.LOCK.addr, 5, 5⟩
def DF.CMD.LOCK.SHADOW : Fd := ⟨DF.CMD.LOCK.addr, 10, 9⟩
/-- `DF.CMD.LAST`, R426. -/
def DF.CMD.LAST.addr : Nat := 0x51
def DF.CMD.LAST.ID : Fd := ⟨DF.CMD.LAST.addr, 0, 12⟩
def DF.CMD.LAST.STATUS : Fd := ⟨DF.CMD.LAST.addr, 12, 8⟩
def DF.CMD.LAST.OPCODE : Fd := ⟨DF.CMD.LAST.addr, 20, 8⟩
/-- `DF.CMD.LEASE_EXP`, R426. -/
def DF.CMD.LEASE_EXP.addr : Nat := 0x52
def DF.CMD.LEASE_EXP.COUNT : Fd := ⟨DF.CMD.LEASE_EXP.addr, 0, 16⟩
/-- `DF.CMD.ACCEPTED`, R426. -/
def DF.CMD.ACCEPTED.addr : Nat := 0x53
def DF.CMD.ACCEPTED.COUNT : Fd := ⟨DF.CMD.ACCEPTED.addr, 0, 32⟩
/-- `DF.BOOT.STATE`, R452. -/
def DF.BOOT.STATE.addr : Nat := 0x40
def DF.BOOT.STATE.STATE : Fd := ⟨DF.BOOT.STATE.addr, 0, 3⟩
def DF.BOOT.STATE.PREV : Fd := ⟨DF.BOOT.STATE.addr, 3, 3⟩
def DF.BOOT.STATE.WAS_SAFE : Fd := ⟨DF.BOOT.STATE.addr, 6, 1⟩
def DF.BOOT.STATE.FUSE_ERR : Fd := ⟨DF.BOOT.STATE.addr, 7, 1⟩
/-- `DF.BOOT.CAUSE`, R452. -/
def DF.BOOT.CAUSE.addr : Nat := 0x41
def DF.BOOT.CAUSE.POR : Fd := ⟨DF.BOOT.CAUSE.addr, 0, 1⟩
def DF.BOOT.CAUSE.BOR : Fd := ⟨DF.BOOT.CAUSE.addr, 1, 1⟩
def DF.BOOT.CAUSE.PIN : Fd := ⟨DF.BOOT.CAUSE.addr, 2, 1⟩
def DF.BOOT.CAUSE.SOFT : Fd := ⟨DF.BOOT.CAUSE.addr, 3, 1⟩
/-- `DF.BOOT.CTRL`, R452. -/
def DF.BOOT.CTRL.addr : Nat := 0x42
def DF.BOOT.CTRL.DONE : Fd := ⟨DF.BOOT.CTRL.addr, 0, 1⟩
/-- `DF.BOOT.RESET`, R452. -/
def DF.BOOT.RESET.addr : Nat := 0x43
def DF.BOOT.RESET.KEY : Fd := ⟨DF.BOOT.RESET.addr, 0, 32⟩
/-- `DF.BOOT.DROOP_CFG`, R452. -/
def DF.BOOT.DROOP_CFG.addr : Nat := 0x44
def DF.BOOT.DROOP_CFG.L1 : Fd := ⟨DF.BOOT.DROOP_CFG.addr, 0, 10⟩
def DF.BOOT.DROOP_CFG.L2 : Fd := ⟨DF.BOOT.DROOP_CFG.addr, 10, 10⟩
def DF.BOOT.DROOP_CFG.HOLD : Fd := ⟨DF.BOOT.DROOP_CFG.addr, 20, 8⟩
/-- `DF.BOOT.DROOP_STAT`, R452. -/
def DF.BOOT.DROOP_STAT.addr : Nat := 0x45
def DF.BOOT.DROOP_STAT.STEP : Fd := ⟨DF.BOOT.DROOP_STAT.addr, 0, 2⟩
def DF.BOOT.DROOP_STAT.MIN : Fd := ⟨DF.BOOT.DROOP_STAT.addr, 2, 10⟩
/-- `DF.BOOT.DROOP_N`, R452. -/
def DF.BOOT.DROOP_N.addr : Nat := 0x46
def DF.BOOT.DROOP_N.N2 : Fd := ⟨DF.BOOT.DROOP_N.addr, 0, 16⟩
def DF.BOOT.DROOP_N.N4 : Fd := ⟨DF.BOOT.DROOP_N.addr, 16, 16⟩
/-- `DF.ID.PART`, R480. -/
def DF.ID.PART.addr : Nat := 0x0
def DF.ID.PART.CHIP : Fd := ⟨DF.ID.PART.addr, 0, 16⟩
def DF.ID.PART.MAJOR : Fd := ⟨DF.ID.PART.addr, 16, 4⟩
def DF.ID.PART.MINOR : Fd := ⟨DF.ID.PART.addr, 20, 4⟩
def DF.ID.PART.GRADE : Fd := ⟨DF.ID.PART.addr, 24, 1⟩
/-- `DF.ID.DIE_LO`, R480. -/
def DF.ID.DIE_LO.addr : Nat := 0x1
def DF.ID.DIE_LO.ID : Fd := ⟨DF.ID.DIE_LO.addr, 0, 32⟩
/-- `DF.ID.DIE_HI`, R480. -/
def DF.ID.DIE_HI.addr : Nat := 0x2
def DF.ID.DIE_HI.ID : Fd := ⟨DF.ID.DIE_HI.addr, 0, 32⟩
/-- `DF.ID.MAP_VER`, R480. -/
def DF.ID.MAP_VER.addr : Nat := 0x3
def DF.ID.MAP_VER.VER : Fd := ⟨DF.ID.MAP_VER.addr, 0, 16⟩
/-- `DF.ID.INDEX`, R480. -/
def DF.ID.INDEX.addr : Nat := 0x4
def DF.ID.INDEX.N : Fd := ⟨DF.ID.INDEX.addr, 0, 6⟩
def DF.ID.INDEX.SET : Fd := ⟨DF.ID.INDEX.addr, 6, 1⟩
def DF.ID.INDEX.MISMATCH : Fd := ⟨DF.ID.INDEX.addr, 16, 8⟩
/-- `DF.ID.SUMMARY`, R480. -/
def DF.ID.SUMMARY.addr : Nat := 0x5
def DF.ID.SUMMARY.BOOT : Fd := ⟨DF.ID.SUMMARY.addr, 0, 1⟩
def DF.ID.SUMMARY.AFE : Fd := ⟨DF.ID.SUMMARY.addr, 1, 1⟩
def DF.ID.SUMMARY.REED : Fd := ⟨DF.ID.SUMMARY.addr, 2, 1⟩
def DF.ID.SUMMARY.HIT : Fd := ⟨DF.ID.SUMMARY.addr, 3, 1⟩
def DF.ID.SUMMARY.LINK : Fd := ⟨DF.ID.SUMMARY.addr, 4, 1⟩
def DF.ID.SUMMARY.TIME : Fd := ⟨DF.ID.SUMMARY.addr, 5, 1⟩
def DF.ID.SUMMARY.HK : Fd := ⟨DF.ID.SUMMARY.addr, 6, 1⟩
def DF.ID.SUMMARY.BIAS : Fd := ⟨DF.ID.SUMMARY.addr, 7, 1⟩
def DF.ID.SUMMARY.MON : Fd := ⟨DF.ID.SUMMARY.addr, 8, 1⟩
def DF.ID.SUMMARY.CMD : Fd := ⟨DF.ID.SUMMARY.addr, 9, 1⟩
/-- `DF.ID.SCRATCH`, R480. -/
def DF.ID.SCRATCH.addr : Nat := 0x6
def DF.ID.SCRATCH.DATA : Fd := ⟨DF.ID.SCRATCH.addr, 0, 32⟩

/-- Rows of the `DF.AFE` tables. -/
def DF.AFE.table : List RegDesc := [
  ⟨0x1000, [],
    [⟨0, 10, .rw, 16, true, []⟩,
     ⟨16, 10, .rw, 64, true, []⟩]⟩,
  ⟨0x1001, [],
    [⟨0, 1, .rw, 1, true, []⟩,
     ⟨1, 3, .rw, 3, true, []⟩,
     ⟨6, 6, .rw, 31, true, []⟩,
     ⟨12, 6, .rw, 7, true, [(0, 2)]⟩,
     ⟨18, 1, .rw, 1, true, []⟩]⟩,
  ⟨0x1002, [],
    [⟨0, 1, .ro, 0, false, []⟩,
     ⟨1, 1, .ro, 0, false, []⟩,
     ⟨2, 1, .ro, 0, false, []⟩]⟩,
  ⟨0x1003, [],
    [⟨0, 32, .rc, 0, false, []⟩]⟩,
  ⟨0x1008, [(0, 4, 2)],
    [⟨0, 16, .rw, 256, false, [(0, 255)]⟩,
     ⟨16, 10, .rw, 0, false, []⟩,
     ⟨26, 1, .rw, 0, false, []⟩,
     ⟨31, 1, .ro, 0, false, []⟩]⟩,
  ⟨0x1009, [(0, 4, 2)],
    [⟨0, 8, .rw, 1, false, []⟩,
     ⟨8, 16, .rw, 0, false, []⟩]⟩,
  ⟨0x1400, [(0, 640, 1)],
    [⟨0, 2, .rw, 0, true, [(3, 3)]⟩,
     ⟨2, 1, .rw, 0, true, []⟩,
     ⟨3, 2, .rw, 2, true, [(3, 3)]⟩,
     ⟨5, 6, .rw, 0, true, []⟩,
     ⟨11, 6, .rw, 0, true, []⟩,
     ⟨17, 4, .rw, 0, false, []⟩,
     ⟨30, 1, .w1c, 0, false, []⟩,
     ⟨31, 1, .w1c, 0, false, []⟩]⟩,
  ⟨0x1800, [(0, 640, 1)],
    [⟨0, 24, .rc, 0, false, []⟩]⟩]

/-- Rows of the `DF.REED` tables. -/
def DF.REED.table : List RegDesc := [
  ⟨0x2000, [],
    [⟨0, 16, .rw, 256, true, [(1, 63)]⟩]⟩,
  ⟨0x2001, [],
    [⟨0, 16, .rw, 2048, true, [(0, 15)]⟩]⟩,
  ⟨0x2002, [],
    [⟨0, 1, .ro, 0, false, []⟩,
     ⟨1, 1, .ro, 0, false, []⟩,
     ⟨2, 1, .ro, 0, false, []⟩]⟩,
  ⟨0x2003, [],
    [⟨0, 32, .rc, 0, false, []⟩]⟩,
  ⟨0x2004, [],
    [⟨0, 10, .ro, 0, false, []⟩,
     ⟨16, 1, .w1c, 0, false, []⟩]⟩,
  ⟨0x2010, [(0, 8, 1)],
    [⟨0, 1, .rw, 0, true, []⟩,
     ⟨1, 3, .rw, 0, true, []⟩,
     ⟨4, 1, .rw, 0, true, []⟩,
     ⟨5, 1, .ro, 0, false, []⟩,
     ⟨6, 1, .w1c, 0, false, []⟩]⟩,
  ⟨0x2400, [(0, 632, 1)],
    [⟨0, 10, .ro, 0, false, []⟩,
     ⟨10, 10, .ro, 0, false, []⟩,
     ⟨20, 1, .ro, 1, false, []⟩,
     ⟨21, 1, .ro, 0, false, []⟩,
     ⟨22, 1, .w1s, 0, false, []⟩,
     ⟨23, 8, .ro, 0, false, []⟩]⟩,
  ⟨0x2800, [(0, 640, 1)],
    [⟨0, 24, .rc, 0, false, []⟩]⟩,
  ⟨0x2c00, [(0, 640, 1)],
    [⟨0, 24, .rc, 0, false, []⟩]⟩,
  ⟨0x3000, [(0, 632, 1)],
    [⟨0, 32, .rc, 0, false, []⟩]⟩]

/-- Rows of the `DF.HIT` tables. -/
def DF.HIT.table : List RegDesc := [
  ⟨0x100, [],
    [⟨0, 14, .rw, 4096, true, [(0, 63), (8193, 16383)]⟩,
     ⟨16, 8, .rw, 64, true, []⟩]⟩,
  ⟨0x101, [],
    [⟨0, 1, .ro, 0, false, []⟩,
     ⟨1, 1, .ro, 0, false, []⟩,
     ⟨2, 1, .ro, 0, false, []⟩,
     ⟨3, 1, .ro, 0, false, []⟩,
     ⟨8, 10, .ro, 0, false, []⟩]⟩,
  ⟨0x102, [],
    [⟨0, 32, .rc, 0, false, []⟩]⟩,
  ⟨0x103, [],
    [⟨0, 10, .rc, 0, false, []⟩]⟩,
  ⟨0x104, [],
    [⟨0, 16, .ro, 0, false, []⟩,
     ⟨16, 8, .ro, 0, false, []⟩]⟩,
  ⟨0x105, [],
    [⟨0, 32, .rc, 0, false, []⟩]⟩,
  ⟨0x106, [],
    [⟨0, 32, .rc, 0, false, []⟩]⟩,
  ⟨0x110, [(0, 6, 2)],
    [⟨0, 32, .ro, 0, false, []⟩]⟩,
  ⟨0x111, [(0, 6, 2)],
    [⟨0, 16, .ro, 0, false, []⟩]⟩]

/-- Rows of the `DF.TUS` tables. -/
def DF.TUS.table : List RegDesc := [
  ⟨0x800, [(0, 64, 1)],
    [⟨0, 10, .rw, 1, true, [(0, 0), (641, 1023)]⟩,
     ⟨10, 3, .rw, 0, true, []⟩,
     ⟨16, 1, .rw, 0, true, []⟩]⟩,
  ⟨0x840, [],
    [⟨0, 32, .ro, 0, false, []⟩]⟩,
  ⟨0x841, [],
    [⟨0, 32, .ro, 0, false, []⟩]⟩,
  ⟨0xc00, [(0, 640, 1)],
    [⟨0, 6, .rw, 0, true, []⟩,
     ⟨6, 1, .rw, 0, true, []⟩,
     ⟨8, 6, .rw, 0, true, []⟩,
     ⟨14, 1, .rw, 0, true, []⟩]⟩]

/-- Rows of the `DF.LINK` tables. -/
def DF.LINK.table : List RegDesc := [
  ⟨0x80, [],
    [⟨0, 1, .rw, 0, false, []⟩,
     ⟨1, 10, .rw, 0, false, []⟩,
     ⟨16, 16, .rw, 4096, false, [(0, 63)]⟩]⟩,
  ⟨0x84, [(0, 4, 1)],
    [⟨0, 4, .ro, 0, false, []⟩,
     ⟨4, 2, .ro, 0, false, []⟩,
     ⟨6, 1, .ro, 0, false, []⟩,
     ⟨16, 8, .rc, 0, false, []⟩]⟩,
  ⟨0x88, [(0, 2, 1)],
    [⟨0, 4, .ro, 0, false, []⟩,
     ⟨4, 2, .ro, 0, false, []⟩,
     ⟨6, 1, .ro, 0, false, []⟩,
     ⟨7, 1, .ro, 0, false, []⟩,
     ⟨8, 8, .rc, 0, false, []⟩,
     ⟨16, 8, .rc, 0, false, []⟩,
     ⟨24, 8, .rc, 0, false, []⟩]⟩,
  ⟨0x8c, [],
    [⟨0, 4, .rw, 0, false, []⟩,
     ⟨4, 2, .rw, 3, false, []⟩,
     ⟨6, 2, .rw, 0, false, []⟩,
     ⟨8, 1, .w1s, 0, false, []⟩,
     ⟨9, 2, .ro, 0, false, []⟩,
     ⟨11, 2, .w1c, 0, false, []⟩]⟩,
  ⟨0x90, [(0, 2, 1)],
    [⟨0, 32, .rc, 0, false, []⟩]⟩]

/-- Rows of the `DF.TIME` tables. -/
def DF.TIME.table : List RegDesc := [
  ⟨0xc0, [(0, 2, 1)],
    [⟨0, 16, .rw, 0, true, []⟩,
     ⟨16, 10, .rw, 0, true, []⟩]⟩,
  ⟨0xc2, [],
    [⟨0, 1, .ro, 0, false, []⟩,
     ⟨1, 1, .ro, 0, false, []⟩,
     ⟨2, 1, .w1c, 0, false, []⟩,
     ⟨3, 1, .w1c, 0, false, []⟩,
     ⟨4, 1, .w1c, 0, false, []⟩,
     ⟨5, 1, .ro, 0, false, []⟩]⟩,
  ⟨0xc3, [],
    [⟨0, 24, .ro, 0, false, []⟩,
     ⟨24, 4, .ro, 0, false, []⟩]⟩,
  ⟨0xc4, [(0, 2, 1)],
    [⟨0, 16, .ro, 0, false, []⟩,
     ⟨16, 10, .ro, 0, false, []⟩]⟩,
  ⟨0xc6, [(0, 2, 2)],
    [⟨0, 24, .ro, 0, false, []⟩,
     ⟨24, 8, .ro, 0, false, []⟩]⟩,
  ⟨0xc7, [(0, 2, 2)],
    [⟨0, 16, .ro, 0, false, []⟩,
     ⟨16, 10, .ro, 0, false, []⟩]⟩,
  ⟨0xca, [],
    [⟨0, 12, .ro, 0, false, []⟩]⟩]

/-- Rows of the `DF.MEM` tables. -/
def DF.MEM.table : List RegDesc := [
  ⟨0x70, [],
    [⟨0, 32, .rc, 0, false, []⟩]⟩]

/-- Rows of the `DF.PAIR` tables. -/
def DF.PAIR.table : List RegDesc := [
  ⟨0x60, [],
    [⟨0, 16, .ro, 0, false, []⟩,
     ⟨16, 1, .ro, 0, false, []⟩]⟩,
  ⟨0x61, [],
    [⟨0, 32, .rc, 0, false, []⟩]⟩,
  ⟨0x62, [],
    [⟨0, 16, .rc, 0, false, []⟩]⟩]

/-- Rows of the `DF.HK` tables. -/
def DF.HK.table0 : List RegDesc := [
  ⟨0x400, [],
    [⟨0, 1, .rw, 0, false, []⟩,
     ⟨1, 1, .rw, 0, false, []⟩,
     ⟨2, 1, .w1s, 0, false, []⟩,
     ⟨3, 8, .rw, 4, false, []⟩]⟩,
  ⟨0x401, [],
    [⟨0, 1, .ro, 0, false, []⟩,
     ⟨1, 1, .ro, 0, false, []⟩,
     ⟨2, 1, .ro, 0, false, []⟩,
     ⟨3, 1, .w1c, 0, false, []⟩,
     ⟨4, 3, .ro, 0, false, []⟩,
     ⟨7, 5, .ro, 0, false, []⟩]⟩,
  ⟨0x402, [],
    [⟨0, 8, .ro, 0, false, []⟩,
     ⟨8, 8, .w1c, 0, false, []⟩]⟩,
  ⟨0x403, [],
    [⟨0, 24, .ro, 0, false, []⟩]⟩,
  ⟨0x408, [(0, 4, 1)],
    [⟨0, 16, .ro, 0, false, []⟩,
     ⟨16, 8, .ro, 0, false, []⟩,
     ⟨24, 8, .ro, 0, false, []⟩]⟩,
  ⟨0x410, [(0, 2, 1)],
    [⟨0, 1, .rw, 0, false, []⟩,
     ⟨1, 2, .rw, 0, false, [(3, 3)]⟩,
     ⟨3, 1, .rw, 0, false, []⟩,
     ⟨4, 5, .rw, 0, false, []⟩,
     ⟨9, 4, .rw, 0, false, []⟩,
     ⟨13, 10, .rw, 100, false, []⟩,
     ⟨23, 1, .ro, 1, false, []⟩]⟩,
  ⟨0x412, [(0, 2, 1)],
    [⟨0, 16, .rw, 0, false, []⟩,
     ⟨16, 16, .rw, 32767, false, []⟩]⟩,
  ⟨0x420, [(0, 32, 1)],
    [⟨0, 5, .rw, 0, false, [(21, 31)]⟩,
     ⟨5, 3, .rw, 0, false, []⟩,
     ⟨8, 3, .rw, 0, false, [(6, 7)]⟩,
     ⟨11, 4, .rw, 0, false, [(11, 14)]⟩,
     ⟨15, 3, .rw, 0, false, []⟩,
     ⟨18, 2, .rw, 0, false, [(3, 3)]⟩,
     ⟨20, 2, .rw, 0, false, [(3, 3)]⟩,
     ⟨22, 1, .rw, 0, false, []⟩,
     ⟨23, 1, .rw, 0, false, []⟩,
     ⟨24, 4, .rw, 3, false, [(10, 15)]⟩,
     ⟨28, 1, .rw, 0, false, []⟩]⟩,
  ⟨0x440, [(0, 32, 1)],
    [⟨0, 8, .rw, 0, false, []⟩,
     ⟨8, 16, .rw, 0, false, []⟩,
     ⟨24, 6, .rw, 0, false, [(40, 63)]⟩]⟩,
  ⟨0x460, [(0, 32, 1)],
    [⟨0, 16, .ro, 0, false, []⟩,
     ⟨16, 8, .ro, 0, false, []⟩,
     ⟨24, 8, .ro, 0, false, []⟩]⟩]

/-- Rows of the `DF.HK` tables. -/
def DF.HK.table1 : List RegDesc := [
  ⟨0x480, [(0, 8, 4), (0, 4, 1)],
    [⟨0, 32, .rw, 0, false, []⟩]⟩,
  ⟨0x4c0, [(0, 4, 32), (0, 32, 1)],
    [⟨0, 16, .rw, 0, false, []⟩,
     ⟨16, 16, .rw, 0, false, []⟩]⟩]

/-- All rows of `DF.HK`. -/
def DF.HK.table : List RegDesc := DF.HK.table0 ++ DF.HK.table1

/-- Rows of the `DF.BIAS` tables. -/
def DF.BIAS.table : List RegDesc := [
  ⟨0x200, [],
    [⟨0, 16, .rw, 512, false, [(0, 0)]⟩,
     ⟨16, 6, .rw, 4, false, [(0, 0)]⟩,
     ⟨22, 4, .rw, 1, false, [(0, 0)]⟩,
     ⟨26, 4, .rw, 0, false, []⟩]⟩,
  ⟨0x201, [],
    [⟨0, 1, .ro, 1, false, []⟩,
     ⟨1, 1, .ro, 0, false, []⟩]⟩,
  ⟨0x210, [(0, 40, 1)],
    [⟨0, 12, .rw, 0, false, []⟩,
     ⟨12, 1, .rw, 0, false, []⟩,
     ⟨13, 5, .rw, 0, false, []⟩]⟩,
  ⟨0x240, [(0, 40, 1)],
    [⟨0, 16, .rw, 0, false, []⟩,
     ⟨16, 16, .rw, 2500, false, []⟩]⟩,
  ⟨0x270, [(0, 40, 1)],
    [⟨0, 12, .ro, 0, false, []⟩,
     ⟨12, 12, .ro, 0, false, []⟩,
     ⟨24, 1, .ro, 1, false, []⟩,
     ⟨25, 1, .w1c, 0, false, []⟩]⟩]

/-- Rows of the `DF.CMD` tables. -/
def DF.CMD.table : List RegDesc := [
  ⟨0x50, [],
    [⟨0, 1, .ro, 0, false, []⟩,
     ⟨1, 4, .ro, 0, false, []⟩,
     ⟨5, 5, .ro, 0, false, []⟩,
     ⟨10, 9, .ro, 0, false, []⟩]⟩,
  ⟨0x51, [],
    [⟨0, 12, .ro, 0, false, []⟩,
     ⟨12, 8, .ro, 0, false, []⟩,
     ⟨20, 8, .ro, 0, false, []⟩]⟩,
  ⟨0x52, [],
    [⟨0, 16, .rc, 0, false, []⟩]⟩,
  ⟨0x53, [],
    [⟨0, 32, .rc, 0, false, []⟩]⟩]

/-- Rows of the `DF.BOOT` tables. -/
def DF.BOOT.table : List RegDesc := [
  ⟨0x40, [],
    [⟨0, 3, .ro, 1, false, []⟩,
     ⟨3, 3, .ro, 0, false, []⟩,
     ⟨6, 1, .w1c, 0, false, []⟩,
     ⟨7, 1, .ro, 0, false, []⟩]⟩,
  ⟨0x41, [],
    [⟨0, 1, .ro, 0, false, []⟩,
     ⟨1, 1, .ro, 0, false, []⟩,
     ⟨2, 1, .ro, 0, false, []⟩,
     ⟨3, 1, .ro, 0, false, []⟩]⟩,
  ⟨0x42, [],
    [⟨0, 1, .w1s, 0, false, []⟩]⟩,
  ⟨0x43, [],
    [⟨0, 32, .wo, 0, false, []⟩]⟩,
  ⟨0x44, [],
    [⟨0, 10, .rw, 0, false, []⟩,
     ⟨10, 10, .rw, 0, false, []⟩,
     ⟨20, 8, .rw, 20, false, []⟩]⟩,
  ⟨0x45, [],
    [⟨0, 2, .ro, 0, false, []⟩,
     ⟨2, 10, .rc, 1023, false, []⟩]⟩,
  ⟨0x46, [],
    [⟨0, 16, .rc, 0, false, []⟩,
     ⟨16, 16, .rc, 0, false, []⟩]⟩]

/-- Rows of the `DF.ID` tables. -/
def DF.ID.table : List RegDesc := [
  ⟨0x0, [],
    [⟨0, 16, .ro, 57188, false, []⟩,
     ⟨16, 4, .ro, 1, false, []⟩,
     ⟨20, 4, .ro, 1, false, []⟩,
     ⟨24, 1, .ro, 0, false, []⟩]⟩,
  ⟨0x1, [],
    [⟨0, 32, .ro, 0, false, []⟩]⟩,
  ⟨0x2, [],
    [⟨0, 32, .ro, 0, false, []⟩]⟩,
  ⟨0x3, [],
    [⟨0, 16, .ro, 1, false, []⟩]⟩,
  ⟨0x4, [],
    [⟨0, 6, .ro, 0, false, []⟩,
     ⟨6, 1, .ro, 0, false, []⟩,
     ⟨16, 8, .rc, 0, false, []⟩]⟩,
  ⟨0x5, [],
    [⟨0, 1, .ro, 0, false, []⟩,
     ⟨1, 1, .ro, 0, false, []⟩,
     ⟨2, 1, .ro, 0, false, []⟩,
     ⟨3, 1, .ro, 0, false, []⟩,
     ⟨4, 1, .ro, 0, false, []⟩,
     ⟨5, 1, .ro, 0, false, []⟩,
     ⟨6, 1, .ro, 0, false, []⟩,
     ⟨7, 1, .ro, 1, false, []⟩,
     ⟨8, 1, .ro, 0, false, []⟩,
     ⟨9, 1, .ro, 0, false, []⟩]⟩,
  ⟨0x6, [],
    [⟨0, 32, .rw, 0, false, []⟩]⟩]

end Sys2Proof.Machine
end

