-- ==== Sys2Proof/Machine/Line.lean ====
section
/-! DEFINITION. Line coding of the Ibast and Causeway lanes (R133 to R148): scrambler, stuffing, slots, the CRC of
blocks, block headers, judge words and training patterns. -/
namespace Sys2Proof.Machine

/-- The `w` low bits of a number, bit `w - 1` first (R11). -/
def bitsMsb : Nat → Nat → List Bool
  | 0, _ => []
  | w + 1, v => v.testBit w :: bitsMsb w v

/-- The number whose bits, most significant first, are these. -/
def ofBits (l : List Bool) : Nat := l.foldl (fun a b => 2 * a + b.toNat) 0

/-- Words on a lane, each sent bit 63 first (R11). -/
def wordBits (ws : List Rec) : List Bool := ws.flatMap (fun w => bitsMsb 64 w.toNat)

/-- Line data cut into 64-bit words. -/
def bitsWords : Nat → List Bool → List Rec
  | 0, _ => []
  | n + 1, l => BitVec.ofNat 64 (ofBits (l.take 64)) :: bitsWords n (l.drop 64)

/-- The feedback bit of the scrambler (R136). -/
def scrKey (s : Nat) : Bool := s.testBit 57 != s.testBit 38

/-- One step of the scrambler's 58-bit state (R136). -/
def scrNext (s : Nat) : Nat := (2 * s + (scrKey s).toNat) % 2 ^ 58

/-- The scrambler's state after `n` data bits (R136). -/
def scrSkip : Nat → Nat → Nat
  | 0, s => s
  | n + 1, s => scrSkip n (scrNext s)

/-- Scramble, or unscramble, data bits from a state (R136). -/
def scramble (s : Nat) : List Bool → List Bool
  | [] => []
  | d :: t => (d != scrKey s) :: scramble (scrNext s) t

/-- Seed of uplink and Causeway lane `l` (R136). -/
def upSeed (l : Nat) : Nat := 0x3FFFFFFFFFFFFF0 + l

/-- Seed of a downlink (R136). -/
def downSeed : Nat := 0x3FFFFFFFFFFFFFF

/-- The stuffer of R137, from a run length and the last bit. -/
def stuffFrom (run : Nat) (last : Option Bool) : List Bool → List Bool
  | [] => []
  | b :: t =>
    let r := if last = some b then run + 1 else 1
    if r = 24 then b :: (!b) :: stuffFrom 0 none t else b :: stuffFrom r (some b) t

/-- Stuffing restarts at the start of each slot (R137). -/
def stuff (l : List Bool) : List Bool := stuffFrom 0 none l

/-- Alternating fill bits, from the complement of the last line bit (R139). -/
def fillBits : Nat → Bool → List Bool
  | 0, _ => []
  | n + 1, b => (!b) :: fillBits n (!b)

/-- A slot completed with fill bits to its length (R139). -/
def fillTo (len : Nat) (l : List Bool) : List Bool := l ++ fillBits (len - l.length) (l.getLast?.getD false)

/-- The receiver's destuffing of `n` data bits (R138); none on a stuffing violation. -/
def unstuffFrom : Nat → Bool → Nat → List Bool → Option (List Bool)
  | run, last, n, s :: t =>
    if run = 24 then
      if s = last then none else unstuffFrom 0 false n t
    else
      match n with
      | 0 => some []
      | m + 1 => (unstuffFrom (if run ≠ 0 ∧ s = last then run + 1 else 1) s m t).map (s :: ·)
  | run, _, n, [] => if n = 0 ∧ run ≠ 24 then some [] else none

/-- Destuff the data bits of one slot (R138). -/
def unstuff (n : Nat) (line : List Bool) : Option (List Bool) := unstuffFrom 0 false n line

/-- Line bits of an uplink or Causeway slot of 32 words: the `k`-th slot after a marker on lane `l` (R136 to R140). -/
def upSlot (l k : Nat) (ws : List Rec) : List Bool :=
  fillTo 2134 (stuff (scramble (scrSkip (2048 * k) (upSeed l)) (wordBits ws)))

/-- Words of a received uplink or Causeway slot; none on a stuffing violation (R138). -/
def upWords (l k : Nat) (line : List Bool) : Option (List Rec) :=
  (unstuff 2048 line).map fun b => bitsWords 32 (scramble (scrSkip (2048 * k) (upSeed l)) b)

/-- Coded bits of a downlink slot of 8 words: the `k`-th slot of its frame period (R145). -/
def downCoded (k : Nat) (ws : List Rec) : List Bool :=
  fillTo 534 (stuff (scramble (scrSkip (512 * k) downSeed) (wordBits ws)))

/-- How often each coded bit of a downlink is sent at a rung (R133). -/
def downRepeat (rung : Nat) : Nat := if rung = 0 then 4 else if rung = 1 then 2 else 1

/-- Coded bits sent as line bits (R133, R134). -/
def repeatBits (m : Nat) (l : List Bool) : List Bool := l.flatMap (fun b => List.replicate m b)

/-- Majority over the copies of one coded bit, a tie decided by the last copy (R134). -/
def majority (l : List Bool) : Bool :=
  let ones := (l.filter id).length
  if 2 * ones = l.length then l.getLast?.getD false else decide (l.length < 2 * ones)

/-- Coded bits decided from line bits (R134). -/
def decideBits (m : Nat) : Nat → List Bool → List Bool
  | 0, _ => []
  | n + 1, l => majority (l.take m) :: decideBits m n (l.drop m)

/-- Words of a received downlink slot; none on a stuffing violation (R134, R138). -/
def downWords (rung k : Nat) (line : List Bool) : Option (List Rec) :=
  (unstuff 512 (decideBits (downRepeat rung) 534 line)).map fun b =>
    bitsWords 8 (scramble (scrSkip (512 * k) downSeed) b)

/-- A marker slot: the sync word, the stuffed marker word, fill bits (R141). -/
def markerSlotLine (word : Rec) : List Bool :=
  fillTo 2134 (bitsMsb 64 0xFF00F00F33CC5AA5 ++ stuff (bitsMsb 64 word.toNat))

/-- A frame marker: the sync word and the stuffed marker word (R146). -/
def frameMarkerCoded (word : Rec) : List Bool :=
  bitsMsb 64 0x00FF0FF0CC33A55A ++ stuff (bitsMsb 64 word.toNat)

/-- A marker word (R141). -/
def markerWord (lane rung count : Nat) : Rec :=
  BitVec.ofNat 64 (0x4D * 2 ^ 56 + lane % 4 * 2 ^ 54 + rung % 4 * 2 ^ 52 + count % 2 ^ 24 * 2 ^ 28)

/-- A frame marker word: frame number and pair epoch (R146). -/
def frameMarkerWord (frame epoch : Nat) : Rec :=
  BitVec.ofNat 64 (frame % 2 ^ 48 * 2 ^ 16 + epoch % 2 ^ 16)

/-- One bit of a CRC register of `w` bits with polynomial `p`, most significant bit first. -/
def crcBit (w p c : Nat) (b : Bool) : Nat :=
  let c2 := 2 * c % 2 ^ w
  if c.testBit (w - 1) != b then c2 ^^^ p else c2

/-- A CRC register after a list of bits. -/
def crcBits (w p c : Nat) (l : List Bool) : Nat := l.foldl (crcBit w p) c

/-- CRC-32C of a bit sequence as R143 defines it. -/
def crc32c (l : List Bool) : Nat := crcBits 32 0x1EDC6F41 0xFFFFFFFF l ^^^ 0xFFFFFFFF

/-- The fold word: index, position and sequence (R143). -/
def foldWord (index pos seq : Nat) : Rec :=
  BitVec.ofNat 64 (index % 64 * 2 ^ 58 + pos % 4 * 2 ^ 56 + seq % 2 ^ 24 * 2 ^ 32)

/-- The CRC of words, the last of which enters with its upper half only, under a fold word (R143, R147). -/
def blockCrc (fold : Rec) (body : List Rec) (last : Rec) : Nat :=
  crc32c (wordBits (fold :: body) ++ bitsMsb 32 (last.toNat / 2 ^ 32))

/-- Bits of a record word. -/
def rb (w : Rec) (lo width : Nat) : Nat := bits w.toNat lo width

/-- A block header (R142). -/
def blockHeader (index pos seq frame fill : Nat) : Rec :=
  BitVec.ofNat 64 (index % 64 * 2 ^ 58 + pos % 4 * 2 ^ 56 + seq % 2 ^ 24 * 2 ^ 32 + frame % 2 ^ 24 * 2 ^ 8 + fill % 32 * 2 ^ 3)

/-- The IDLE record (R103). -/
def idleRec : Rec := 0xF000000000000000

/-- The words of a block of `n` words: header, payload filled with IDLE records, trailer with total and CRC (R111, R142, R143). -/
def makeBlock (index pos seq frame hitTotal : Nat) (payload : List Rec) : List Rec :=
  let body := blockHeader index pos seq frame payload.length :: (payload ++ List.replicate (30 - payload.length) idleRec)
  let t : Nat := hitTotal % 2 ^ 32 * 2 ^ 32
  body ++ [BitVec.ofNat 64 (t + blockCrc (foldWord index pos seq) body (BitVec.ofNat 64 t))]

/-- Whether the CRC of a received 32-word block holds for the index and position it arrived at (R143). -/
def blockCrcOk (index pos : Nat) (ws : List Rec) : Bool :=
  let t := ws.getD 31 0
  decide (rb t 0 32 = blockCrc (foldWord index pos (rb (ws.getD 0 0) 32 24)) (ws.take 31) t)

/-- A downlink block of 8 words for a target index (R147). -/
def makeDownBlock (index seq : Nat) (payload : List Rec) : List Rec :=
  let h : Nat := index % 64 * 2 ^ 58 + seq % 2 ^ 24 * 2 ^ 32 + payload.length % 256 * 2 ^ 24
  let body := BitVec.ofNat 64 h :: (payload ++ List.replicate (6 - payload.length) 0)
  body ++ [BitVec.ofNat 64 (blockCrc (foldWord index 0 seq) body 0)]

/-- Whether the CRC of a received downlink block holds for an index (R147). -/
def downCrcOk (index : Nat) (ws : List Rec) : Bool :=
  let t := ws.getD 7 0
  decide (rb t 0 32 = blockCrc (foldWord index 0 (rb (ws.getD 0 0) 32 24)) (ws.take 7) t)

/-- First words of idle, sleep and wake slots (R140). -/
def idleWord : Rec := 0xFFFFFFFFFFFFFFFF
def sleepWord : Rec := 0xFFFFFFFFFFFFFFFE
def wakeWord : Rec := 0xFFFFFFFFFFFFFFFD

/-- A slot of `n` words told apart by its first word, the rest all ones (R140). -/
def plainSlot (n : Nat) (first : Rec) : List Rec := first :: List.replicate (n - 1) idleWord

/-- A judge word (R155). -/
def judgeWord (sender upRung dnRung verdict upDec dnDec errors : Nat) : Rec :=
  BitVec.ofNat 64 (0xA7E5 * 2 ^ 48 + sender % 2 * 2 ^ 47 + upRung % 4 * 2 ^ 43 + dnRung % 4 * 2 ^ 41 + verdict % 4 * 2 ^ 39
    + upDec % 4 * 2 ^ 37 + dnDec % 4 * 2 ^ 35 + min errors (2 ^ 32 - 1))

/-- Feedback of the pattern generators of R159 on a state of `w` bits with a second tap `t`. -/
def prbsKey (w t s : Nat) : Bool := s.testBit (w - 1) != s.testBit (t - 1)

/-- The next `n` bits of a pattern from a state. -/
def prbsBits (w t : Nat) : Nat → Nat → List Bool
  | 0, _ => []
  | n + 1, s => prbsKey w t s :: prbsBits w t n ((2 * s + (prbsKey w t s).toNat) % 2 ^ w)

/-- The state of a pattern generator after `n` bits. -/
def prbsSkip (w t : Nat) : Nat → Nat → Nat
  | 0, s => s
  | n + 1, s => prbsSkip w t n ((2 * s + (prbsKey w t s).toNat) % 2 ^ w)

/-- Length, second tap and output inversion of a pattern code (R159). -/
def pattern (code : Nat) : Nat × Nat × Bool :=
  if code = 0 then (7, 6, false) else if code = 1 then (15, 14, true) else if code = 2 then (23, 18, true) else (31, 28, true)

/-- Line bits of the `k`-th train slot after a marker (R154). DEDUCED (log entry 39). -/
def trainSlot (k : Nat) : List Bool := fillTo 2134 (stuff (prbsBits 31 28 2048 (prbsSkip 31 28 (2048 * k) (2 ^ 31 - 1))))

/-- Whether sequence `a` is newer than `b` modulo 2²⁴ within a window of 2²³ (R144). DEDUCED (log entry 34). -/
def newer (a b : Nat) : Bool :=
  let g := (a + 2 ^ 24 - b % 2 ^ 24) % 2 ^ 24
  decide (1 ≤ g) && decide (g ≤ 2 ^ 23)

end Sys2Proof.Machine
end

