-- ==== Sys2Proof/Machine/StateDf.lean ====
section
/-! DEFINITION. What one DF640 holds beside its register words: its local tick count, the channels, the hit stream, the
tussock window, the lanes, the adjustment of its time, the command interpreter, housekeeping and start-up. The default
value of every field is its value at reset. A register named in a table of the spec has its home in `Df.regs`. -/
namespace Sys2Proof.Machine

/-- A candidate from its leading edge until it enters the derandomiser or is refused (R46, R104, R108). -/
structure Cand where
  /-- Time of the leading edge in fine. -/
  lead : Nat := 0
  /-- The constants in force at the leading edge (R74). -/
  rA : Nat := 0
  rB : Nat := 0
  coarse : Bool := false
  inj : Bool := false
  sat : Bool := false
  pileup : Bool := false
  aged : Bool := false
  anchor : Bool := false
  clamp : Bool := false
  /-- The channel's mode was MASKED at the leading edge. -/
  masked : Bool := false
  /-- Last tick at which V seen high validates it. -/
  valEnd : Nat := 0
  /-- Whether validation is decided, and how. -/
  valid : Option Bool := none
  /-- The ToT, once the trailing edge is latched. -/
  tot : Option Nat := none
  /-- Tick from which the record is complete. -/
  doneAt : Nat := 0
  /-- It is counted in `COARSE[n]`. -/
  counted : Bool := false
  /-- Tick at which its gate closes; 0 for an edge of a REFIN pin, which opens none (R50, R95). -/
  gate : Nat := 0
  /-- Charge collected in the gate, in fC, clipped at full scale; none while the gate is open (R50, R53). -/
  charge : Option Nat := none
  /-- The ToT that this charge gives a channel whose offset is 0 (R51). -/
  ramp : Nat := 0
  deriving DecidableEq, Repr

/-- A finished record on its way to a lane: the word, the frame of its leading edge and its entry tick in the queue. -/
structure HitRec where
  word : Rec := 0
  frame : Nat := 0
  since : Nat := 0
  deriving DecidableEq, Repr

/-- One running calibration window of a channel: its end in fine, and whether it is a post-hit calibration (R54, R76). -/
structure CalWin where
  endF : Nat := 0
  post : Bool := false
  deriving DecidableEq, Repr

/-- One channel of the DF640 (R35 to R66, R76 to R97). -/
structure Chan where
  /-- Candidates, oldest first; the last one is in progress while it has no ToT. -/
  cands : List Cand := []
  gateEnd : Option Nat := none
  blankEnd : Option Nat := none
  armed : Bool := false
  ready : Bool := false
  wins : List CalWin := []
  refreshAt : Option Nat := none
  /-- A refresh held back for an injection launch (R80). -/
  refreshHeld : Bool := false
  /-- The next refresh timer takes the spread value (R79). -/
  spread : Bool := false
  /-- End of the last valid calibration window, in fine. -/
  lastCal : Nat := 0
  badRun : Nat := 0
  retryAt : Option Nat := none
  /-- Launch tick of the last injection of this channel. -/
  injAt : Option Nat := none
  /-- Level of the input clamp and of the baseline compensator's limit. -/
  clampOn : Bool := false
  blcOn : Bool := false
  rearmAt : Option Nat := none
  srcBlank : Option Nat := none
  /-- The derandomiser (R108). -/
  derand : List HitRec := []
  deriving DecidableEq, Repr

/-- One injection slot beside its registers (R55 to R61). -/
structure InjSlot where
  /-- Frame of the next firing. -/
  next : Nat := 0
  /-- Firings left; none for no limit. -/
  left : Option Nat := none
  /-- A stop awaits the next frame boundary. -/
  stopReq : Bool := false
  /-- Tick of the last launch. -/
  lastLaunch : Nat := 0
  deriving DecidableEq, Repr

/-- An entry of the control queue or of a mark queue (R112): its words, the order in which it was queued and the tick. -/
structure CtlEnt where
  words : List Rec := []
  stamp : Nat := 0
  since : Nat := 0
  deriving DecidableEq, Repr

/-- One lane position (R101, R108 to R112). -/
structure Pos where
  hits : List HitRec := []
  marks : List CtlEnt := []
  /-- The closed block of 32 words that has not begun to be sent. -/
  closed : Option (List Rec) := none
  /-- Sequence of the next block. -/
  seq : Nat := 0
  hitTotal : Nat := 0
  /-- Since when the lane queue has been at or below LOW with no closed block waiting (R160). -/
  lowSince : Option Nat := none
  /-- The driver of a sleeping position is turning on; wake slots go from this tick (R161). -/
  wakeAt : Option Nat := none
  deriving DecidableEq, Repr

/-- One uplink lane of the DF640 beside its LANE register (R140, R141). -/
structure TxLane where
  /-- Slots sent since the last marker slot, 0 to 4,096. -/
  slot : Nat := 0
  /-- Markers sent since the lane entered LOCK. -/
  markers : Nat := 0
  /-- Closed blocks handed to this lane and not yet sent. -/
  todo : List (List Rec) := []
  /-- Tick and slot position at which the lane fell asleep. -/
  sleptAt : Nat := 0
  /-- One bit still to be inverted, and the pattern generator's state, while the lane is in TEST (R159). -/
  invert : Bool := false
  gen : Nat := 0
  deriving DecidableEq, Repr

/-- What a receiver of a training direction reports and remembers (R153 to R157). -/
structure Train where
  /-- Verdict for the direction this receiver receives: 0 none, 1 PASS, 2 FAIL. -/
  verdict : Nat := 0
  errors : Nat := 0
  /-- The direction has stepped down during this bring-up. -/
  steppedDown : Bool := false
  /-- Decision pending for the direction: 0 HOLD, 1 UP, 2 DOWN, 3 RUN. -/
  decision : Nat := 0
  /-- Frame in which the direction entered FAULT. -/
  faultFrame : Nat := 0
  /-- The lane came back from FAULT and climbs no higher than its partner (R156). -/
  afterFault : Bool := false
  /-- The rung to take at the end of STEP. -/
  stepTo : Nat := 0
  deriving DecidableEq, Repr

/-- The pattern checker of one receiver (R159). -/
structure Checker where
  /-- The last 31 received bits, once seeded. -/
  seed : Option Nat := none
  good : Nat := 0
  /-- In a near-end loop-back: the state of the looped generator as this checker has followed it, and a bit still to be inverted. -/
  loop : Option Nat := none
  flip : Bool := false
  deriving DecidableEq, Repr

/-- One downlink receiver of the DF640 beside its DN register (R148). -/
structure RxDown where
  lastSeq : Option Nat := none
  /-- Words of a command frame received so far (R413). -/
  rx : List Rec := []
  crcRun : Nat := 0
  missRun : Nat := 0
  train : Train := {}
  check : Checker := {}
  deriving DecidableEq, Repr

/-- The hit stream beside its registers (R108 to R130). -/
structure HitSt where
  pos : FMap Pos := []
  /-- The 512-entry control queue. -/
  ctrlQ : List CtlEnt := []
  /-- The 16-word reply queue (R415): word and entry tick. -/
  replyQ : List (Rec × Nat) := []
  stamp : Nat := 0
  /-- Round-robin pointer of each quarter's merge output. -/
  rr : FMap Nat := []
  lastCtrl : Option Nat := none
  /-- The control lane moved since the last RESYNC. -/
  moved : Bool := false
  /-- Hits per frame and account not yet in the totals; key 6 × frame + account. -/
  frames : FMap Nat := []
  /-- The running totals; key account. -/
  totals : FMap Nat := []
  /-- Frame number in which the LEDGER records were last queued. -/
  ledgerFrame : Option Nat := none
  deriving DecidableEq, Repr

/-- The tussock logic beside its registers (R115 to R123). -/
structure TusSt where
  /-- Counted crossings as (slice, channel), newest first. -/
  crossings : List (Nat × Nat) := []
  /-- The 64 states at the last evaluated slice, as a bit map. -/
  state : Nat := 0
  nextSlice : Nat := 0
  /-- First slice that counts for a tussock that restarted; key tussock. -/
  restart : FMap Nat := []
  /-- PRIM records queued since the last WATERMARK. -/
  prims : Nat := 0
  lastResync : Nat := 0
  /-- The words in force before the last frame boundary, and the first slice after it: earlier slices still to be evaluated see the old rules (R117, R119). -/
  prevEff : RegFile := []
  effFrom : Nat := 0
  /-- First slice of the span of RUN whose RESYNC of cause 3 is due. -/
  firstSlice : Option Nat := none
  deriving DecidableEq, Repr

/-- An ECHO being carried out (R171, R417). -/
structure EchoRun where
  identity : Nat := 0
  /-- Local frame in which the command was applied. -/
  since : Nat := 0
  /-- Frame number of the marker to be probed: the one after the last found on the clock source. -/
  want : Nat := 0
  /-- Frame number of the probed markers, once one has been stamped. -/
  frame : Option Nat := none
  /-- The reply has been sent; values not yet latched still are. -/
  answered : Bool := false
  deriving DecidableEq, Repr

/-- The time of the DF640 beside its registers (R169 to R171, R176). -/
structure DfTime where
  labelled : Bool := false
  /-- PHASE now applied and the tick at which its slew began. -/
  phase : Nat := 0
  slewFrom : Nat := 0
  /-- Length of the running slew in fine. -/
  slewLen : Nat := 0
  /-- COARSE of the set in force. -/
  coarse : Int := 0
  /-- Probe stamps in fine, with the frame number of each marker; key receiver. -/
  probes : FMap (Option (Nat × Nat)) := []
  echo : Option EchoRun := none
  rootLocked : Bool := false
  deriving DecidableEq, Repr

/-- The command interpreter beside its registers (R413 to R421). -/
structure CmdSt where
  shadow : List (Nat × Word) := []
  /-- Identity of a COMMIT that waits for its boundary, and whether a TAKE voided it. -/
  commit : Option (Nat × Bool) := none
  sync : Option Nat := none
  /-- Identity and reply of the last command carried out. -/
  last : Option (Nat × List Rec) := none
  /-- A reply that does not fit in the reply queue. -/
  waiting : Option (List Rec) := none
  /-- Command frames that wait behind such a reply: downlink and words. -/
  held : List (Nat × List Rec) := []
  /-- Frame boundary to which the lease has been lowered. -/
  leaseAt : Nat := 0
  /-- Start-up state to take at the next frame boundary. -/
  goTo : Option Nat := none
  /-- LINK_STEP at the next frame boundary: lanes, downlinks, restart. -/
  step : Option (Nat × Nat × Bool) := none
  /-- SLEEP has been accepted in the present DORMANT. -/
  sleepOk : Bool := false
  deriving DecidableEq, Repr

/-- A housekeeping conversion waiting or running: ENTRY_A and ENTRY_B words. -/
structure HkJob where
  a : Word := 0
  b : Word := 0
  deriving DecidableEq, Repr

/-- The housekeeping unit and bias loop beside their registers (R373 to R398). -/
structure HkSt where
  /-- Queued injections: queue position and descriptor. -/
  queue : List (Nat × HkJob) := []
  qNext : Nat := 0
  /-- A calibration is requested. -/
  calReq : Bool := false
  /-- Injections queued before the requested calibration, which run first (R386). -/
  calAhead : Nat := 0
  /-- Offset in LSB and gain error in ppm of each gain as last calibrated; none while the fuse constants are in force (R386). -/
  cal : List (Int × Int) := []
  /-- Recovery in µs before the next slot (R382). -/
  wait : Nat := 0
  /-- Next table entry to consider. -/
  nextEntry : Nat := 0
  /-- Excitation and port of the previous slot. -/
  prevExc : Nat × Nat := (0, 0)
  loopAcc : Nat := 0
  /-- The next slot starts at once after an over-range and carries RECOVER. -/
  recover : Bool := false
  /-- Cold-junction value last found usable; key entry. -/
  lastGood : FMap (Option Int) := []
  /-- Filtered source temperature of each bias group. -/
  tf : FMap (Option Int) := []
  /-- The group was UNCOMP at its last source result. -/
  tfReload : FMap Bool := []
  /-- A valid source result has existed for the group since reset. -/
  everValid : FMap Bool := []
  /-- Frame of the last bias evaluation. -/
  biasAt : Option Nat := none
  /-- Bias codes to apply at the next boundary: code and cause. -/
  steps : FMap (Option (Nat × Nat)) := []
  /-- Filtered value of each monitor output. -/
  monY : FMap (Option Int) := []
  /-- The latest result of a source since its monitor's last update; key monitor. -/
  monSeen : FMap Nat := []
  /-- Level presented by each monitor output: code, duty in 25 ns steps or frequency in Hz. -/
  monOut : FMap Nat := []
  /-- The level of each port clamp. -/
  portClamp : FMap Bool := []
  deriving DecidableEq, Repr

/-- Start-up of the DF640 beside its registers (R439 to R446). -/
structure DfBoot where
  /-- State held before DORMANT. -/
  before : Nat := 0
  /-- Frame at which RUN last began and the frame at which it last ended. -/
  runFrom : Nat := 0
  runTo : Nat := 0
  /-- The last frame boundary whose effects have taken place. -/
  boundary : Nat := 0
  /-- The first FRAME mark since reset is still to come. -/
  firstMark : Bool := true
  /-- Frame boundaries left until a soft reset. -/
  softIn : Option Nat := none
  /-- Tick since which no downlink has been in RUN. -/
  noDownSince : Option Nat := none
  /-- Receiver tried in LISTEN. -/
  listen : Nat := 0
  /-- A TAKE has been accepted since reset. -/
  taken : Bool := false
  droopMv : Nat := 1023
  /-- Tick since which the reading has stood at least 10 mV above the level being left, with no step since (R446). -/
  droopFrom : Nat := 0
  deriving DecidableEq, Repr

/-- What a DF640 has sent on an uplink lane: the line bits of a slot, a marker slot with the time of its first bit, or the bits of
a pattern or of a far-end loop-back. -/
inductive DfSent
  | slot (l : Nat) (line : List Bool)
  | marker (l : Nat) (line : List Bool) (tick fine : Nat)
  | pattern (l : Nat) (line : List Bool)
  deriving DecidableEq, Repr

/-- One DF640. -/
structure Df where
  /-- The local tick count (R169). -/
  now : Nat := 0
  /-- Register words as last written or set by hardware. -/
  regs : RegFile := []
  /-- Register words whose staged fields are in force (R47). -/
  eff : RegFile := []
  /-- Staged writes await the next frame boundary. -/
  pend : Bool := false
  /-- Latched `_HI` values; key 65,536 × owner + address (R477). -/
  latch : FMap Word := []
  chans : FMap Chan := []
  slots : FMap InjSlot := []
  /-- Δ of the last 1,024 valid calibrations, newest first (R69). -/
  deltas : List Nat := []
  /-- The bias loop of the lines stands at an end of its range (R69). -/
  loopEnd : Bool := false
  hit : HitSt := {}
  tus : TusSt := {}
  lanes : FMap TxLane := []
  downs : FMap RxDown := []
  tim : DfTime := {}
  cmd : CmdSt := {}
  hk : HkSt := {}
  bt : DfBoot := {}
  /-- Slots sent, newest first: the model's own record of what left the chip. -/
  out : List DfSent := []
  deriving DecidableEq, Repr

end Sys2Proof.Machine
end

