-- ==== Sys2Proof/Machine/DfOps.lean ====
section
/-! DEFINITION. The operations that the meanings of the DF640's commands share: register words and fields, record words
(R103 to R129), the queues of a lane position, the composition and closing of a block (R109 to R114), lane positions and
the control lane (R101, R102). -/
namespace Sys2Proof.Machine

/-- Every register row of the DF640 (R473). -/
def dfTable : List RegDesc :=
  DF.ID.table ++ DF.BOOT.table ++ DF.CMD.table ++ DF.PAIR.table ++ DF.MEM.table ++ DF.LINK.table ++ DF.TIME.table
    ++ DF.HIT.table ++ DF.BIAS.table ++ DF.HK.table ++ DF.TUS.table ++ DF.AFE.table ++ DF.REED.table

/-- The reset word of a DF640 address: its row's, with `ANCHOR[k].PIN` = k (R99). -/
def dfReset (a : Nat) : Word :=
  match findReg dfTable a with
  | some r => if DF.REED.ANCHOR.addr 0 ≤ a ∧ a < DF.REED.ANCHOR.addr 8 then BitVec.ofNat 32 (2 * (a - DF.REED.ANCHOR.addr 0)) else r.reset
  | none => 0

/-- The register word at an address. -/
def Df.word (d : Df) (a : Nat) : Word := FMap.get (dfReset a) d.regs a

/-- Set a register word. -/
def Df.setWord (d : Df) (a : Nat) (w : Word) : Df := { d with regs := FMap.put (dfReset a) d.regs a w }

/-- A field as last written or set. -/
def Df.fld (d : Df) (f : Fd) : Nat := fieldOf (d.word f.addr) f.lo f.width

/-- A staged field as in force (R47, R48). -/
def Df.inForce (d : Df) (f : Fd) : Nat := fieldOf (FMap.get (dfReset f.addr) d.eff f.addr) f.lo f.width

/-- Set a field. -/
def Df.set (d : Df) (f : Fd) (v : Nat) : Df := d.setWord f.addr (withField (d.word f.addr) f.lo f.width v)

/-- Add to a counter field, saturating at all ones. -/
def Df.add (d : Df) (f : Fd) (n : Nat) : Df := d.set f (satAdd f.width (d.fld f) n)

/-- Count one in a counter field. -/
def Df.inc (d : Df) (f : Fd) : Df := d.add f 1

/-- The later of a 64-bit count and a tick; a tick beyond 64 bits stands for the count after it has wrapped (R6). -/
def laterTick (now t : Nat) : Nat := if t < 2 ^ 64 then max now t else t % 2 ^ 64

/-- The local count moves forward to a tick, never back. DESIGN CHOICE (log entry 7). -/
def Df.until (d : Df) (t : Nat) : Df := { d with now := laterTick d.now t }

/-- The frame number of the local count (R6). -/
def Df.frame (d : Df) : Nat := d.now / frameTicks

/-- A channel's state. -/
def Df.chan (d : Df) (ch : Nat) : Chan := FMap.get {} d.chans ch

/-- Replace a channel's state. -/
def Df.setChan (d : Df) (ch : Nat) (c : Chan) : Df := { d with chans := FMap.put {} d.chans ch c }

/-- A lane position's state. -/
def Df.pos (d : Df) (p : Nat) : Pos := FMap.get {} d.hit.pos p

/-- Replace a lane position's state. -/
def Df.setPos (d : Df) (p : Nat) (x : Pos) : Df := { d with hit := { d.hit with pos := FMap.put {} d.hit.pos p x } }

/-- An uplink lane's state beside its register. -/
def Df.lane (d : Df) (l : Nat) : TxLane := FMap.get {} d.lanes l

/-- Replace an uplink lane's state. -/
def Df.setLane (d : Df) (l : Nat) (x : TxLane) : Df := { d with lanes := FMap.put {} d.lanes l x }

/-- A downlink receiver's state beside its register. -/
def Df.down (d : Df) (i : Nat) : RxDown := FMap.get {} d.downs i

/-- Replace a downlink receiver's state. -/
def Df.setDown (d : Df) (i : Nat) (x : RxDown) : Df := { d with downs := FMap.put {} d.downs i x }

/-- The DF640's start-up state code (R439). -/
def Df.state (d : Df) : Nat := d.fld DF.BOOT.STATE.STATE

/-- Codes of the start-up states (R439). -/
def dfPower : Nat := 0
def dfFuse : Nat := 1
def dfListen : Nat := 2
def dfConfig : Nat := 3
def dfAlign : Nat := 4
def dfRun : Nat := 5
def dfDormant : Nat := 6
def dfSafe : Nat := 7

/-- Move to a start-up state, keeping the state before in `PREV` (R439). -/
def Df.enter (d : Df) (st : Nat) : Df := (d.set DF.BOOT.STATE.PREV d.state).set DF.BOOT.STATE.STATE st

/-- Whether the channel is an anchor channel (R90). -/
def isAnchor (ch : Nat) : Bool := decide (632 ≤ ch)

/-- Channel modes (R35). -/
def modeOff : Nat := 0
def modeLive : Nat := 1
def modeMasked : Nat := 2

/-- The channel's mode in force. -/
def Df.mode (d : Df) (ch : Nat) : Nat := d.inForce (DF.AFE.CH.MODE ch)

/-- The flags byte of a HIT record (R105). -/
def Cand.flags (c : Cand) : Nat :=
  c.coarse.toNat + 2 * c.inj.toNat + 4 * c.sat.toNat + 8 * c.pileup.toNat + 16 * c.aged.toNat + 32 * c.anchor.toNat
    + 64 * c.clamp.toNat

/-- A HIT record (R104). -/
def hitWord (ch tick fine tot flags : Nat) : Rec :=
  BitVec.ofNat 64 (2 ^ 60 + ch % 1024 * 2 ^ 50 + tick % 65536 * 2 ^ 34 + fine % 1024 * 2 ^ 24 + tot % 65536 * 2 ^ 8 + flags % 256)

/-- A PRIM record (R120). -/
def primWord (k state slice mult : Nat) : Rec :=
  BitVec.ofNat 64 (2 * 2 ^ 60 + k % 64 * 2 ^ 54 + state % 2 * 2 ^ 53 + slice % 16384 * 2 ^ 39 + mult % 1024 * 2 ^ 29)

/-- A mark with its subtype and the bits below (R124). -/
def markWord (sub body : Nat) : Rec := BitVec.ofNat 64 (3 * 2 ^ 60 + sub % 16 * 2 ^ 56 + body % 2 ^ 56)

/-- A WATERMARK mark (R121). -/
def watermarkWord (slice frame count : Nat) : Rec :=
  markWord 3 (slice % 16384 * 2 ^ 42 + frame % 2 ^ 24 * 2 ^ 18 + count % 16384 * 2 ^ 4)

/-- A FRAME mark (R124). -/
def frameMark (frame flags : Nat) : Rec := markWord 0 (frame % 2 ^ 48 * 2 ^ 8 + flags % 256)

/-- A BIAS mark (R124). -/
def biasMark (g new old cause uncomp : Nat) : Rec :=
  markWord 1 (g % 64 * 2 ^ 50 + new % 4096 * 2 ^ 38 + old % 4096 * 2 ^ 26 + cause % 4 * 2 ^ 24 + uncomp % 2 * 2 ^ 23)

/-- A CALGEN mark (R124, R125). -/
def calgenMark (gen mask : Nat) : Rec := markWord 2 (gen % 65536 * 2 ^ 40 + mask % 256 * 2 ^ 32)

/-- A RESYNC record (R123). -/
def resyncWord (cause slice frame ones : Nat) : Rec :=
  BitVec.ofNat 64 (5 * 2 ^ 60 + cause % 4 * 2 ^ 54 + slice % 16384 * 2 ^ 40 + frame % 2 ^ 24 * 2 ^ 16 + ones % 128 * 2 ^ 8)

/-- A LEDGER record (R129). -/
def ledgerWord (account frame total : Nat) : Rec :=
  BitVec.ofNat 64 (4 * 2 ^ 60 + account % 16 * 2 ^ 56 + frame % 256 * 2 ^ 48 + total % 2 ^ 48)

/-- A REPLY record (R415). -/
def replyWord (identity index status data : Nat) : Rec :=
  BitVec.ofNat 64 (5 * 2 ^ 60 + 2 ^ 56 + identity % 4096 * 2 ^ 44 + index % 16 * 2 ^ 40 + status % 256 * 2 ^ 32 + data % 2 ^ 32)

/-- Kind and subtype of a record word (R103). -/
def kindOf (w : Rec) : Nat := rb w 60 4
def subOf (w : Rec) : Nat := rb w 56 4

/-- A PRIM or RESYNC record. -/
def isPrimOrResync (w : Rec) : Bool := kindOf w == 2 || (kindOf w == 5 && subOf w == 0)

/-- A WATERMARK mark. -/
def isWatermark (w : Rec) : Bool := kindOf w == 3 && subOf w == 3

/-- Accounts of the front-end ledger (R129). -/
def accDetected : Nat := 0
def accEmitted : Nat := 1
def accDerand : Nat := 2
def accLaneFull : Nat := 3
def accMasked : Nat := 4
def accLinkDown : Nat := 5

/-- Count one hit of a frame in an account (R128). -/
def Df.account (d : Df) (frame acc : Nat) : Df :=
  { d with hit := { d.hit with frames := d.hit.frames.upd 0 (6 * frame + acc) (· + 1) } }

/-- Whether uplink lane `l` is in RUN. -/
def Df.laneRun (d : Df) (l : Nat) : Bool := d.fld (DF.LINK.LANE.STATE l) == 5

/-- Whether lane position `p` is up (R101). -/
def Df.posUp (d : Df) (p : Nat) : Bool := d.laneRun p || d.laneRun (p + 2)

/-- The control lane (R102): the lowest-numbered position that is up. -/
def Df.ctrlPos (d : Df) : Option Nat := if d.posUp 0 then some 0 else if d.posUp 1 then some 1 else none

/-- A lane position sleeps while a lane of it in RUN is asleep (R160). -/
def Df.posAsleep (d : Df) (p : Nat) : Bool :=
  (d.laneRun p && d.fld (DF.LINK.LANE.ASLEEP p) == 1) || (d.laneRun (p + 2) && d.fld (DF.LINK.LANE.ASLEEP (p + 2)) == 1)

/-- The rung of a lane position: the lowest rung of its lanes in RUN. DESIGN CHOICE (log entry 21): the spec gives one
limit per rung and does not say which lane's rung counts when the two homing ports differ. -/
def Df.posRung (d : Df) (p : Nat) : Nat :=
  let r l := d.fld (DF.LINK.LANE.RUNG l)
  if d.laneRun p then (if d.laneRun (p + 2) then min (r p) (r (p + 2)) else r p) else r (p + 2)

/-- The lane-queue limit of a rung (R110). -/
def laneLimit (rung : Nat) : Nat := if rung = 0 then 168 else if rung = 1 then 337 else if rung = 2 then 675 else 1024

/-- Words waiting in the control queue. -/
def Df.cqFill (d : Df) : Nat := total (d.hit.ctrlQ.map (·.words.length))

/-- Next order stamp of a queued control entry. -/
def Df.tickStamp (d : Df) : Df := { d with hit := { d.hit with stamp := d.hit.stamp + 1 } }

/-- Queue a control record; a full control queue discards it (R112, R114). -/
def Df.queueCtl (d : Df) (w : Rec) : Df :=
  if 512 ≤ d.cqFill then (d.inc DF.HIT.CQ_DROP.COUNT).set DF.HIT.STATUS.RESYNC_PEND 1
  else
    let e : CtlEnt := { words := [w], stamp := d.hit.stamp, since := d.now }
    let d := Df.tickStamp { d with hit := { d.hit with ctrlQ := d.hit.ctrlQ ++ [e] } }
    d.set DF.HIT.CQ_PEAK.PEAK (max (d.fld DF.HIT.CQ_PEAK.PEAK) d.cqFill)

/-- Queue a mark on one position; without room for all of its words it is discarded whole (R112). -/
def Df.queueMarkAt (d : Df) (p : Nat) (ws : List Rec) : Df :=
  let x := d.pos p
  if 8 < total (x.marks.map (·.words.length)) + ws.length then d.inc DF.HIT.MQ_DROP.COUNT
  else (d.setPos p { x with marks := x.marks ++ [⟨ws, d.hit.stamp, d.now⟩] }).tickStamp

/-- Queue a FRAME or INJECT_SCHEDULE mark on every position that is up (R124). -/
def Df.queueMark (d : Df) (ws : List Rec) : Df :=
  let d := if d.posUp 0 then d.queueMarkAt 0 ws else d
  if d.posUp 1 then d.queueMarkAt 1 ws else d

/-- Insert a control entry in queueing order; the flag says that it comes from a mark queue. -/
def insCtl (e : Bool × CtlEnt) : List (Bool × CtlEnt) → List (Bool × CtlEnt)
  | [] => [e]
  | x :: t => if e.2.stamp < x.2.stamp then e :: x :: t else x :: insCtl e t

/-- The control records and marks a position may send, in the order they were queued (R112). -/
def mergeCtl (marks ctrl : List CtlEnt) : List (Bool × CtlEnt) :=
  marks.foldl (fun l m => insCtl (true, m) l) (ctrl.map fun c => (false, c))

/-- The longest run of whole entries that fits in `room` words (R112). -/
def fitCtl : Nat → List (Bool × CtlEnt) → List (Bool × CtlEnt)
  | _, [] => []
  | room, e :: t => if e.2.words.length ≤ room then e :: fitCtl (room - e.2.words.length) t else []

/-- The words of entries. -/
def ctlWords (l : List (Bool × CtlEnt)) : List Rec := l.flatMap (·.2.words)

/-- A block as composed from a position's queues: its payload and how much of each queue it takes. -/
structure Comp where
  payload : List Rec
  nMark : Nat
  nCtl : Nat
  nReply : Nat
  nHit : Nat
  oldest : Option Nat
  deriving DecidableEq, Repr

/-- The earlier of two optional ticks. -/
def minOpt : Option Nat → Option Nat → Option Nat
  | none, b => b
  | a, none => a
  | some a, some b => some (min a b)

/-- The block a lane position assembles (R112): up to 8 words of control records and marks in queueing order, then replies
within the same 8 words, then hits, then further control records where hits leave words unused. DEDUCED (log entry 23). -/
def Df.compose (d : Df) (p : Nat) : Comp :=
  let x := d.pos p
  let isCtrl := decide (d.ctrlPos = some p)
  let all := mergeCtl x.marks (if isCtrl then d.hit.ctrlQ else [])
  let head := fitCtl 8 all
  let hw := ctlWords head
  let reps := if isCtrl then d.hit.replyQ.take (8 - hw.length) else []
  let hits := x.hits.take (30 - hw.length - reps.length)
  let more := fitCtl (30 - hw.length - reps.length - hits.length) (all.drop head.length)
  let taken := head ++ more
  { payload := hw ++ reps.map (·.1) ++ hits.map (·.word) ++ ctlWords more,
    nMark := (taken.filter (·.1)).length, nCtl := (taken.filter (!·.1)).length, nReply := reps.length, nHit := hits.length,
    oldest := minOpt ((taken.map (·.2.since) ++ reps.map (·.2) ++ hits.map (·.since)).foldl (fun m t => minOpt m (some t)) none) none }

/-- A PRIM or RESYNC record followed by a WATERMARK in the same block (R111). -/
def groupDone : List Rec → Bool
  | [] => false
  | w :: t => (isPrimOrResync w && t.any isWatermark) || groupDone t

/-- Whether the block of a position is due to close at the present tick (R111). No block closes before the index is known (R481). -/
def Df.closeDue (d : Df) (p : Nat) : Bool :=
  let c := d.compose p
  d.posUp p && (d.pos p).closed.isNone && d.fld DF.ID.INDEX.SET == 1 &&
    (c.payload.length == 30 || groupDone c.payload ||
      (match c.oldest with | some t => decide (t + d.inForce DF.HIT.CTRL.FLUSH ≤ d.now) | none => false))

/-- Close the block of a position (R111, R113, R142): its hits count as emitted. -/
def Df.closeBlock (d : Df) (p : Nat) : Df :=
  let c := d.compose p
  let x := d.pos p
  let tot := x.hitTotal + c.nHit
  let blk := makeBlock (d.fld DF.ID.INDEX.N) p x.seq d.frame tot c.payload
  let d := (x.hits.take c.nHit).foldl (fun d h => d.account h.frame accEmitted) d
  let d := d.setPos p { x with hits := x.hits.drop c.nHit, marks := x.marks.drop c.nMark, closed := some blk, seq := (x.seq + 1) % 2 ^ 24, hitTotal := tot % 2 ^ 32 }
  { d with hit := { d.hit with ctrlQ := d.hit.ctrlQ.drop c.nCtl, replyQ := d.hit.replyQ.drop c.nReply } }

/-- Put a reply into the reply queue when it fits; otherwise it waits in the command interpreter (R416). -/
def Df.sendReply (d : Df) (ws : List Rec) : Df :=
  if d.hit.replyQ.length + ws.length ≤ 16 then
    { d with hit := { d.hit with replyQ := d.hit.replyQ ++ ws.map (fun w => (w, d.now)) }, cmd := { d.cmd with waiting := none } }
  else { d with cmd := { d.cmd with waiting := some ws } }

/-- Keep the low-water timer of a position, and ask for a wake when its queue is above LOW or a closed block waits to be sent (R160, R161). -/
def Df.noteLow (d : Df) (p : Nat) : Df :=
  let x := d.pos p
  let low := decide (x.hits.length - (d.compose p).nHit ≤ d.fld DF.LINK.SLEEP.LOW) && x.closed.isNone && (d.lane p).todo.isEmpty && (d.lane (p + 2)).todo.isEmpty
  let since := if low then (match x.lowSince with | some t => some t | none => some d.now) else none
  let wake := if d.posAsleep p && !low then (match x.wakeAt with | some t => some t | none => some (d.now + 96)) else x.wakeAt
  d.setPos p { x with lowSince := since, wakeAt := wake }

/-- Close the block of a position if it is due, and keep its sleep and wake timers. -/
def Df.pumpPos (d : Df) (p : Nat) : Df :=
  let d := if d.closeDue p then d.closeBlock p else d
  d.noteLow p

/-- After any change to the queues: close what is due on both positions and let a waiting reply in. -/
def Df.pump (d : Df) : Df :=
  let d := (d.pumpPos 0).pumpPos 1
  match d.cmd.waiting with
  | some ws => d.sendReply ws
  | none => d

/-- The control lane that serves is noted; a different position than the last one is a move (R102). -/
def Df.noteCtrl (d : Df) : Df :=
  match d.ctrlPos with
  | none => d
  | some p =>
    { d with hit := { d.hit with lastCtrl := some p, moved := d.hit.moved || decide (d.hit.lastCtrl.getD p ≠ p) } }

/-- A lane position goes down (R113, R114): its waiting hits count as link-down; control records and marks of its unclosed
block are discarded, and the marks that still wait in its queue are counted in MQ_DROP. `c` is the block it was assembling. -/
def Df.dropPos (d : Df) (p : Nat) (c : Comp) : Df :=
  let x := d.pos p
  let d := x.hits.foldl (fun d h => d.account h.frame accLinkDown) d
  let d := d.add DF.HIT.MQ_DROP.COUNT (x.marks.drop c.nMark).length
  let d := d.setPos p { x with hits := [], marks := [], closed := none, lowSince := none, wakeAt := none }
  { d with hit := { d.hit with ctrlQ := d.hit.ctrlQ.drop c.nCtl } }

/-- After lanes changed state: positions that went down are emptied and the control lane is noted. -/
def Df.lanesMoved (old d : Df) : Df :=
  let d := if old.posUp 0 && !d.posUp 0 then d.dropPos 0 (old.compose 0) else d
  let d := if old.posUp 1 && !d.posUp 1 then d.dropPos 1 (old.compose 1) else d
  d.noteCtrl.pump

/-- Change the states of lanes and carry out what follows for the lane positions. -/
def Df.withLanes (d : Df) (f : Df → Df) : Df := Df.lanesMoved d (f d)

end Sys2Proof.Machine
end

