-- ==== Sys2Proof/Machine/StateDc.lean ====
section
/-! DEFINITION. What one DC64 holds beside its register words: receivers and downlinks, time, the Mire, the Sluice, channel
contexts and the calibration engine, the trigger engine and the captures in flight. The default value of every field is
its value at reset. A register named in a table of the spec has its home in `Dc.regs`. -/
namespace Sys2Proof.Machine

/-- A receiver of an uplink lane or of a Causeway lane (R144, R149, R152). -/
structure Rx where
  /-- Sequence and hit total of the last accepted block (R144, R152). -/
  lastSeq : Option Nat := none
  lastTotal : Nat := 0
  /-- A block has been accepted since reset (R459). -/
  ever : Bool := false
  crcRun : Nat := 0
  missRun : Nat := 0
  /-- Stamp of the last marker in fine, and its count (R149, R167). -/
  mark : Option (Nat × Nat) := none
  /-- The stamps of the latest markers with their counts, newest first, at most 512 (R167, R172). -/
  marks : List (Nat × Nat) := []
  train : Train := {}
  check : Checker := {}
  deriving DecidableEq, Repr

/-- One Ibast port of the DC64 beside its registers (R145 to R158). -/
structure Port where
  /-- Downlink slots sent since the frame marker, and train slots sent in the present pass (R154). -/
  slot : Nat := 0
  /-- None until a frame period begins. -/
  pass : Option Nat := none
  /-- Coded bits of the frame marker of the present period (R145, R146). -/
  markBits : Nat := 128
  /-- Decision last sent for the uplink and for the downlink, and in how many judge slots in a row (R157). -/
  upDec : Nat × Nat := (0, 0)
  dnDec : Nat × Nat := (0, 0)
  /-- State of the pattern generator in TEST, and a bit still to be inverted (R159). -/
  gen : Nat := 0
  invert : Bool := false
  /-- The downlink sleeps (R162). -/
  asleep : Bool := false
  /-- Downlink sequence of the next block. -/
  seq : Nat := 0
  /-- Training of the downlink, as the DC64 knows it. -/
  dn : Train := {}
  /-- Skew being compensated, lane 1 minus lane 0, in fine (R149). -/
  skew : Int := 0
  /-- DT tick since which both lanes have been out of RUN, not because a cap was lowered. -/
  outFrom : Option Nat := none
  /-- Command frame words that wait to be sent (R147, R413). -/
  tx : List Rec := []
  deriving DecidableEq, Repr

/-- One Causeway lane as the receiving unit has it, and the sequence it sends with (R135, R354). -/
structure CwLane where
  state : Nat := 0
  rung : Nat := 0
  retrains : Nat := 0
  rx : Rx := {}
  /-- Sequence of the next Causeway block sent on this lane. -/
  seq : Nat := 0
  /-- The unit's transmitter of lane l: slot position, markers sent, blocks that wait (R135, R140, R141). -/
  tx : TxLane := {}
  /-- Departures of the latest markers in fine with their counts, newest first, at most 64 (R175). -/
  left : List (Nat × Nat) := []
  /-- Delay with which the receiver compensates the skew of this lane, in fine (R149). -/
  delay : Nat := 0
  /-- Decision last sent for the direction received here, and in how many judge slots in a row (R157). -/
  dec : Nat × Nat := (0, 0)
  deriving DecidableEq, Repr

/-- A segment of the mapping from DT to PTP time (R183). `sub` is in units of 2⁻¹⁰ ps. -/
structure Seg where
  d0 : Nat := 0
  sec : Nat := 0
  ns : Nat := 0
  sub : Nat := 0
  cause : Nat := 0
  master : Nat := 0
  deriving DecidableEq, Repr

/-- What is known of one acceptable master (R178, R185): its last Announce, the tick of its last message and its
announce interval as a logarithm. -/
structure Master where
  ds : Option Dataset := none
  last : Nat := 0
  logAnnounce : Int := 0
  port : Nat := 0
  /-- Port number of the sender (R178). -/
  sender : Nat := 0
  deriving DecidableEq, Repr

/-- A Sync of a two-step master that waits for its Follow_Up (R177). -/
structure TwoStep where
  port : Nat := 0
  entry : Nat := 0
  sequence : Nat := 0
  stamp : Nat := 0
  correction : Int := 0
  deriving DecidableEq, Repr

/-- A Pdelay_Resp of a two-step peer that waits for its follow-up (R177): sequence, tag, its receive stamp, the peer's receive time and its correction. -/
structure PeerWait where
  sequence : Nat := 0
  tag : Nat := 0
  stamp : Nat := 0
  received : Int := 0
  correction : Int := 0
  deriving DecidableEq, Repr

/-- The alignment of one DF640 by the firmware (R173): ECHOs averaged so far, the sums of θ for both homing ports, whether the sets have been
written and wait for the confirming ECHO, and the frame of the last alignment. -/
structure AlignSt where
  count : Nat := 0
  sum0 : Int := 0
  sum1 : Int := 0
  written : Bool := false
  since : Nat := 0
  deriving DecidableEq, Repr

/-- Time of the DC64 beside its registers (R166 to R188). Offsets and delays are in units of 2⁻¹⁰ ps. -/
structure DcTime where
  /-- Epoch frame to take at the next frame boundary (R166). -/
  epoch : Option Nat := none
  /-- Steering at each of the last 64 servo updates, newest first, in 10⁻¹² (R181). -/
  rates : List Int := []
  /-- The last rate, held in HOLDOVER and DISCONT. -/
  held : Int := 0
  /-- Integral of the PI loop, in 10⁻²⁴ (R182). -/
  integ : Int := 0
  /-- Steering asked for, taken up at frame boundaries (R182). -/
  want : Int := 0
  e0 : Int := 0
  m0 : Nat := 0
  i0 : Nat := 0
  /-- The last offset and its receive stamp; offset of the first Sync after the first step. -/
  prev : Option (Int × Nat) := none
  /-- Mean path delay of each Ethernet port. -/
  delay : FMap (Option Int) := []
  /-- Master time and receive stamp of the last Sync of each port. -/
  sync : FMap (Option (Int × Nat)) := []
  twoStep : FMap (Option TwoStep) := []
  peerWait : FMap (Option PeerWait) := []
  /-- Delay requests whose stamp was queued: port, tag, stamp in fine. -/
  reqs : List (Nat × Nat × Nat) := []
  masters : FMap Master := []
  /-- The segment ring (R183), and a segment to open at the next frame boundary. -/
  segs : FMap (Option Seg) := []
  openSeg : Option Seg := none
  /-- Transmit stamps: tag, port, stamp in fine (R180). -/
  txq : List (Nat × Nat × Nat) := []
  /-- PPS_OUT is high until this tick (R188). -/
  ppsEnd : Option Nat := none
  /-- The alignment of each DF640 (R173). -/
  align : FMap AlignSt := []
  /-- Stamps that the partner sent, in fine with their counts, newest first, at most 64: of the markers of lane 2 (or 0) of each DF640, of the
  departures of its Causeway markers, and of the arrivals of this unit's Causeway markers (R175). -/
  pMarks : FMap (List (Nat × Nat)) := []
  pLeft : FMap (List (Nat × Nat)) := []
  pCame : FMap (List (Nat × Nat)) := []
  /-- By how much the time of a standby exceeded the active unit's at the last measurement, and the phase to which it has steered its root, in fine (R33, R175). -/
  lead : Int := 0
  root : Int := 0
  deriving DecidableEq, Repr

/-- A slot of the ring: arrival DT in fine, receiver, its 32 words, and the words that were uncorrectable in staging (R196). -/
structure Slot where
  arr : Nat := 0
  recv : Nat := 0
  words : List Rec := []
  bad : List Nat := []
  deriving DecidableEq, Repr

/-- The index record of a frame (R203): first and last slot number, count, and for each receiver with slots its first and last
slot and count. -/
structure IdxRec where
  frame : Nat := 0
  first : Nat := 0
  last : Nat := 0
  count : Nat := 0
  recvs : FMap (Option (Nat × Nat × Nat)) := []
  deriving DecidableEq, Repr

/-- The Mire (R193 to R208). Slot numbers are kept unwrapped; every register and record shows them modulo 2⁴⁰ (R202). -/
structure Mire where
  next : Nat := 0
  oldest : Nat := 0
  staged : FMap (List (Nat × Slot)) := []
  /-- The ingress debt of each channel, as it stood at a FABRIC cycle, and the ingress windows, counted from DT 0 plus 1, of which a cycle is lent (R205, R206). -/
  debt : FMap Nat := []
  debtAt : FMap Nat := []
  lent : FMap Nat := []
  /-- Ring position that each channel writes next. -/
  pos : FMap Nat := []
  /-- Slot number plus 1 at each ring position; key 8 × position + channel. -/
  ring : FMap Nat := []
  slots : FMap (Option Slot) := []
  /-- Index records of frames still being filled or not yet written. -/
  fill : FMap IdxRec := []
  index : FMap (Option IdxRec) := []
  /-- The next frame whose index record is due. -/
  nextIndex : Nat := 0
  /-- Retired 64 KiB pages: channel and page (R343). -/
  retired : List (Nat × Nat) := []
  /-- Channels with a device above 85 °C (R207). -/
  hot : List Nat := []
  deriving DecidableEq, Repr

/-- A locked sequence (R215, R216): its lines as target, line and whether written, the RDLs granted, and the tick of its first grant. -/
structure SluSeq where
  lines : List (Nat × Nat × Bool) := []
  rdls : Nat := 0
  since : Nat := 0
  deriving DecidableEq, Repr

/-- A channel context: its eight 64-bit words (R218). -/
abbrev CtxLine := List Rec

/-- A read, merge and write of one line by a unit of the DC64 (R216, R218): host writes of one context's window, a threshold shadow, a sweep of a context with its hits
and their latest, a point of a context with its frame, time, ToT, launch and charge, a restart of an accumulator, an evaluation, staged values taking effect, a context of
the state copy, an entry of the calibration log, an entry of the Peat map. -/
inductive LineJob
  | window (i w : Nat) (vs : List Word)
  | shadow (i v : Nat)
  | sweep (i frames hits last : Nat)
  | point (n ch frame f tot launch charge : Nat)
  | restart (i keep : Nat)
  | eval (i : Nat)
  | apply (gen frame i : Nat)
  | copy (i : Nat) (other : CtxLine) (marks : List Nat)
  | logEntry (p : Nat) (e : Rec × Rec)
  | mapEntry (l e : Nat)
  deriving DecidableEq, Repr

/-- A request that waits for a locked line (R216): requester, target, line, tick of the request; an RDL, or what the requester does once the line is free. -/
structure SluWait where
  r : Nat := 0
  target : Nat := 0
  line : Nat := 0
  since : Nat := 0
  job : Option LineJob := none
  deriving DecidableEq, Repr

/-- The Sluice and what the lines hold (R210 to R217). -/
structure SluSt where
  seqs : FMap (Option SluSeq) := []
  wait : List SluWait := []
  /-- Requester last granted at a target and level; key 8 × target + level (R212). -/
  lastGrant : FMap Nat := []
  /-- Contents of DRAM lines outside the ring; key 2⁴⁰ × target + line. -/
  data : FMap (List Rec) := []
  /-- The line the last RDL of each requester returned, and its poison bits, bit i for word i (R326). -/
  read : FMap (List Rec) := []
  readPoison : FMap Nat := []
  deriving DecidableEq, Repr

/-- A context after reset: 0 except RATE (R230). -/
def ctxReset : CtxLine := [0, 0, 0, 0, 0, 0xFFFFFF0000000000, 0, 0]

/-- Channel contexts, rate sweep and calibration engine (R218 to R226). -/
structure CtxSt where
  ctxs : FMap CtxLine := []
  /-- Counter banks: hits and latest leading edge in fine; key context. -/
  bank : FMap (Nat × Nat) := []
  sweepFrame : Nat := 0
  /-- The points that a context's accumulator holds, as frame and residual (R223). -/
  points : FMap (List (Nat × Int)) := []
  /-- First frame whose hits give points; key 41 × n for the whole DF640, 41 × n + 1 + g for a bias group (R223). -/
  calFrom : FMap Nat := []
  /-- Frame of the latest FRAME mark of each lane position; key 2 × n + position. -/
  marks : FMap Nat := []
  /-- The latest INJECT_SCHEDULE marks of each DF640: frame, and firing slots as (launch tick, charge code). -/
  sched : FMap (List (Nat × List (Nat × Nat))) := []
  /-- Copy of `DF.AFE.CONFIG.GATE` of each DF640, as (frame from which it is in force, value), newest first (R222). -/
  gate : FMap (List (Nat × Nat)) := []
  /-- Anchor reference accumulators: sum and points (R226). -/
  chipSum : FMap Int := []
  chipPts : FMap Nat := []
  chipNext : FMap (Option Int) := []
  /-- Records that the calibration engine has read in a frame: the frame, and how many (R448). -/
  readIn : Nat × Nat := (0, 0)
  /-- The calibration log (R225); key position modulo 2²⁰. -/
  log : FMap (Rec × Rec) := []
  deriving DecidableEq, Repr

/-- A RESYNC group being collected (R123, R232): slice in frame, its frame, PRIM records still to come, tussocks named so far, and
the lane position that brought the RESYNC. -/
structure ResyncSt where
  slice : Nat := 0
  frame : Nat := 0
  left : Nat := 0
  word : Nat := 0
  pos : Nat := 0
  deriving DecidableEq, Repr

/-- Tussock records of one DF640 on their way into the map (R232 to R234). -/
structure PrimSt where
  /-- PRIM records outside RESYNC groups since the last WATERMARK: slice in frame, tussock, state. -/
  prims : List (Nat × Nat × Bool) := []
  /-- PRIM records of either kind received since the last WATERMARK. -/
  count : Nat := 0
  resync : Option ResyncSt := none
  /-- The group whose WATERMARK is expected next, counted from DT 0 (256 per frame). -/
  expect : Option Nat := none
  /-- The last group whose WATERMARK has arrived, plus 1, and the groups before it whose WATERMARK has not: each from a first group up to, but not
  including, a second. -/
  upTo : Nat := 0
  gaps : List (Nat × Nat) := []
  deriving DecidableEq, Repr

/-- A change of the map that waits for the evaluation of its slice: slice counted from DT 0, DF640, and either one bit or the
whole word of a RESYNC. -/
structure MapChange where
  slice : Nat := 0
  n : Nat := 0
  bit : Option (Nat × Bool) := none
  word : Nat := 0
  deriving DecidableEq, Repr

/-- The run of one pattern (R238). -/
structure PatRun where
  /-- First slice of the run in progress. -/
  s0 : Option Nat := none
  fired : Bool := false
  /-- A cared bit belonged to a STALE DF640 during the run (R240). -/
  stale : Bool := false
  /-- The pattern is newly enabled: its state before the next group counts as no match (R241). -/
  fresh : Bool := false
  deriving DecidableEq, Repr

/-- A hit taken by the extractor: corrected time in fine, context, pixel, ToT, flags, generation under which it was read. -/
structure ExtHit where
  time : Int := 0
  ctx : Nat := 0
  pixel : Nat := 0
  tot : Nat := 0
  flags : Nat := 0
  gen : Nat := 0
  masked : Bool := false
  deriving DecidableEq, Repr

/-- A decided trigger (R242, R248): what its record's header says of the decision. -/
structure Decision where
  seq : Nat := 0
  source : Nat := 0
  tTick : Nat := 0
  tFine : Nat := 0
  start : Nat := 0
  stop : Nat := 0
  flags : Nat := 0
  detail : Nat := 0
  epoch : Nat := 0
  scope : Nat := 0
  /-- Frame of the decision, whose copy carries it (R356). -/
  frame : Nat := 0
  deriving DecidableEq, Repr

/-- A trigger that has fired and is not yet decided (R239, R242 to R245): the slice at which it is considered, its source, T,
detail and whether it carries MAP_STALE. -/
structure Trig where
  slice : Nat := 0
  source : Nat := 0
  tTick : Nat := 0
  tFine : Nat := 0
  detail : Nat := 0
  stale : Bool := false
  deriving DecidableEq, Repr

/-- A capture in flight (R250, R254 to R258). -/
structure Cap where
  dec : Decision := {}
  /-- Extraction has begun; the Mire held a valid slot at the first reading (R255); slot numbers read, hits read, poisoned words. -/
  begun : Bool := false
  held : Bool := false
  readSlots : List Nat := []
  hits : List ExtHit := []
  poisoned : List Rec := []
  /-- Fragments closed and not yet handed on. -/
  frags : List (List Rec) := []
  done : Bool := false
  /-- It has been released before and is extracted again after a takeover (R365). -/
  again : Bool := false
  deriving DecidableEq, Repr

/-- The trigger engine beside its registers (R231 to R265). -/
structure TrgSt where
  prim : FMap PrimSt := []
  /-- DF640s that are not STALE. -/
  fresh : List Nat := []
  /-- Map word of each DF640 at the last evaluated slice, the slice plus 1 of the latest change applied to each bit (key 64n + k), and changes
  still to apply. -/
  map : FMap Nat := []
  bitAt : FMap Nat := []
  changes : List MapChange := []
  /-- The next group to evaluate, counted from DT 0, and the groups before which all are known to be complete (R233). -/
  group : Nat := 0
  complete : Nat := 0
  runs : FMap PatRun := []
  /-- First slice of the first group completed after the enable. -/
  fromSlice : Nat := 0
  sLast : Option Nat := none
  tLast : FMap (Option (Nat × Nat)) := []
  next : Nat := 0
  caps : List Cap := []
  /-- Captures handed on whose last fragment is not yet committed (R365). -/
  away : List Cap := []
  /-- The tombstone queue: records of 8 words with the frame of the decision. -/
  tombs : List (Nat × List Rec) := []
  /-- Triggers a standby has found since the last group of its newest copy (R365), oldest first. -/
  undecided : List Trig := []
  /-- Accepted triggers of each source in the present period, and the frame at which it began (R265). -/
  period : FMap Nat := []
  periodFrom : Option Nat := none
  deriving DecidableEq, Repr

end Sys2Proof.Machine
end

