-- ==== Sys2Proof/Machine/StateStore.lean ====
section
/-! DEFINITION. What one DC64 holds beside its register words: qualifier, coder, the Peat store and memory integrity. The default
value of every field is its value at reset; the flash keeps its content over a reset. -/
namespace Sys2Proof.Machine

/-- A record on its way: header words 0 to 7, qualifier words A to D, body words, stream (R269, R280), and whether an LZD queue had no room
for its body (R290). -/
structure QRec where
  head : List Rec := []
  qual : List Rec := []
  body : List Rec := []
  stream : Nat := 0
  /-- The sample of `DC.CMP.CTRL` under which it is coded (R296). -/
  ctrl : Word := 0
  backlog : Bool := false
  deriving DecidableEq, Repr

/-- A capture that the qualifier knows (R272 to R281). -/
structure QlfCap where
  seq : Nat := 0
  source : Nat := 0
  mask : Nat := 0
  force : Bool := false
  action : Nat := 0
  /-- The limits of its source as sampled at the first fragment (R278, R296). -/
  hitsMin : Nat := 0
  hitsMax : Nat := 0
  spanMax : Nat := 0
  /-- Cause of path NONE, once it holds: 4 to 6; 0 while the capture is held. -/
  none' : Nat := 0
  /-- Cause 2 or cause 3 of R276 has held. -/
  cause2 : Bool := false
  cause3 : Bool := false
  held : List (List Rec) := []
  words : Nat := 0
  /-- Contexts hit, and the first mask word that is still to be compared (R275). -/
  ctxs : List Nat := []
  at' : Nat := 0
  /-- Summary figures (R279). -/
  n : Nat := 0
  sumT : Int := 0
  sumT2 : Int := 0
  minT : Int := 0
  maxT : Int := 0
  tot : Nat := 0
  deriving DecidableEq, Repr

/-- The qualifier beside its registers: fragments and tombstones that are on their way to it, captures open, records released. -/
structure QlfSt where
  inq : List (List Rec) := []
  caps : List QlfCap := []
  out : List QRec := []
  deriving DecidableEq, Repr

/-- One LZD engine (R287 to R290): the canonical input of the present block as bytes with the hash that each position entered the chains
under, newest first, its length, its number, whether no record of it has been coded yet, and the mode its stream had last. -/
structure Lzd where
  dict : List (Nat × Option Nat) := []
  used : Nat := 0
  block : Nat := 0
  fresh : Bool := true
  mode : Option Nat := none
  deriving DecidableEq, Repr

/-- A coded record (R269), and the overflow buffers it holds until it is submitted (R290). -/
structure Coded where
  words : List Rec := []
  stream : Nat := 0
  buffers : Nat := 0
  deriving DecidableEq, Repr

/-- The coder beside its registers: the sample of `DC.CMP.CTRL` of every capture whose fragments are arriving (R296). -/
structure CmpSt where
  samples : List (Nat × Word) := []
  /-- Fold contexts that have been started, written or folded since reset: the others show `RESULT` at its reset value (R296). -/
  folded : List Nat := []
  lzd : FMap Lzd := []
  out : List Coded := []
  deriving DecidableEq, Repr

/-- Positions of one log that a state copy carries (R319), and the highest SENT (R468). -/
structure PeatPos where
  id : Nat := 0
  commit : Nat := 0
  sent : Nat := 0
  release : Nat := 0
  limit : Nat := 0
  committed : Nat := 0
  released : Nat := 0
  sentMax : Nat := 0
  deriving DecidableEq, Repr

/-- An item of the log (R302): its offset, its words, and for a record item its journal number and identity. `poison`: it is sent as
a POISON item (R316, R332). -/
structure PItem where
  off : Nat := 0
  words : List Rec := []
  j : Nat := 0
  ident : Rec := 0
  poison : Bool := false
  deriving DecidableEq, Repr

/-- A journal page (R309): serial, entries of 4 words, the CRC of its header, and which copies have been programmed. -/
structure JPage where
  serial : Nat := 0
  entries : List (List Rec) := []
  crc : Nat := 0
  even : Bool := false
  odd : Bool := false
  deriving DecidableEq, Repr

/-- A fence page (R312): its serial and the CRC of its header, the last J submitted, the DT of the event, identities. -/
structure Fence where
  serial : Nat := 0
  crc : Nat := 0
  lastJ : Nat := 0
  dt : Nat := 0
  idents : List Rec := []
  deriving DecidableEq, Repr

/-- A flash block: state (0 free, 1 being erased, 2 open, 3 in use, 4 retired, 5 failed, 6 journal, checkpoint or root) and erase count (R314), which for a block not
retired leaves out the erases that every good block has had at formats. -/
structure FBlock where
  state : Nat := 0
  erases : Nat := 0
  deriving DecidableEq, Repr

/-- A checkpoint (R311): the blocks it lies in, P₀ and what it writes. -/
structure PCheck where
  at' : List Nat := []
  p0 : Nat := 0
  map : FMap Nat := []
  blocks : FMap FBlock := []
  log : PeatPos := {}
  plog : PeatPos := {}
  totals : List Nat := []
  nextJ : Nat := 1
  nextP : Nat := 0
  deriving DecidableEq, Repr

/-- The geometry that the store uses (R298, R300): the fields of `DC.PEAT.GEOM`, native pages per block, blocks per plane, and the factory bad blocks as
2²⁰ × channel + block. -/
structure FlashGeom where
  targets : Nat := 0
  luns : Nat := 0
  planes : Nat := 0
  rate : Nat := 0
  pagesPerBlock : Nat := 0
  blocks : Nat := 0
  factoryBad : List Nat := []
  mismatch : Bool := false
  chanFail : Bool := false
  deriving DecidableEq, Repr

/-- The flash content and its tables, which a reset does not clear (R298 to R315). -/
structure Flash where
  geom : Option FlashGeom := none
  formatted : Bool := false
  formats : Nat := 0
  id : Nat := 0
  /-- Identities drawn at earlier formats (R302). -/
  ids : List Nat := []
  u : Nat := 0
  /-- Pages per block in use, and the SET FEATURES last given to every LUN: feature address and P1 (R299). -/
  perBlock : Nat := 0
  feature : Option (Nat × Nat) := none
  items : List PItem := []
  /-- The page poison map of programmed pages of the log; key page from offset 0, line i in bit i (R331, R332). -/
  poison : FMap Nat := []
  journal : List JPage := []
  /-- Valid checkpoints, newest first, at most two (R311). -/
  cps : List PCheck := []
  fence : Option Fence := none
  /-- A journal page of which one copy has been programmed (R313). -/
  half : Option JPage := none
  /-- The map of R303; key logical page. -/
  map : FMap Nat := []
  /-- Key 2²⁰ × channel + block in the channel. -/
  blocks : FMap FBlock := []
  /-- Erases that every good block has had at formats. -/
  base : Nat := 0
  /-- The open journal block of each channel with its next page, and full ones with the last serial in them (R309, R314). -/
  jopen : FMap (Option (Nat × Nat)) := []
  jfull : List (Nat × Nat) := []
  /-- The root blocks, two on channel 0 and two on channel 1, and the root pages programmed (R311). -/
  roots : List Nat := []
  rootPages : Nat := 0
  deriving DecidableEq, Repr

/-- An Absyn reply on its way (R404, R408): the host entry and the request it answers, status and payload bytes; it goes
to the source of its request, from the address that this was sent to. DESIGN CHOICE (log entry 128). -/
structure Reply where
  host : Nat := 0
  dst : Nat := 0
  ip : Nat := 0
  udp : Nat := 0
  session : Nat := 0
  sequence : Nat := 0
  opcode : Nat := 0
  target : Nat := 0
  tag : Nat := 0
  status : Nat := 0
  payload : List Nat := []
  deriving DecidableEq, Repr

/-- The Peat store beside its registers (R302 to R321). -/
structure PeatSt where
  flash : Flash := {}
  head : Nat := 0
  log : PeatPos := {}
  plog : PeatPos := {}
  /-- `SUBMITTED`, which is also the last J. -/
  submitted : Nat := 0
  lostPf : Nat := 0
  partnerHeld : Nat := 0
  skeleton : Nat := 0
  /-- Tick at which the oldest byte of the open logical page was submitted. -/
  openFrom : Option Nat := none
  /-- Closed logical pages not yet programmed, oldest first. -/
  unprog : List Nat := []
  /-- Next channel in turn; open block of each channel with its next page, and the block being erased. -/
  turn : Nat := 0
  open' : FMap (Option (Nat × Nat)) := []
  erasing : FMap (Option Nat) := []
  /-- The open journal page, the tick of its first entry, and closed pages not yet programmed. -/
  jopen : JPage := {}
  jfrom : Nat := 0
  jwait : List JPage := []
  /-- A running checkpoint; the tick at which the last one started. -/
  cpRun : Option PCheck := none
  cpFrom : Nat := 0
  /-- Programming is stopped by a power failure (R312, R449): the page programs that had started then, and the serial up to which journal
  pages had started. -/
  stopped : Option (List Nat × Nat) := none
  /-- The page, counted from offset 0, that the drain of the own and of the partner's log cannot read (R316). -/
  bad : Option Nat := none
  pbad : Option Nat := none
  /-- The next datagram is the first after a rewind: own log, partner's log. -/
  rewound : Bool := false
  prewound : Bool := false
  /-- Tick of the last move of RELEASE, or of the last resend: own log, partner's log (R318). -/
  relFrom : Nat := 0
  prelFrom : Nat := 0
  /-- The block whose pages are being copied (R315). -/
  reloc : Option Nat := none
  /-- The first byte of the log that the commit buffer can hold: what was submitted since the reset (R321). -/
  bufFrom : Nat := 0
  /-- A PEAT_FORMAT that runs: the request it answers, and the channels whose erases have not ended (R317). -/
  formatting : Option (Reply × List Nat) := none
  /-- The fence last read at replay. -/
  readFence : Option Fence := none
  deriving DecidableEq, Repr

/-- An entry of the correction log (R337 to R339). `born` orders entries by age; above the bits that a TORN entry shows of its line, `addr` has the target. -/
structure LogEntry where
  source : Nat := 0
  kind : Nat := 0
  unit : Nat := 0
  pos : Nat := 0
  addr : Nat := 0
  syndrome : Nat := 0
  first : Nat := 0
  rep : Nat := 1
  last : Nat := 0
  closed : Bool := false
  stuck : Bool := false
  acked : Bool := false
  born : Nat := 0
  deriving DecidableEq, Repr

/-- A MEM_HEAL that runs (R341). -/
structure HealJob where
  ask : Reply := {}
  c : Nat := 0
  start : Nat := 0
  len : Nat := 0
  deriving DecidableEq, Repr

/-- Memory integrity beside its registers (R322 to R348). -/
structure MemSt where
  log : FMap (Option LogEntry) := []
  born : Nat := 0
  /-- Tick at which a bucket last leaked or rose from 0. -/
  leakFrom : FMap Nat := []
  heal : Option HealJob := none
  /-- How a stored DRAM codeword differs from the plain codeword of its data; key 2⁴⁰ × channel + codeword. -/
  dram : FMap DramFind := []
  /-- The three copies of the mark of every SRAM word, copy k in bits 2k and 2k + 1 (R325); key 2²⁴ × array + word. -/
  sram : FMap Nat := []
  /-- The codeword that the scrubber reads next (R340, R350): channel and codeword. -/
  scrubAt : Nat × Nat := (0, 0)
  /-- The core is being restarted (R334). -/
  coreDown : Bool := false
  deriving DecidableEq, Repr

end Sys2Proof.Machine
end

