-- ==== Sys2Proof/Machine/StateDcB.lean ====
section
/-! DEFINITION. What one DC64 holds beside its register words, continued: the pair, Absyn, the ledger and start-up, and the
DC64 as a whole. The default value of every field is its value at reset. -/
namespace Sys2Proof.Machine

/-- A pending notice (R422, R423): sequence, code, argument, DT tick and the frame in which it was last sent. -/
structure Notice where
  seq : Nat := 0
  code : Nat := 0
  arg : Nat := 0
  tick : Nat := 0
  sent : Nat := 0
  deriving DecidableEq, Repr

/-- A forwarded command (R412 to R414): its words, the request it answers (none for the core's own), times sent and the DT tick
at which its last block left or should have left, and reply records collected. -/
structure Fwd where
  words : List Rec := []
  ask : Option Reply := none
  sends : Nat := 0
  sentAt : Nat := 0
  /-- Words of the frame that have not left yet. -/
  leaving : Bool := false
  got : List Rec := []
  deriving DecidableEq, Repr

/-- The forwarding queue of one port (R412, R414). -/
structure FwdSt where
  queue : List Fwd := []
  out : Option Fwd := none
  /-- Count of the next command identity (R413). -/
  count : Nat := 0
  deriving DecidableEq, Repr

/-- The Absyn interface beside its registers (R399 to R424). -/
structure AbsSt where
  /-- Accepted sequences of each entry's session that lie above H − 64 (R407). -/
  seen : FMap (List Nat) := []
  kept : FMap (List Reply) := []
  /-- Frame, plus 1, in which AUTH was last answered, per entry. -/
  authFrame : FMap Nat := []
  /-- The last session of each entry (R406). -/
  prev : FMap Nat := []
  /-- Register writes carried out in a frame while paired, and those that wait for the next frame: reply, address, values (R356). -/
  writeFrame : Nat := 0
  writeCount : Nat := 0
  later : List (Reply × Nat × List Word) := []
  /-- Bucket levels; key 2 × port + bucket (R401). -/
  level : FMap Nat := []
  notices : List Notice := []
  fwd : FMap FwdSt := []
  /-- Replies that wait for the acknowledgement of the copy of a frame (R360). -/
  held : List (Nat × Reply) := []
  /-- Ethernet ports that are up, one bit each (R316). -/
  up : Nat := 0
  deriving DecidableEq, Repr

/-- Settlement of one port beside its registers (R457 to R460). -/
structure LdgPort where
  /-- Last settled frame; none before the baseline. -/
  settled : Option Nat := none
  totals : FMap Nat := []
  /-- LEDGER records held: account to (frame, total). -/
  recs : FMap (Option (Nat × Nat)) := []
  /-- HIT records received per frame not yet settled. -/
  recvd : FMap Nat := []
  /-- Frame in which the last LEDGER record arrived. -/
  lastRec : Nat := 0
  /-- The span of RUN being compared (R459): first frame, TR_HITS and LOST at its start, whether a receiver restarted. -/
  span : Option (Nat × Nat × Nat) := none
  restarted : Bool := false
  /-- The latest frame a LEDGER record of this port has described in the present span. -/
  lastFrame : Nat := 0
  /-- Latest header frame accepted per position, plus 1. -/
  header : FMap Nat := []
  /-- Frame of the FRAME mark that last brought a reset of the DF640 (R460); both lane positions carry that mark (R124). -/
  resetMark : Option Nat := none
  deriving DecidableEq, Repr

/-- The ledger beside its registers (R454 to R471): live totals, whose latched values are the registers. -/
structure LdgSt where
  /-- Totals k of R471. -/
  tot : FMap Nat := []
  /-- Accounts; key 10 × port + account. -/
  acct : FMap Nat := []
  ports : FMap LdgPort := []
  snap : Bool := false
  deriving DecidableEq, Repr

/-- What a copy of the state carries (R356). -/
structure Copy where
  frame : Nat := 0
  epoch : Nat := 0
  gen : Nat := 0
  trg : TrgSt := {}
  qlf : QlfSt := {}
  tim : DcTime := {}
  regs : RegFile := []
  ctx : CtxSt := {}
  tot : FMap Nat := []
  seen : FMap (List Nat) := []
  log : PeatPos := {}
  plog : PeatPos := {}
  bytes : Nat := 0
  blocks : Nat := 0
  /-- The marks of context words; key 8 × context + word (R326). -/
  marks : FMap Nat := []
  /-- The final copy of a handover (R368). -/
  final : Bool := false
  deriving DecidableEq, Repr

/-- The pair (R351 to R370) beside its registers. -/
structure PairSt where
  /-- Frame of the newest valid heartbeat, plus 1. -/
  heard : Nat := 0
  missRun : Nat := 0
  /-- Frame in which the unit began to listen in CLUSTER_UP. -/
  listen : Option Nat := none
  /-- A heartbeat has been heard since then. -/
  hears : Bool := false
  /-- The role is settled (R353). -/
  settledRole : Bool := false
  /-- The copy of the frame before, not yet sent, and the last copy sent (R356, R357). -/
  ready : Option Copy := none
  sent : Option Copy := none
  /-- COPY blocks of the copy being received, copies complete and not yet applied, oldest first, and the copy last applied. -/
  got : Nat := 0
  complete : List Copy := []
  applied : Option Copy := none
  /-- First frame of the unbroken run of copies that ends with the copy last applied (R359). -/
  chainFrom : Nat := 0
  /-- A copy was incomplete at its deadline (R357), and one was passed over in SYNC. -/
  late : Bool := false
  gap : Bool := false
  /-- Frame of the copy last completed or last acknowledged, plus 1. -/
  ackd : Nat := 0
  /-- CATCHUP blocks of the full image that have arrived, and the frame in which the image began. -/
  image : Nat := 0
  imageFrom : Nat := 0
  /-- Last frame whose copy was acknowledged when the hold began. -/
  holdFrom : Nat := 0
  /-- Consecutive frames with ownership confirmed, and the last of them. -/
  confirmed : Nat := 0
  confirmFrame : Nat := 0
  /-- A new active unit releases nothing until ownership is confirmed (R365). -/
  mustConfirm : Bool := false
  /-- Frame boundary at which a standby takes over. -/
  takeAt : Option Nat := none
  /-- Handover (R368): boundary h at the active unit, or the frame of the final copy at the standby. -/
  handover : Option Nat := none
  final : Bool := false
  ask : Option Reply := none
  /-- Gratuitous ARP: DT ticks at which frames are due. -/
  arp : List Nat := []
  /-- The frame whose copy takes the next decision, and the decisions placed in it (R356). -/
  decFrame : Nat := 0
  decCount : Nat := 0
  /-- The highest valid epoch read from a DF640 (R369). -/
  dfEpoch : Option Nat := none
  deriving DecidableEq, Repr

/-- Start-up of the DC64 beside its registers (R428 to R449). -/
structure DcBoot where
  key : List Nat := List.replicate 32 0
  digest : Option Nat := some 0
  /-- The image in use, and its digest as verified in IMAGE. -/
  image : List Nat := []
  imageDigest : Nat := 0
  trimOk : Bool := true
  pref : Nat := 0
  /-- The homing port of every DF640 to which the unit is wired (R23). -/
  wired : Nat := 0
  pfailHigh : Bool := true
  /-- The last frame boundary whose effects have taken place. -/
  boundary : Nat := 0
  goTo : Option Nat := none
  /-- Tick at which a soft reset follows. -/
  softAt : Option Nat := none
  /-- Ticks at the entry of the present state, and since reset release. -/
  since : Nat := 0
  droopMv : Nat := 1023
  /-- Tick since which the reading has stood at least 10 mV above the level being left, with no step since (R446). -/
  droopFrom : Nat := 0
  /-- Tick at which the wait for the partner's image began (R434). -/
  retryAt : Option Nat := none
  deriving DecidableEq, Repr

/-- What a DC64 has sent: downlink bits, bits of a pattern on a downlink, slots and markers of Causeway lanes, Ethernet packets by destination, ARP,
PTP and PPS_OUT. -/
inductive DcSent
  | down (n : Nat) (line : List Bool)
  | pattern (n : Nat) (line : List Bool)
  | cause (l : Nat) (line : List Bool)
  | causeMarker (l : Nat) (line : List Bool) (tick fine : Nat)
  | copy (frame blocks : Nat)
  | packet (src ip udp : Nat) (bytes : List Nat)
  | datagram (port src srcUdp ip udp : Nat) (bytes : List Nat)
  | arpReply (port ip : Nat)
  | arpGratuitous (port : Nat)
  | ptp (port tag : Nat) (peer : Bool) (via : PtpVia)
  | pps (high : Bool) (tick : Nat)
  deriving DecidableEq, Repr

/-- One DC64. -/
structure Dc where
  /-- The Drapo time counter (R166). -/
  now : Nat := 0
  regs : RegFile := []
  /-- Latched values; key 2²⁴ × requester + address (R477). -/
  latch : FMap Word := []
  rx : FMap Rx := []
  ports : FMap Port := []
  cw : FMap CwLane := []
  tim : DcTime := {}
  mire : Mire := {}
  slu : SluSt := {}
  ctx : CtxSt := {}
  trg : TrgSt := {}
  qlf : QlfSt := {}
  cmp : CmpSt := {}
  peat : PeatSt := {}
  mem : MemSt := {}
  pair : PairSt := {}
  abs : AbsSt := {}
  ldg : LdgSt := {}
  bt : DcBoot := {}
  out : List DcSent := []
  deriving DecidableEq, Repr

end Sys2Proof.Machine
end

