-- ==== Sys2Proof/Machine/DcBase.lean ====
section
/-! DEFINITION. The state of a DC64 as its commands read and change it: register words and fields, DT, receivers, ports and lanes, start-up states, role and
pair state, context lines. -/
namespace Sys2Proof.Machine

/-- Every register row of the DC64 (R474). -/
def dcTable : List RegDesc :=
  DC.ID.table ++ DC.BOOT.table ++ DC.ABS.table ++ DC.PAIR.table ++ DC.TIME.table ++ DC.PTP.table ++ DC.MIRE.table ++ DC.SLU.table
    ++ DC.CMP.table ++ DC.FOLD.table ++ DC.PEAT.table ++ DC.MEM.table ++ DC.LDG.table ++ DC.IBR.table ++ DC.TRG.table
    ++ DC.QLF.table ++ DC.CTX.table

/-- Default priority of a Sluice requester (R210). -/
def sluicePrio (r : Nat) : Nat := [0, 5, 4, 4, 5, 5, 6, 3, 0, 2].getD r 0

/-- The reset word of a DC64 address: its row's, with the defaults of R210, and with HW set in the first Fold contexts
and no window of the WINDOW source (R266, R294). DESIGN CHOICE (log entry 8). -/
def dcReset (a : Nat) : Word :=
  match findReg dcTable a with
  | none => 0
  | some r =>
    if DC.SLU.PRIO.addr 1 ≤ a ∧ a ≤ DC.SLU.PRIO.addr 9 then BitVec.ofNat 32 (sluicePrio ((a - DC.SLU.PRIO.addr 1) / 4 + 1))
    else if a = DC.FOLD.CFG.addr 0 ∨ a = DC.FOLD.CFG.addr 1 ∨ a = DC.FOLD.CFG.addr 2 ∨ a = DC.FOLD.CFG.addr 3 then
      withField r.reset (DC.FOLD.CFG.HW 0).lo 1 1
    else if a = DC.TRG.PRE.addr 3 ∨ a = DC.TRG.POST.addr 3 ∨ a = DC.TRG.HOLDOFF.addr 3 then 0
    else r.reset

/-- The register word at an address. -/
def Dc.word (d : Dc) (a : Nat) : Word := FMap.get (dcReset a) d.regs a

/-- Set a register word. -/
def Dc.setWord (d : Dc) (a : Nat) (w : Word) : Dc := { d with regs := FMap.put (dcReset a) d.regs a w }

/-- A field as it stands. -/
def Dc.fld (d : Dc) (f : Fd) : Nat := fieldOf (d.word f.addr) f.lo f.width

/-- Set a field. -/
def Dc.set (d : Dc) (f : Fd) (v : Nat) : Dc := d.setWord f.addr (withField (d.word f.addr) f.lo f.width v)

/-- Add to a counter field, saturating at all ones. -/
def Dc.add (d : Dc) (f : Fd) (n : Nat) : Dc := d.set f (satAdd f.width (d.fld f) n)

/-- Count one in a counter field. -/
def Dc.inc (d : Dc) (f : Fd) : Dc := d.add f 1

/-- DT moves forward to a tick, never back (R6, R166). -/
def Dc.until (d : Dc) (t : Nat) : Dc := { d with now := laterTick d.now t }

/-- The frame of DT (R6). -/
def Dc.frame (d : Dc) : Nat := d.now / frameTicks

/-- Record what leaves the chip. -/
def Dc.emit (d : Dc) (x : DcSent) : Dc := { d with out := x :: d.out }

/-- A receiver's state: uplink receiver 2n + j (R23). -/
def Dc.recv (d : Dc) (r : Nat) : Rx := FMap.get {} d.rx r

/-- Replace a receiver's state. -/
def Dc.setRecv (d : Dc) (r : Nat) (x : Rx) : Dc := { d with rx := FMap.put {} d.rx r x }

/-- A port's state. -/
def Dc.port (d : Dc) (n : Nat) : Port := FMap.get {} d.ports n

/-- Replace a port's state. -/
def Dc.setPort (d : Dc) (n : Nat) (x : Port) : Dc := { d with ports := FMap.put {} d.ports n x }

/-- A Causeway lane's state. -/
def Dc.lane (d : Dc) (l : Nat) : CwLane := FMap.get {} d.cw l

/-- Replace a Causeway lane's state. -/
def Dc.setLane (d : Dc) (l : Nat) (x : CwLane) : Dc := { d with cw := FMap.put {} d.cw l x }

/-- Codes of the start-up states (R428). -/
def dcPower : Nat := 0
def dcFuse : Nat := 1
def dcImage : Nat := 2
def dcSelftest : Nat := 3
def dcTrain : Nat := 4
def dcFill : Nat := 5
def dcCore : Nat := 6
def dcHostwait : Nat := 7
def dcClusterUp : Nat := 8
def dcRun : Nat := 9
def dcLimp : Nat := 15

/-- The start-up state (R428). -/
def Dc.state (d : Dc) : Nat := d.fld DC.BOOT.STATE.STATE

/-- Move to a start-up state, keeping the state before in `PREV`. -/
def Dc.enter (d : Dc) (st : Nat) : Dc :=
  { (d.set DC.BOOT.STATE.PREV d.state).set DC.BOOT.STATE.STATE st with bt := { d.bt with since := d.now } }

/-- Roles (R351) and pair states (R352). -/
def roleActive : Nat := 0
def roleStandby : Nat := 1
def roleIsolated : Nat := 2
def psAlone : Nat := 0
def psCatchup : Nat := 1
def psSync : Nat := 2
def psLost : Nat := 3

/-- The unit's role and pair state. -/
def Dc.role (d : Dc) : Nat := d.fld DC.PAIR.STATUS.ROLE
def Dc.pstate (d : Dc) : Nat := d.fld DC.PAIR.STATUS.PSTATE
def Dc.active (d : Dc) : Bool := d.role == roleActive
def Dc.paired (d : Dc) : Bool := d.fld DC.PAIR.CFG.PAIRED == 1

/-- The unit's own homing port, as it is wired (R23). DEDUCED (log entry 104). -/
def Dc.homing (d : Dc) : Nat := d.bt.wired % 2

/-- The pair epoch. -/
def Dc.epoch (d : Dc) : Nat := d.fld DC.PAIR.EPOCH.EPOCH

/-- A context line. -/
def Dc.ctxLine (d : Dc) (i : Nat) : CtxLine := FMap.get ctxReset d.ctx.ctxs i

/-- Replace a context line. -/
def Dc.setCtx (d : Dc) (i : Nat) (l : CtxLine) : Dc := { d with ctx := { d.ctx with ctxs := FMap.put ctxReset d.ctx.ctxs i l } }

/-- A field of a context word. -/
def ctxGet (l : CtxLine) (w lo width : Nat) : Nat := rb (l.getD w 0) lo width

/-- A context with one field replaced. -/
def ctxPut (l : CtxLine) (w lo width v : Nat) : CtxLine :=
  let o := (l.getD w 0).toNat
  l.set w (BitVec.ofNat 64 (o - bits o lo width * 2 ^ lo + v % 2 ^ width * 2 ^ lo))

end Sys2Proof.Machine
end

