-- ==== Sys2Proof/Machine/DcMarks.lean ====
section
/-! DEFINITION. The correction log as it holds events (R337, R339), the marks of SRAM words (R325), and bites (R334). -/
namespace Sys2Proof.Machine

/-- Sources and kinds of log entries (R339). -/
def logDram : Nat := 0
def logSram : Nat := 1
def logFlash : Nat := 2
def logSluice : Nat := 3
def kindCe : Nat := 1
def kindUe : Nat := 2
def kindBite : Nat := 3
def kindTorn : Nat := 4
def kindPartialUe : Nat := 5
def kindBucket : Nat := 6
def kindFlashWarn : Nat := 7
def kindFlashUe : Nat := 8
def kindProgFail : Nat := 9
def kindEraseFail : Nat := 10
def kindSelftest : Nat := 11

/-- No position in a word. -/
def noPos : Nat := 0x7F

/-- The four words of an entry (R339). -/
def LogEntry.words (e : LogEntry) : List Rec :=
  [BitVec.ofNat 64 (e.source % 16 * 2 ^ 60 + e.kind % 16 * 2 ^ 56 + e.unit % 256 * 2 ^ 48 + e.closed.toNat * 2 ^ 47 + e.stuck.toNat * 2 ^ 46
      + e.acked.toNat * 2 ^ 45 + e.pos % 128 * 2 ^ 38 + e.addr % 2 ^ 38),
   BitVec.ofNat 64 e.syndrome, BitVec.ofNat 64 e.first, BitVec.ofNat 64 (e.rep % 2 ^ 16 * 2 ^ 48 + e.last % 2 ^ 48)]

/-- An entry of the log. -/
def Dc.logAt (d : Dc) (i : Nat) : Option LogEntry := FMap.get none d.mem.log i

/-- Replace an entry of the log. -/
def Dc.setLog (d : Dc) (i : Nat) (e : LogEntry) : Dc := { d with mem := { d.mem with log := FMap.put none d.mem.log i (some e) } }

/-- Whether an event merges into an entry (R337). -/
def LogEntry.merges (e x : LogEntry) : Bool :=
  !e.closed && e.source == x.source && e.kind == x.kind && e.unit == x.unit && e.addr == x.addr
    && (e.syndrome == x.syndrome || !(x.kind == kindCe || x.kind == kindUe))

/-- The first index from `i` on without an entry. -/
def freeIndex (m : FMap (Option LogEntry)) : Nat → Nat → Option Nat
  | 0, _ => none
  | fuel + 1, i => if (FMap.get none m i).isNone then some i else freeIndex m fuel (i + 1)

/-- The oldest acknowledged entry (R339). -/
def oldestAcked (m : FMap (Option LogEntry)) : Option Nat :=
  (m.foldl (fun (b : Option (Nat × Nat)) x =>
    match x.2 with
    | some e => if e.acked then (match b with | some (_, o) => if e.born < o then some (x.1, e.born) else b | none => some (x.1, e.born)) else b
    | none => b) none).map (·.1)

/-- Log an event (R337, R339): merged into an open entry, or in a new one, and the index of the entry. A free place is used before an acknowledged entry gives
up its own (log entry 60). -/
def Dc.logEvent (d : Dc) (source kind unit pos addr syndrome : Nat) : Dc × Option Nat :=
  let x : LogEntry := { source := source, kind := kind, unit := unit, pos := pos, addr := addr, syndrome := syndrome,
                        first := d.now, last := d.now, born := d.mem.born }
  match d.mem.log.find? (fun y => match y.2 with | some e => e.merges x | none => false) with
  | some (i, some e) => (d.setLog i { e with rep := min 0xFFFF (e.rep + 1), last := d.now }, some i)
  | _ =>
    match (freeIndex d.mem.log 1024 0).or (oldestAcked d.mem.log) with
    | none => ((d.inc DC.MEM.LOG_LOST.COUNT).set DC.MEM.STATUS.LOG_FULL 1, none)
    | some i =>
      let d := d.setLog i x
      ({ d with mem := { d.mem with born := d.mem.born + 1 } }.set DC.MEM.LOG_COUNT.ENTRIES d.mem.log.length, some i)

/-- Entries that answer a question close (R337). -/
def Dc.logCloseIf (d : Dc) (p : LogEntry → Bool) : Dc :=
  { d with mem := { d.mem with log := d.mem.log.map fun y => (y.1, y.2.map fun e => if p e then { e with closed := true } else e) } }

/-- Every entry of an address of a memory closes when it is written whole or healed (R336, R337). -/
def Dc.logClose (d : Dc) (source unit addr : Nat) : Dc :=
  d.logCloseIf fun e => e.source == source && e.unit == unit && e.addr == addr && decide (e.kind ≤ kindBucket)

/-- The address of a TORN entry: the line, and above the bits that the entry shows the target (R339). -/
def tornAddr (target line : Nat) : Nat := 2 ^ 38 * target + line

/-- The TORN entries of a line close when it is written whole (R337). -/
def Dc.tornClose (d : Dc) (target line : Nat) : Dc := d.logCloseIf fun e => e.source == logSluice && e.addr == tornAddr target line

/-- A consumed poisoned word is counted and logged (R334). -/
def Dc.bite (d : Dc) (source unit addr : Nat) : Dc := ((d.inc DC.MEM.BITES.COUNT).logEvent source kindBite unit noPos addr 0).1

/-- SRAM arrays (R330). -/
def arrContext : Nat := 0
def arrStaging : Nat := 1
def arrMask : Nat := 2
def arrTrigger : Nat := 3
def arrCore : Nat := 4
def arrCoder : Nat := 5
def arrPeat : Nat := 6
def arrEthernet : Nat := 7
def arrCauseway : Nat := 8
def arrBank : Nat := 9

/-- Marks of a word (R325): clean, POISON, TORN. -/
def markClean : Nat := 0
def markPoison : Nat := 1
def markTorn : Nat := 2

/-- The majority of three copies of two bits each (R322, R325). -/
def votedMark (m : Nat) : Nat := (m % 4 &&& m / 4 % 4) ||| (m % 4 &&& m / 16 % 4) ||| (m / 4 % 4 &&& m / 16 % 4)

/-- The mark of an SRAM word: the majority of its copies, where 3 counts as POISON (R325). -/
def Dc.sramMark (d : Dc) (a w : Nat) : Nat :=
  let m := votedMark (FMap.get 0 d.mem.sram (2 ^ 24 * a + w))
  if m = 3 then markPoison else m

/-- The three stored copies of the mark of an SRAM word. -/
def Dc.setCopies (d : Dc) (a w copies : Nat) : Dc := { d with mem := { d.mem with sram := FMap.put 0 d.mem.sram (2 ^ 24 * a + w) copies } }

/-- Set the mark of an SRAM word in all three copies; a word written whole has none (R325, R336). -/
def Dc.setSram (d : Dc) (a w m : Nat) : Dc := d.setCopies a w (21 * m)

/-- The first marked word of an array in [lo, hi). -/
def Dc.marked (d : Dc) (a lo hi : Nat) : Option Nat :=
  (d.mem.sram.find? fun x => decide (2 ^ 24 * a + lo ≤ x.1 ∧ x.1 < 2 ^ 24 * a + hi) && votedMark x.2 != 0).map fun x => x.1 - 2 ^ 24 * a

/-- Words of an array that are written whole lose their marks, and their entries close (R336, R337). -/
def Dc.sramClean (d : Dc) (a lo hi : Nat) : Dc :=
  let ws := (d.mem.sram.filter fun x => decide (2 ^ 24 * a + lo ≤ x.1 ∧ x.1 < 2 ^ 24 * a + hi)).map fun x => x.1 - 2 ^ 24 * a
  ws.foldl (fun (d : Dc) (w : Nat) => (d.setSram a w 0).logClose logSram a w) d

/-- The first poisoned word of a context line (R335). -/
def Dc.ctxMarked (d : Dc) (i : Nat) : Option Nat := d.marked arrContext (8 * i) (8 * i + 8)

/-- A context read for use: whether it is treated as POISONED, and the bite of a poisoned word (R334, R335). -/
def Dc.ctxUse (d : Dc) (i : Nat) : Dc × Bool :=
  match d.ctxMarked i with
  | some w => ((d.setCtx i (ctxPut (d.ctxLine i) 0 28 1 1)).bite logSram arrContext w, true)
  | none => (d, ctxGet (d.ctxLine i) 0 28 1 == 1)

/-- The first poisoned word of the receive buffers, and of the transmit buffers (R330): the halves of the array. DESIGN CHOICE (log entry 127). -/
def ethernetHalf : Nat := 2 ^ 20
def Dc.receivePoison (d : Dc) : Option Nat := d.marked arrEthernet 0 ethernetHalf
def Dc.transmitPoison (d : Dc) : Option Nat := d.marked arrEthernet ethernetHalf (2 ^ 24)

/-- A poisoned word of an Ethernet buffer is consumed, and its buffer is used anew (R334). -/
def Dc.bufferBite (d : Dc) (w : Nat) : Dc := (d.bite logSram arrEthernet w).sramClean arrEthernet w (w + 1)

/-- A frame arrives: one in a poisoned receive buffer is dropped (R334). -/
def Dc.frameIn (d : Dc) (run : Dc → Dc) : Dc :=
  match d.receivePoison with
  | some w => d.bufferBite w
  | none => run d

/-- A packet or frame leaves: one in a poisoned transmit buffer is not sent (R334). -/
def Dc.frameOut (d : Dc) (x : DcSent) : Dc :=
  match d.transmitPoison with
  | some w => d.bufferBite w
  | none => d.emit x

end Sys2Proof.Machine
end

