-- ==== Sys2Proof/Machine/DcOps.lean ====
section
/-! DEFINITION. The operations that the meanings of the DC64's commands share: notices (R422 to R424), changes of role, the ledger's counts, the rate limit and
command frames. -/
namespace Sys2Proof.Machine

/-- Classes that hold a pending notice (R424). -/
def Dc.noticeClasses (d : Dc) : Nat :=
  (List.range 8).foldl (fun (m : Nat) (c : Nat) => if d.abs.notices.any (fun n => bits n.code 8 4 == c) then m + 2 ^ c else m) 0

/-- IRQ_N is driven low (R424): in LIMP, or while a pending notice belongs to an enabled class. From reset until the core is
released it is not driven. -/
def Dc.irq (d : Dc) : Bool :=
  d.state == dcLimp || (decide (dcCore ≤ d.state) && (d.noticeClasses &&& d.fld DC.ABS.NOTICE_CFG.IRQ_MASK) != 0)

/-- The bytes of a notice's payload (R422). -/
def noticePayload (x : Notice) : List Nat := bytesBE 2 x.code ++ [0, 0] ++ bytesBE 4 x.arg ++ bytesBE 8 x.tick

/-- An Absyn packet: header and payload as R402 lays them out, and the tag of R403. -/
def Dc.packet (d : Dc) (flags session sequence opcode target status : Nat) (payload : List Nat) : List Nat :=
  let m := bytesBE 2 0xA5B1 ++ [1, flags] ++ bytesBE 4 session ++ bytesBE 4 sequence ++ bytesBE 2 opcode ++ bytesBE 2 payload.length
    ++ [target, 0] ++ bytesBE 2 d.epoch ++ [status, 0, 0, 0] ++ payload
  m ++ absynTag d.bt.key m

/-- The address that notices come from: the service address while ACTIVE, otherwise the unit address (R422). -/
def Dc.source (d : Dc) : Nat := if d.active then d.fld DC.ABS.SVC_IP.ADDR else d.fld DC.ABS.UNIT_IP.ADDR

/-- Send a notice to every enabled entry with NOTIFY; an ISOLATED unit sends none (R363, R422). -/
def Dc.sendNotice (d : Dc) (x : Notice) : Dc :=
  if d.role = roleIsolated then d
  else
    (List.range 8).foldl (fun (d : Dc) (h : Nat) =>
      if d.fld (DC.ABS.HOST_CFG.EN h) = 1 ∧ d.fld (DC.ABS.HOST_CFG.NOTIFY h) = 1 then
        d.frameOut (.packet d.source (d.fld (DC.ABS.HOST_IP.ADDR h)) (d.fld (DC.ABS.HOST_CFG.UDP h))
          (d.packet 2 (d.fld (DC.ABS.SESSION.SESSION h)) x.seq 0x0400 255 0 (noticePayload x)))
      else d) d

/-- Raise a notice (R422, R423): with 64 pending it is lost. -/
def Dc.notify (d : Dc) (code arg : Nat) : Dc :=
  if 64 ≤ d.abs.notices.length then (d.inc DC.ABS.NOTICE_LOST.COUNT).set DC.ABS.STATUS.NQ_OVF 1
  else
    let q := (d.fld DC.ABS.NOTICE_SEQ.SEQ + 1) % 2 ^ 32
    let x : Notice := { seq := q, code := code, arg := arg % 2 ^ 32, tick := d.now, sent := d.frame }
    let d := d.set DC.ABS.NOTICE_SEQ.SEQ q
    { d with abs := { d.abs with notices := d.abs.notices ++ [x] } }.sendNotice x

/-- A change of role, with its notice and `ISSUE` (R351, R422). -/
def Dc.takeRole (d : Dc) (role epoch : Nat) : Dc :=
  let old := d.role
  let d := ((d.set DC.PAIR.STATUS.ROLE role).set DC.TRG.CTRL.ISSUE (if role = roleActive then 1 else 0)).set DC.PAIR.EPOCH.EPOCH epoch
  if old = role then d else d.notify 0x0303 (role % 4 + epoch % 65536 * 65536)

/-- Move to a pair state; the run of frames in SYNC restarts (R352). -/
def Dc.takePstate (d : Dc) (ps : Nat) : Dc :=
  if d.pstate = ps then d else (d.set DC.PAIR.STATUS.PSTATE ps).set DC.PAIR.STATUS.SYNC_FRAMES 0

/-- Whether the unit extracts captures and hands them on (R351, R368): the ACTIVE one, until a handover's boundary h. -/
def Dc.extracts (d : Dc) : Bool := d.active && !d.pair.final

/-- A live total of the ledger (R471). -/
def Dc.tot (d : Dc) (k : Nat) : Nat := FMap.get 0 d.ldg.tot k

/-- Width of a total: 48 bits for k = 0 to 5 and 9 to 12, otherwise 64 (R471). -/
def totWidth (k : Nat) : Nat := if k ≤ 5 ∨ (9 ≤ k ∧ k ≤ 12) then 48 else 64

/-- Set a total. -/
def Dc.setTot (d : Dc) (k v : Nat) : Dc := { d with ldg := { d.ldg with tot := FMap.put 0 d.ldg.tot k (v % 2 ^ totWidth k) } }

/-- Add to a total. -/
def Dc.addTot (d : Dc) (k v : Nat) : Dc := d.setTot k (d.tot k + v)

/-- Lower a gauge. -/
def Dc.subTot (d : Dc) (k v : Nat) : Dc := d.setTot k (d.tot k - v)

/-- Totals k of R471. -/
def totIssued : Nat := 0
def totRelCap : Nat := 1
def totRelTomb : Nat := 2
def totPending : Nat := 3
def totUnnumbered : Nat := 4
def totFragments : Nat := 5
def totBlkAccepted : Nat := 6
def totBlkWritten : Nat := 7
def totBlkOverrun : Nat := 8
def totSubmitted : Nat := 9
def totCommitted : Nat := 10
def totLostPf : Nat := 11
def totPeatPend : Nat := 12

/-- A per-port account (R471), and adding to it. -/
def Dc.acct (d : Dc) (n a : Nat) : Nat := FMap.get 0 d.ldg.acct (10 * n + a)
def Dc.addAcct (d : Dc) (n a v : Nat) : Dc :=
  { d with ldg := { d.ldg with acct := FMap.put 0 d.ldg.acct (10 * n + a) ((d.acct n a + v) % 2 ^ 64) } }

/-- Per-port settlement state. -/
def Dc.lport (d : Dc) (n : Nat) : LdgPort := FMap.get {} d.ldg.ports n
def Dc.setLport (d : Dc) (n : Nat) (x : LdgPort) : Dc := { d with ldg := { d.ldg with ports := FMap.put {} d.ldg.ports n x } }

/-- Count a ledger fault of a port (R152, R458, R459). -/
def Dc.ledgerFault (d : Dc) (n : Nat) : Dc :=
  (((d.inc DC.LDG.FAULTS.COUNT).inc (DC.LDG.PFAULTS.COUNT n)).set (DC.LDG.PSTAT.FAULT n) 1).set DC.LDG.STATUS.FAULT_ANY 1

/-- Whether nothing that waits for the copy of frame `f` may leave yet (R360, R361, R365). -/
def Dc.withheld (d : Dc) (f : Nat) : Bool :=
  d.active && (d.pair.mustConfirm ||
    (d.paired && ((d.pstate == psSync && decide (d.pair.ackd < f + 1)) ||
      (d.fld DC.PAIR.STATUS.HOLD == 1 && decide (d.pair.holdFrom < f + 1)))))

/-- One frame passes a bucket of R401 (0 for Absyn, 1 for ARP and PTP), or is dropped under reason 7. -/
def Dc.bucket (d : Dc) (port b : Nat) : Dc × Bool :=
  let l := FMap.get 0 d.abs.level (2 * port + b)
  let burst := if b = 0 then d.fld (DC.ABS.RL_A.BURST port) else d.fld (DC.ABS.RL_B.BURST port)
  if burst ≤ l then (d.inc (DC.ABS.STRANGER.COUNT 7), false)
  else ({ d with abs := { d.abs with level := FMap.put 0 d.abs.level (2 * port + b) (l + 1) } }, true)

/-- The next command identity of a port: the sender's PREF and a count modulo 2,048 (R413). -/
def Dc.identity (d : Dc) (n : Nat) : Nat := d.fld DC.PAIR.CFG.PREF * 2048 + (FMap.get {} d.abs.fwd n).count % 2048

/-- Queue a command frame for port `n` (R412, R413). -/
def Dc.queueFrame (d : Dc) (n opcode owner : Nat) (params : List Rec) (ask : Option Reply) : Dc :=
  let q := FMap.get {} d.abs.fwd n
  let h : Nat := opcode % 256 * 2 ^ 56 + params.length % 256 * 2 ^ 48 + d.epoch % 65536 * 2 ^ 32 + d.identity n % 4096 * 2 ^ 20 + owner % 16 * 2 ^ 16
  let f : Fwd := { words := BitVec.ofNat 64 h :: params, ask := ask }
  { d with abs := { d.abs with fwd := FMap.put {} d.abs.fwd n { q with queue := q.queue ++ [f], count := (q.count + 1) % 2048 } } }

/-- The core queues a WRITE of one DF640 register (R412, R417). -/
def Dc.coreWrite (d : Dc) (n a : Nat) (v : Word) : Dc :=
  d.queueFrame n 0x02 15 [BitVec.ofNat 64 (a % 65536 * 2 ^ 32 + v.toNat)] none

/-- A signed field of 32 bits. -/
def s32 (v : Nat) : Int := signed 32 v

end Sys2Proof.Machine
end

