-- ==== Sys2Proof/Machine/Channel.lean ====
section
/-! DEFINITION. The analogue channels and Reed lines of the DF640 (R34 to R100): what each event of a channel does to the
chip. The commands that name them are in DfCommands.lean. -/
namespace Sys2Proof.Machine

/-- Ones among the `k` low bits of a number. -/
def popCount : Nat → Nat → Nat
  | 0, _ => 0
  | k + 1, v => (v.testBit k).toNat + popCount k v

/-- The raw reading: the taps passed in phase A plus those passed in phase B (R67). -/
def reading (t : Taps) : Nat := popCount 512 t.a.toNat + popCount 512 t.b.toNat

/-- A threshold in 0.25 µA: 1 µA for each DAC step and 0.25 µA for each step of the signed trim, never below 0.5 µA (R43). -/
def threshold (dac trim : Nat) : Int := max 2 (4 * (dac : Int) + signed 6 trim)

/-- The output of a discriminator with threshold `thr` and a hysteresis of 0.5 µA, from its output before and the input level (R43, R45). -/
def discriminator (thr : Int) (was : Bool) (level : Int) : Bool := if was then decide (thr - 2 ≤ level) else decide (thr < level)

/-- The timing and validation thresholds in force of a channel, in 0.25 µA (R43). -/
def Df.thresholdT (d : Df) (ch : Nat) : Int := threshold (d.inForce DF.AFE.GLOBAL.T_DAC) (d.inForce (DF.AFE.CH.T_TRIM ch))
def Df.thresholdV (d : Df) (ch : Nat) : Int := threshold (d.inForce DF.AFE.GLOBAL.V_DAC) (d.inForce (DF.AFE.CH.V_TRIM ch))

/-- The discharge current of the ramp in nA (R50). -/
def dischargeNa (disch : Nat) : Nat := 2500 * (disch + 1)

/-- The charge of one ToT unit, I_dis × 48.828125 ps, in 10⁻¹⁰ fC (R51). -/
def quantum (disch : Nat) : Nat := dischargeNa disch * 48828125 / 100

/-- The integrator's full scale in fC (R53). -/
def fullScale : Nat := 170000

/-- The ToT of a charge in fC under a gate of `gate` ticks and an offset in ToT units, to the nearest unit (R51, R53). -/
def rampTot (gate offset charge disch : Nat) : Nat :=
  64 * gate + offset + (2 * min charge fullScale * 10 ^ 10 + quantum disch) / (2 * quantum disch)

/-- The Reed conversion of R70: the time in fine, and whether the reading was in range. DEDUCED (log entry 18). -/
def reedTime (rA rB m r : Nat) : Nat × Bool :=
  if (r : Int) < (rA : Int) - 64 ∨ rB + 64 < r then (1024 * (m - 2), false)
  else
    let delta : Int := (rB : Int) - rA
    ((1024 * ((m : Int) - 2) + (2048 * ((rB : Int) - r) + delta) / (2 * delta)).toNat, true)

/-- ToT units between two times in fine, rounded to the nearest unit, an exact half up (R74). -/
def totOf (lead trail : Nat) : Nat := (trail - lead + 8) / 16

/-- The constants of a channel: fixed on an anchor (R90), those of the last valid calibration otherwise (R70). -/
def Df.consts (d : Df) (ch : Nat) : Nat × Nat :=
  if isAnchor ch then (0, 1024) else (d.fld (DF.REED.CH.RA ch), d.fld (DF.REED.CH.RB ch))

/-- Whether an anchor channel takes its edges from a REFIN pin (R94). -/
def Df.refin (d : Df) (ch : Nat) : Bool := isAnchor ch && d.inForce (DF.REED.ANCHOR.SRC (ch - 632)) == 1

/-- Whether an edge is a leading (`lead`) or trailing edge of the channel's source in force: of its own stage with SRC = 0, else of the REFIN
pin that PIN names, where INV exchanges rising and falling (R94, R95). -/
def Df.takesEdge (d : Df) (ch : Nat) (lead : Bool) : EdgeSource → Bool
  | .stage => !d.refin ch
  | .pin p high =>
    d.refin ch && d.inForce (DF.REED.ANCHOR.PIN (ch - 632)) == p.val && ((high != (d.inForce (DF.REED.ANCHOR.INV (ch - 632)) == 1)) == lead)

/-- The hit in progress of a channel: its last candidate, without a ToT (R78). -/
def Chan.running (c : Chan) : Option Cand :=
  match c.cands.getLast? with
  | some h => if h.tot.isNone then some h else none
  | none => none

/-- Replace the last candidate. -/
def Chan.setLast (c : Chan) (h : Cand) : Chan := { c with cands := c.cands.dropLast ++ [h] }

/-- Saturating count of a failed reading or calibration (R72, R81). -/
def Df.calFail (d : Df) (ch : Nat) : Df := if isAnchor ch then d else d.inc (DF.REED.CH.CALFAIL ch)

/-- Count a detected hit when it is first known to carry COARSE_ONLY (R96). -/
def Df.countCoarse (d : Df) (ch : Nat) (h : Cand) : Df × Cand :=
  if h.valid = some true ∧ h.coarse ∧ !h.counted then (d.inc (DF.REED.COARSE.COUNT ch), { h with counted := true }) else (d, h)

/-- A candidate becomes a detected hit: the ledger counts it in the frame of its leading edge (R46, R128). -/
def Df.detect (d : Df) (ch : Nat) (h : Cand) : Df × Cand :=
  let h := { h with valid := some true }
  (d.account (h.lead / 1024 / frameTicks) accDetected).countCoarse ch h

/-- A leading edge latched at tick `m` (R45, R46, R68 to R72, R86 to R95): an edge of the source in force, and of T's output where
that source is the channel's own stage. DEDUCED (log entry 19). -/
def Df.leadingEdge (d : Df) (ch : Nat) (src : EdgeSource) (m : Nat) (taps : Taps) (level : Int) : Df :=
  let d := d.until m
  let c := d.chan ch
  let pin := d.refin ch
  if !d.takesEdge ch true src || (!pin && !discriminator (d.thresholdT ch) false level) then d
  else if d.mode ch = modeOff ∨ c.blankEnd.isSome ∨ c.srcBlank.isSome ∨ !c.armed then d
  else if !c.ready then d.inc DF.REED.UNARMED.COUNT
  else
    match c.running with
    | some h => (d.setChan ch (c.setLast { h with pileup := true })).inc (DF.REED.PILEUP.COUNT ch)
    | none =>
      let k := d.consts ch
      let busy := !c.wins.isEmpty || c.rearmAt.isSome || (isAnchor ch && d.fld (DF.REED.ANCHOR.LOCKED (ch - 632)) == 0)
      let t := reedTime k.1 k.2 m (reading taps)
      let lead := if busy then 1024 * (m - 2) else t.1
      let tick := lead / 1024
      let direct := d.inForce DF.AFE.CONFIG.VALMODE = 0 ∨ pin
      let gate := tick + d.inForce DF.AFE.CONFIG.GATE + 1
      let h : Cand := {
        lead := lead, rA := k.1, rB := k.2, coarse := busy || !t.2,
        inj := (match c.injAt with | some a => decide (a ≤ tick ∧ tick < a + 8) | none => false),
        aged := !isAnchor ch && decide (d.inForce DF.REED.AGE.LIMIT * 1024 < lead - c.lastCal),
        anchor := isAnchor ch, clamp := c.clampOn, masked := decide (d.mode ch = modeMasked),
        valEnd := tick + d.inForce DF.AFE.CONFIG.VALWIN + 1, gate := if pin then 0 else gate }
      let d := if busy || t.2 then d else d.calFail ch
      let x := if direct ∨ discriminator (d.thresholdV ch) false level then d.detect ch h else (d, h)
      x.1.setChan ch { c with cands := c.cands ++ [x.2], gateEnd := if pin then none else some gate }

/-- Candidates that a V crossing at tick `m` validates (R46). -/
def Df.validate (d : Df) (ch m : Nat) : List Cand → Df × List Cand
  | [] => (d, [])
  | h :: t =>
    let x := if h.valid.isNone ∧ h.lead / 1024 ≤ m ∧ m ≤ h.valEnd then d.detect ch h else (d, h)
    let y := Df.validate x.1 ch m t
    (y.1, x.2 :: y.2)

/-- Whether a V crossing at tick `m` counts for tussocks (R36, R63, R116). -/
def Df.crossingCounts (d : Df) (ch m : Nat) : Bool :=
  let c := d.chan ch
  decide (d.mode ch = modeLive) && c.armed && c.ready && c.blankEnd.isNone && c.srcBlank.isNone && !d.refin ch &&
    (match c.injAt with | some a => !decide (a ≤ m ∧ m < a + 8) | none => true)

/-- V, low before, is sampled at tick `m`: it is high when the input exceeds the validation threshold (R43, R46, R116). -/
def Df.vCrossing (d : Df) (ch m : Nat) (level : Int) : Df :=
  let d := d.until m
  let c := d.chan ch
  if !discriminator (d.thresholdV ch) false level ∨ d.mode ch = modeOff ∨ c.blankEnd.isSome then d
  else
    let x := d.validate ch m c.cands
    let d := x.1.setChan ch { c with cands := x.2 }
    if d.crossingCounts ch m then { d with tus := { d.tus with crossings := (m / 4, ch) :: d.tus.crossings } } else d

/-- The first candidate whose validation is not decided fails; it stays until its trailing edge (R46). -/
def failFirst : List Cand → Option (Nat × List Cand)
  | [] => none
  | h :: t =>
    if h.valid.isNone then some (h.valEnd, if h.tot.isSome then t else { h with valid := some false } :: t)
    else (failFirst t).map fun x => (x.1, h :: x.2)

/-- The oldest undecided validation window ends (R46). -/
def Df.windowEnd (d : Df) (ch : Nat) : Df :=
  let c := d.chan ch
  match failFirst c.cands with
  | none => d
  | some (t, l) => ((d.until t).setChan ch { c with cands := l }).inc (DF.AFE.TONLY.COUNT ch)

/-- The hit in progress with the charge its gate has collected: the integrator clips at full scale (R51, R53). -/
def Cand.collect (h : Cand) (charge disch : Nat) : Cand :=
  { h with charge := some (min charge fullScale), sat := h.sat || decide (fullScale ≤ charge), ramp := rampTot (h.gate - h.lead / 1024) 0 charge disch }

/-- The gate of the hit in progress closes and the discharge begins (R50, R51). DESIGN CHOICE (log entry 6). -/
def Df.gateClose (d : Df) (ch charge : Nat) : Df :=
  let c := d.chan ch
  match c.gateEnd with
  | none => d
  | some t =>
    let d := d.until t
    let c := match c.running with | some h => c.setLast (h.collect charge (d.inForce DF.AFE.CONFIG.DISCH)) | none => c
    d.setChan ch { c with gateEnd := none }

/-- What follows a trailing edge at `trailF` fine: the post-hit calibration of an ordinary armed channel, or the re-arm of an
anchor (R76, R93). A refresh timer that runs gives way to it (R78). -/
def Chan.afterTrail (c : Chan) (ch trailF : Nat) : Chan :=
  let c := { c with gateEnd := none }
  if isAnchor ch then { c with rearmAt := some (trailF / 1024 + 2) }
  else if c.armed then { c with wins := c.wins ++ [⟨trailF + 5120, true⟩], refreshAt := none, refreshHeld := false } else c

/-- Put the finished candidate back: one that failed validation leaves no record (R46). -/
def Chan.finish (c : Chan) (h : Cand) : Chan :=
  if h.valid = some false then { c with cands := c.cands.dropLast } else c.setLast h

/-- The trailing edge, latched at tick `m` (R50, R53, R74, R75, R94, R95): of the hit's source, outside the blanking of a source change, and
on a channel's own stage not before its gate closes. A ToT of exactly 0xFFFF carries no TOT_SAT. DESIGN CHOICE (log entry 92). -/
def Df.trailingEdge (d : Df) (ch : Nat) (src : EdgeSource) (m : Nat) (taps : Taps) : Df :=
  let d := d.until m
  let c := d.chan ch
  match c.running with
  | none => d
  | some h =>
    let coarse := !c.wins.isEmpty || (isAnchor ch && d.fld (DF.REED.ANCHOR.LOCKED (ch - 632)) == 0)
    let t := reedTime h.rA h.rB m (reading taps)
    let trail := if coarse then 1024 * (m - 2) else t.1
    if !d.takesEdge ch false src ∨ c.srcBlank.isSome ∨ trail / 1024 < h.gate then d
    else
      let short := d.refin ch && decide (trail < h.lead + 3 * 1024)
      let tot := if short then 0 else totOf h.lead trail
      let done := match h.valid with | none => max (m + 3) h.valEnd | some _ => m + 3
      let h := { h with tot := some (min tot 0xFFFF), sat := h.sat || decide (0xFFFF < tot), coarse := h.coarse || coarse || !t.2, doneAt := done }
      let d := if coarse || t.2 then d else d.calFail ch
      let x := d.countCoarse ch h
      x.1.setChan ch ((c.finish x.2).afterTrail ch trail)

/-- 1,088 ticks after the leading edge the integrator is reset and the record carries 0xFFFF with TOT_SAT (R53). DEDUCED (log
entry 22): the reset stands for the trailing edge, and the post-hit calibration follows it. -/
def Df.totTimeout (d : Df) (ch : Nat) : Df :=
  let c := d.chan ch
  match c.running with
  | none => d
  | some h =>
    let t := h.lead / 1024 + 1088
    let done := match h.valid with | none => max (t + 3) h.valEnd | some _ => t + 3
    let h := { h with tot := some 0xFFFF, sat := true, doneAt := done }
    (d.until t).setChan ch ((c.finish h).afterTrail ch (1024 * t))

/-- The input clamp starts or stops conducting (R40 to R42). -/
def Df.clamp (d : Df) (ch : Nat) (on : Bool) : Df :=
  let c := { d.chan ch with clampOn := on }
  let live := decide (d.mode ch ≠ modeOff)
  let c := match c.running with | some h => if on then c.setLast { h with clamp := true } else c | none => c
  let d := d.setChan ch c
  if on && live then d.set (DF.AFE.CH.CLAMP ch) 1 else d

/-- The baseline compensator reaches or leaves its limit, where it runs (R38): in every mode, OFF too. DESIGN CHOICE (log entry 93). -/
def Df.blcLimit (d : Df) (ch : Nat) (on : Bool) : Df :=
  if d.inForce DF.AFE.CONFIG.BLC_EN = 0 then d
  else
    let d := d.setChan ch { d.chan ch with blcOn := on }
    if on then d.set (DF.AFE.CH.BLC_LIM ch) 1 else d

/-- With BLC_EN = 0 in force no compensator stands at its limit (R38). -/
def Df.blcOff (d : Df) : Df :=
  if d.inForce DF.AFE.CONFIG.BLC_EN = 1 then d
  else (d.chans.map (·.1)).foldl (fun (d : Df) (ch : Nat) => if (d.chan ch).blcOn then d.setChan ch { d.chan ch with blcOn := false } else d) d

/-- The bias loop of the lines reaches an end of its range, or leaves it (R69). -/
def Df.loopAct (d : Df) (atEnd : Bool) : Df :=
  { (if atEnd && !d.loopEnd then d.set DF.REED.LOOP.LIMIT 1 else d) with loopEnd := atEnd }

/-- An ordinary channel arms and begins its first calibration; an anchor channel waits for its DLL only (R84, R91, R440). -/
def Df.arm (d : Df) (ch : Nat) : Df :=
  let c := d.chan ch
  if isAnchor ch then d.setChan ch { c with armed := true }
  else
    let d := ((d.set (DF.REED.CH.NOTCAL ch) 1).set (DF.REED.CH.CALDEAD ch) 0).set (DF.REED.CH.CALFAIL ch) 0
    d.setChan ch { c with armed := true, ready := false, badRun := 0, retryAt := none, refreshAt := none, refreshHeld := false, spread := true, wins := [{ endF := 1024 * (d.now + 5) }] }

/-- A channel disarms: its line stops (R84, R440). -/
def Df.disarm (d : Df) (ch : Nat) : Df :=
  let c := d.chan ch
  d.setChan ch { c with armed := false, ready := if isAnchor ch then c.ready else false, wins := [], refreshAt := none, refreshHeld := false, retryAt := none }

/-- The channel's blanking ends: it arms in RUN, or calibrates if it is armed (R49, R84, R85, R440). -/
def Df.blankingEnd (d : Df) (ch : Nat) : Df :=
  let c := d.chan ch
  match c.blankEnd with
  | none => d
  | some t =>
    let d := (d.until t).setChan ch { c with blankEnd := none }
    if !c.armed then (if d.state = dfRun ∧ d.mode ch ≠ modeOff ∧ d.tim.rootLocked then d.arm ch else d)
    else if isAnchor ch then d
    else d.setChan ch { d.chan ch with wins := c.wins ++ [⟨1024 * (d.now + 5), true⟩], refreshAt := none }

/-- The 8 ticks after an anchor source change end (R94). -/
def Df.sourceBlankEnd (d : Df) (k : Nat) : Df :=
  let c := d.chan (632 + k)
  match c.srcBlank with
  | none => d
  | some t => (d.until t).setChan (632 + k) { c with srcBlank := none }

/-- Whether a pair of readings is a valid calibration (R81). -/
def calValid (rA rB : Nat) : Bool :=
  decide (4 ≤ rA ∧ rA ≤ 120 ∧ 900 ≤ rB ∧ rB ≤ 1020 ∧ 880 ≤ rB - rA ∧ rB - rA ≤ 1008 ∧ rA ≤ rB)

/-- Mean, rounded down, of the results kept (R69). -/
def meanDelta (l : List Nat) : Nat := if l.length = 0 then 0 else total l / l.length

/-- The first TICK edge at or after an instant in fine. -/
def ceilTick (f : Nat) : Nat := (f + 1023) / 1024

/-- The oldest running calibration window of an ordinary channel ends with its two references (R67, R77, R79, R81, R85, R97). -/
def Df.calEnd (d : Df) (ch : Nat) (one two : Taps) : Df :=
  let rA := reading one
  let rB := reading two
  let c := d.chan ch
  match c.wins with
  | [] => d
  | w :: ws =>
    let d := (d.until (ceilTick w.endF)).inc (DF.REED.NCAL.COUNT ch)
    let c := { c with wins := ws }
    let iv := d.inForce DF.REED.REFRESH.INTERVAL
    let start := ceilTick w.endF
    if calValid rA rB then
      let l := ((rB - rA) :: d.deltas).take 1024
      let d := { d with deltas := l }.set DF.REED.LOOP.DELTA_MEAN (meanDelta l)
      let d := ((d.set (DF.REED.CH.RA ch) rA).set (DF.REED.CH.RB ch) rB).set (DF.REED.CH.NOTCAL ch) 0
      let wait := if c.spread then iv - (4 * ch) % iv else iv
      d.setChan ch { c with ready := true, badRun := 0, lastCal := w.endF, spread := false, refreshAt := if iv = 0 then none else some (start + wait) }
    else
      let d := d.inc (DF.REED.CH.CALFAIL ch)
      if c.ready then d.setChan ch { c with refreshAt := if iv = 0 then none else some (start + iv) }
      else if 16 ≤ c.badRun + 1 then (d.set (DF.REED.CH.CALDEAD ch) 1).setChan ch { c with badRun := c.badRun + 1, retryAt := none }
      else d.setChan ch { c with badRun := c.badRun + 1, retryAt := some (start - 5 + 64) }

/-- The launch tick of a slot in its next firing frame (R57). -/
def Df.launchTick (d : Df) (s : Nat) : Nat :=
  (FMap.get {} d.slots s).next * frameTicks + d.fld (DF.AFE.INJ_A.TICK s)

/-- Whether slot `s` is armed. -/
def Df.slotArmed (d : Df) (s : Nat) : Bool := d.fld (DF.AFE.INJ_A.ARMED s) == 1

/-- Whether a channel takes part in slot `s` (R55). -/
def Df.selects (d : Df) (s ch : Nat) : Bool :=
  (d.fld (DF.AFE.CH.INJ_SEL ch)).testBit s && decide (d.mode ch ≠ modeOff)

/-- Whether a refresh at tick `t` meets the launch of an armed slot that selects the channel (R80). -/
def Df.nearLaunch (d : Df) (ch t : Nat) : Bool :=
  [0, 1, 2, 3].any fun s => d.slotArmed s && d.selects s ch && decide (d.launchTick s ≤ t + 5 ∧ t ≤ d.launchTick s)

/-- The refresh timer of an ordinary channel expires (R77, R78, R80). -/
def Df.refreshExpiry (d : Df) (ch : Nat) : Df :=
  let c := d.chan ch
  match c.refreshAt with
  | none => d
  | some t =>
    let d := d.until t
    let c := { c with refreshAt := none }
    if isAnchor ch ∨ !c.ready ∨ c.running.isSome then d.setChan ch c
    else if d.nearLaunch ch t then d.setChan ch { c with refreshHeld := true }
    else d.setChan ch { c with wins := c.wins ++ [{ endF := 1024 * (t + 5) }] }

/-- A channel that is not ready calibrates again (R85). -/
def Df.calRetry (d : Df) (ch : Nat) : Df :=
  let c := d.chan ch
  match c.retryAt with
  | none => d
  | some t =>
    let d := d.until t
    if c.ready ∨ !c.armed then d.setChan ch { c with retryAt := none }
    else d.setChan ch { c with retryAt := none, wins := c.wins ++ [{ endF := 1024 * (t + 5) }] }

/-- A 1 written to `RETRY` clears CALDEAD and CALFAIL and restarts the attempts of a channel that is not ready (R85). -/
def Df.retry (d : Df) (ch : Nat) : Df :=
  if isAnchor ch then d
  else
    let d := (d.set (DF.REED.CH.CALDEAD ch) 0).set (DF.REED.CH.CALFAIL ch) 0
    let c := d.chan ch
    if c.armed ∧ !c.ready then d.setChan ch { c with badRun := 0, retryAt := none, wins := [{ endF := 1024 * (d.now + 5) }] } else d

/-- An anchor DLL locks (R91, R92). -/
def Df.dllLock (d : Df) (k : Nat) : Df :=
  if d.tim.rootLocked then (d.set (DF.REED.ANCHOR.LOCKED k) 1).setChan (632 + k) { d.chan (632 + k) with ready := true } else d

/-- An anchor DLL loses lock while running (R92). -/
def Df.dllUnlock (d : Df) (k : Nat) : Df :=
  if d.fld (DF.REED.ANCHOR.LOCKED k) = 1 then (d.set (DF.REED.ANCHOR.LOCKED k) 0).set (DF.REED.ANCHOR.UNLOCK k) 1 else d

/-- 2 ticks after its trailing edge the anchor re-arms (R93). -/
def Df.anchorRearm (d : Df) (k : Nat) : Df :=
  let c := d.chan (632 + k)
  match c.rearmAt with
  | none => d
  | some t => (d.until t).setChan (632 + k) { c with rearmAt := none }

/-- The channels of a DF640. -/
def allChans : List Nat := List.range 640

/-- The root of the DF640 loses lock: every line stops and every DLL is unlocked (R84, R91); `UNLOCK` stays as it was. DEDUCED (log
entry 25). DESIGN CHOICE (log entry 94). -/
def Df.rootLoss (d : Df) : Df :=
  let d := { d with tim := { d.tim with rootLocked := false } }
  let d := (List.range 632).foldl (fun d ch => if (d.chan ch).armed then d.disarm ch else d) d
  (List.range 8).foldl (fun d k =>
    let d := if (d.chan (632 + k)).ready then d.setChan (632 + k) { d.chan (632 + k) with ready := false } else d
    if d.fld (DF.REED.ANCHOR.LOCKED k) = 1 then d.set (DF.REED.ANCHOR.LOCKED k) 0 else d) d

/-- Arm every channel that may arm now: in RUN, not OFF, not blanked, with its root locked (R84, R440). -/
def Df.armAll (d : Df) : Df :=
  allChans.foldl (fun d ch =>
    if d.mode ch ≠ modeOff ∧ (d.chan ch).blankEnd.isNone ∧ !(d.chan ch).armed then d.arm ch else d) d

/-- The root locks again: the channels that were stopped arm again in RUN (R84, R91). -/
def Df.rootReturn (d : Df) : Df :=
  let d := { d with tim := { d.tim with rootLocked := true } }
  if d.state = dfRun then d.armAll else d

/-- Whether a channel is busy under R54, from its leading edge to the end of its post-hit calibration, or blanked, so that an injection skips it
(R60). Other calibration windows and the re-arm of an anchor do not count. DESIGN CHOICE (log entry 95). -/
def Df.injBusy (d : Df) (ch : Nat) : Bool :=
  let c := d.chan ch
  c.running.isSome || c.wins.any (·.post) || c.blankEnd.isSome

/-- Whether T's output is high at a launch, from the levels at the inputs (R43, R60). -/
def Df.tHigh (d : Df) (levels : List (Nat × Bool × Int)) (ch : Nat) : Bool :=
  levels.any fun x => x.1 == ch && discriminator (d.thresholdT ch) x.2.1 x.2.2

/-- Inject or skip one channel at the launch tick `t` of slot `s` (R60 to R62, R78, R80). A held refresh that no launch meets stays held until a
hit or a launch. DESIGN CHOICE (log entry 96). -/
def Df.injectOne (d : Df) (s t ch : Nat) (levels : List (Nat × Bool × Int)) : Df :=
  let lower := (List.range s).any fun q =>
    d.selects q ch && ((d.slotArmed q && d.launchTick q == t) || (decide (0 < t) && (FMap.get {} d.slots q).lastLaunch == t))
  let c := d.chan ch
  if lower || d.injBusy ch || d.tHigh levels ch then
    (d.setChan ch { c with refreshHeld := false, wins := if c.refreshHeld && c.running.isNone then c.wins ++ [{ endF := 1024 * (t + 6) }] else c.wins }).inc
      DF.AFE.INJ_SKIP.COUNT
  else d.setChan ch { c with injAt := some t, refreshHeld := false }

/-- Inject or skip every channel that takes part in a slot (R55, R60). -/
def Df.injectAll (d : Df) (s t : Nat) (levels : List (Nat × Bool × Int)) : Df :=
  allChans.foldl (fun d ch => if d.selects s ch then d.injectOne s t ch levels else d) d

/-- A slot has fired: its next firing is set, and it disarms after its last one (R57). -/
def Df.slotFired (d : Df) (s t : Nat) : Df :=
  let x := FMap.get {} d.slots s
  let per := d.fld (DF.AFE.INJ_B.PERIOD s)
  let y : InjSlot := { x with next := x.next + (if per = 0 then 256 else per), left := x.left.map (· - 1), lastLaunch := t }
  let d := { d with slots := FMap.put {} d.slots s y }
  if x.left == some 1 then d.set (DF.AFE.INJ_A.ARMED s) 0 else d

/-- The launch tick of an armed slot (R55 to R62). -/
def Df.launch (d : Df) (s : Nat) (levels : List (Nat × Bool × Int)) : Df :=
  if !d.slotArmed s then d else ((d.until (d.launchTick s)).injectAll s (d.launchTick s) levels).slotFired s (d.launchTick s)

/-- The first complete record of a channel, and the candidates without it (R108). -/
def takeComplete : List Cand → Option (Cand × List Cand)
  | [] => none
  | h :: t =>
    if h.tot.isSome ∧ h.valid = some true then some (h, t) else (takeComplete t).map fun x => (x.1, h :: x.2)

/-- The word of a finished hit (R71, R104). -/
def Cand.word (h : Cand) (ch : Nat) : Rec :=
  hitWord ch (h.lead / 1024) (if h.coarse then 0 else h.lead % 1024) (h.tot.getD 0) h.flags

/-- The oldest complete record enters the derandomiser, or is dropped as masked or derandomiser-full (R108, R113). -/
def Df.hitComplete (d : Df) (ch : Nat) : Df :=
  let c := d.chan ch
  match takeComplete c.cands with
  | none => d
  | some (h, rest) =>
    let d := d.until h.doneAt
    let c := { c with cands := rest }
    let f := h.lead / 1024 / frameTicks
    if h.masked then (d.setChan ch c).account f accMasked
    else if 8 ≤ c.derand.length then (d.setChan ch c).account f accDerand
    else d.setChan ch { c with derand := c.derand ++ [⟨h.word ch, f, 0⟩] }

/-- The next non-empty derandomiser of quarter `q` in round-robin order after its pointer (R108). -/
def Df.offer (d : Df) (q : Nat) : Option Nat :=
  let r := FMap.get 0 d.hit.rr q
  ((List.range 160).map fun i => 160 * q + (r + i) % 160).find? fun ch => !(d.chan ch).derand.isEmpty

/-- Records of a position's lane queue that are not already in the block it assembles. -/
def Df.laneFill (d : Df) (p : Nat) : Nat := (d.pos p).hits.length - (d.compose p).nHit

/-- The lane position for the next record (R109): up, below its limit, the smaller fill fraction, position 0 on a tie. -/
def Df.choose (d : Df) : Option Nat :=
  let lim p := laneLimit (d.posRung p)
  let free p := d.posUp p && decide (d.laneFill p < lim p)
  if free 0 then (if free 1 ∧ d.laneFill 1 * lim 0 < d.laneFill 0 * lim 1 then some 1 else some 0)
  else if free 1 then some 1 else none

/-- One merged record is placed in a lane queue, or dropped as lane-full or link-down (R109, R113). -/
def Df.place (d : Df) (h : HitRec) : Df :=
  if !d.posUp 0 && !d.posUp 1 then d.account h.frame accLinkDown
  else
    match d.choose with
    | none => d.account h.frame accLaneFull
    | some p => (d.setPos p { d.pos p with hits := (d.pos p).hits ++ [{ h with since := d.now }] }).pumpPos p

/-- One tick of the dispatcher for one quarter (R108, R109). -/
def Df.dispatchQuarter (d : Df) (q : Nat) : Df :=
  match d.offer q with
  | none => d
  | some ch =>
    let c := d.chan ch
    match c.derand with
    | [] => d
    | h :: t =>
      let d := d.setChan ch { c with derand := t }
      let d := { d with hit := { d.hit with rr := d.hit.rr.put 0 q ((ch % 160 + 1) % 160) } }
      d.place h

/-- One tick of the dispatcher (R108, R109): the quarters in turn, each seeing the fill the one before left. DESIGN CHOICE (log entry 97). -/
def Df.dispatch (d : Df) : Df := ((d.dispatchQuarter 0).dispatchQuarter 1 |>.dispatchQuarter 2).dispatchQuarter 3

/-- The oldest record of the open block has waited FLUSH ticks (R111). -/
def Df.flushTimeout (d : Df) (p : Nat) : Df :=
  match (d.compose p).oldest with
  | none => d
  | some t =>
    let d := d.until (t + d.inForce DF.HIT.CTRL.FLUSH)
    d.pump

end Sys2Proof.Machine
end

