-- ==== Sys2Proof/Machine/Stream.lean ====
section
/-! DEFINITION. Tussock evaluation (R115 to R123), the front-end ledger (R128 to R130) and the marks of a frame boundary
(R124 to R126). -/
namespace Sys2Proof.Machine

/-- Whether channel `ch` belongs to tussock `k` by a MEMBER word (R115). -/
def memberOf (w : Word) (k : Nat) : Bool :=
  (fieldOf w 6 1 == 1 && fieldOf w 0 6 == k) || (fieldOf w 14 1 == 1 && fieldOf w 8 6 == k)

/-- A tussock register as in force at slice `s`: slices before the last frame boundary see the words of the frame before (R117, R119). -/
def Df.tusWord (d : Df) (s a : Nat) : Word := FMap.get (dfReset a) (if s < d.tus.effFrom then d.tus.prevEff else d.eff) a

/-- A field of a tussock register as in force at slice `s`. -/
def Df.tusFld (d : Df) (s : Nat) (f : Fd) : Nat := fieldOf (d.tusWord s f.addr) f.lo f.width

/-- Distinct channels with a counted crossing of tussock `k` in a window of slices, by the members at slice `at'`. -/
def Df.crossers (d : Df) (at' k lo hi : Nat) : List (Nat × Nat) → List Nat → List Nat
  | [], acc => acc
  | (s, ch) :: t, acc =>
    if lo ≤ s ∧ s ≤ hi ∧ !acc.contains ch ∧ memberOf (d.tusWord at' (DF.TUS.MEMBER.addr ch)) k then Df.crossers d at' k lo hi t (ch :: acc)
    else Df.crossers d at' k lo hi t acc

/-- The first slice of the window of tussock `k` that ends at slice `s` (R117, R119): a restart empties it from its own slice on. -/
def Df.windowFrom (d : Df) (k s : Nat) : Nat :=
  let lo := s + 1 - (d.tusFld s (DF.TUS.RULE.W k) + 1)
  let r := FMap.get 0 d.tus.restart k
  if r ≤ s then max lo r else lo

/-- The multiplicity of tussock `k` at slice `s` (R117, R119). -/
def Df.multiplicity (d : Df) (k s : Nat) : Nat := (d.crossers s k (d.windowFrom k s) s d.tus.crossings []).length

/-- The state of tussock `k` at slice `s` (R117). -/
def Df.tussockState (d : Df) (k s : Nat) : Bool :=
  d.tusFld s (DF.TUS.RULE.EN k) == 1 && decide (d.tusFld s (DF.TUS.RULE.M k) ≤ d.multiplicity k s)

/-- The 64 states at slice `s` as a bit map. -/
def Df.stateMap (d : Df) (s : Nat) : Nat :=
  (List.range 64).foldl (fun m k => if d.tussockState k s then m + 2 ^ k else m) 0

/-- Free entries of the control queue. -/
def Df.cqFree (d : Df) : Nat := 512 - d.cqFill

/-- Queue one PRIM record, or refuse it when fewer than 65 entries are free (R122). -/
def Df.queuePrim (d : Df) (k state s : Nat) : Df :=
  if d.cqFree < 65 then (d.inc DF.HIT.PRIM_LOST.COUNT).set DF.HIT.STATUS.RESYNC_PEND 1
  else
    let d := d.queueCtl (primWord k state (s % 16384) (d.multiplicity k s))
    { d with tus := { d.tus with prims := d.tus.prims + 1 } }

/-- The PRIM records of slice `s` for the tussocks whose state changed (R118). -/
def Df.queuePrims (d : Df) (m s : Nat) : Df :=
  (List.range 64).foldl (fun d k => if m.testBit k = d.tus.state.testBit k then d else d.queuePrim k (m.testBit k).toNat s) d

/-- The RESYNC group of slice `s`, queued whole (R123). -/
def Df.queueResync (d : Df) (cause m s : Nat) : Df :=
  let ks := (List.range 64).filter fun k => m.testBit k
  let d := d.queueCtl (resyncWord cause (s % 16384) (s / 16384) ks.length)
  let d := ks.foldl (fun d k => d.queueCtl (primWord k 1 (s % 16384) (d.multiplicity k s))) d
  let d := d.set DF.HIT.STATUS.RESYNC_PEND 0
  { d with
    tus := { d.tus with prims := d.tus.prims + ks.length, lastResync := s / 16384, firstSlice := none },
    hit := { d.hit with moved := false } }

/-- The first cause of a RESYNC that holds at slice `s`, in the order 3, 1, 0, 2 (R123). -/
def Df.resyncCause (d : Df) (s : Nat) : Option Nat :=
  let per := d.inForce DF.HIT.CTRL.RESYNC_PERIOD
  if d.tus.firstSlice = some s then some 3
  else if d.hit.moved then some 1
  else if d.fld DF.HIT.STATUS.RESYNC_PEND = 1 ∧ 129 ≤ d.cqFree then some 0
  else if per ≠ 0 ∧ s % 16384 = 0 ∧ per ≤ s / 16384 - d.tus.lastResync then some 2
  else none

/-- A RESYNC of cause 1, 2 or 3 that falls due without room is owed instead (R123). -/
def Df.oweResync (d : Df) : Df :=
  let d := d.set DF.HIT.STATUS.RESYNC_PEND 1
  { d with tus := { d.tus with firstSlice := none }, hit := { d.hit with moved := false } }

/-- The records of slice `s` with its states `m` (R118, R121, R123). -/
def Df.sliceRecords (d : Df) (m s : Nat) : Df :=
  let d := match d.resyncCause s with
    | some c => if 129 ≤ d.cqFree then d.queueResync c m s else d.oweResync.queuePrims m s
    | none => d.queuePrims m s
  if s % 64 = 63 then
    let d := d.queueCtl (watermarkWord (s % 16384) (s / 16384) d.tus.prims)
    { d with tus := { d.tus with prims := 0 } }
  else d

/-- The end of slice s + 2 for the next slice s to evaluate (R117, R118). Records go out in RUN only (R440). -/
def Df.tussockEval (d : Df) : Df :=
  let s := d.tus.nextSlice
  let d := d.until (4 * (s + 3))
  let m := d.stateMap s
  let d := if d.state = dfRun then d.sliceRecords m s else d
  let d := { d with tus := { d.tus with state := m, nextSlice := s + 1, crossings := d.tus.crossings.filter fun x => decide (s < x.1 + 8) } }
  d.pump

/-- The sum over frames up to `f` of an account not yet in its total. -/
def framesUpTo (m : FMap Nat) (f a : Nat) : Nat :=
  total ((m.filter fun x => decide (x.1 / 6 ≤ f) && x.1 % 6 == a).map (·.2))

/-- Take the counts of frames up to `f` into the running totals (R129, R130). -/
def Df.settleTotals (d : Df) (f : Nat) : Df :=
  let t := (List.range 6).foldl (fun m a => m.put 0 a ((FMap.get 0 m a + framesUpTo d.hit.frames f a) % 2 ^ 48)) d.hit.totals
  { d with hit := { d.hit with totals := t, frames := d.hit.frames.filter fun x => decide (f < x.1 / 6) } }

/-- Place the LEDGER record of account `a` for frame `f` and show its total (R129, R130). -/
def Df.queueLedger (d : Df) (f a : Nat) : Df :=
  let t := FMap.get 0 d.hit.totals a
  ((d.queueCtl (ledgerWord a f t)).set (DF.HIT.ACCT_LO.TOTAL_LO a) t).set (DF.HIT.ACCT_HI.TOTAL_HI a) (t / 2 ^ 32)

/-- Whether frame `f` was a frame of RUN (R440). -/
def Df.wasRun (d : Df) (f : Nat) : Bool :=
  if d.state = dfRun then decide (d.bt.runFrom ≤ f) else decide (d.bt.runFrom ≤ f ∧ f < d.bt.runTo)

/-- Tick 16,384 of the next frame f + 1 whose frame f is to be settled (R129). -/
def Df.ledgerEmit (d : Df) : Df :=
  let g := match d.hit.ledgerFrame with | some x => max (x + 1) d.frame | none => d.frame
  let d := d.until (g * frameTicks + 16384)
  let d := { d with hit := { d.hit with ledgerFrame := some g } }
  if g = 0 then d
  else
    let d := d.settleTotals (g - 1)
    let d := if d.wasRun (g - 1) then [0, 1, 2, 3, 4, 5].foldl (fun d a => d.queueLedger (g - 1) a) d else d
    d.pump

end Sys2Proof.Machine
end

