-- ==== Sys2Proof/Machine/DfLink.lean ====
section
/-! DEFINITION. The DF640's ends of its lanes and downlinks: states of the training ladder (R153 to R158), slots and markers
sent (R140, R141), sleep (R160, R161), pattern test (R159), frame markers and local time (R169 to R171, R176). -/
namespace Sys2Proof.Machine

/-- State codes of the training ladder (R153). -/
def lOff : Nat := 0
def lLock : Nat := 1
def lTrain : Nat := 2
def lJudge : Nat := 3
def lStep : Nat := 4
def lRun : Nat := 5
def lTest : Nat := 7
def lFault : Nat := 8

/-- Whether a lane or downlink trains (LOCK, TRAIN, JUDGE or STEP). -/
def training (st : Nat) : Bool := st == lLock || st == lTrain || st == lJudge || st == lStep

/-- The state from which a pattern generator starts: all ones. DESIGN CHOICE (log entry 101). -/
def genStart (code : Nat) : Nat := 2 ^ (pattern code).1 - 1

/-- A transmitter that enters LOCK (R141, R154): its marker count restarts. Out of OFF, TEST, FAULT or sleep, or at a new rung, a marker comes
first; otherwise its slots run on. -/
def TxLane.lock (x : TxLane) (old : Nat) (asleep newRung : Bool) : TxLane :=
  { x with slot := if training old || old == lRun then (if asleep || newRung then 4096 else x.slot) else 4096, markers := 0, todo := [] }

/-- Put an uplink lane of the DF640 into a ladder state at a rung; a departure from RUN is counted (R158). -/
def Df.laneTo (d : Df) (l st rung : Nat) : Df :=
  let x := (d.lane l).lock (d.fld (DF.LINK.LANE.STATE l)) (d.fld (DF.LINK.LANE.ASLEEP l) == 1) (decide (d.fld (DF.LINK.LANE.RUNG l) ≠ rung))
  let d := if d.laneRun l ∧ st ≠ lRun then d.inc (DF.LINK.LANE.RETRAINS l) else d
  let d := if st = lRun then d else d.set (DF.LINK.LANE.ASLEEP l) 0
  let d := if st = lLock then d.setLane l x
    else if st = lTest then d.setLane l { d.lane l with gen := genStart (d.fld DF.LINK.TEST.PAT), invert := false } else d
  (d.set (DF.LINK.LANE.STATE l) st).set (DF.LINK.LANE.RUNG l) rung

/-- A lane changes state, with what follows for its position (R101, R114). -/
def Df.moveLane (d : Df) (l st rung : Nat) : Df := d.withLanes fun d => d.laneTo l st rung

/-- Whether downlink `i` is in RUN. -/
def Df.downRun (d : Df) (i : Nat) : Bool := d.fld (DF.LINK.DN.STATE i) == 5

/-- The clock-source downlink (R169, R189). -/
def Df.source (d : Df) : Nat := d.fld DF.TIME.STATUS.SOURCE

/-- Since when no downlink has been in RUN (R442). -/
def Df.noteDowns (d : Df) : Df :=
  let t := if d.downRun 0 || d.downRun 1 then none else (match d.bt.noDownSince with | some t => some t | none => some d.now)
  { d with bt := { d.bt with noDownSince := t } }

/-- Put a downlink receiver into a ladder state at a rung (R148, R158, R176): leaving RUN it loses its sequence, and when it is
the clock source the uplink lanes of its homing port that are in RUN leave RUN as well. In SAFE a downlink that reaches RUN
brings the DF640 to CONFIG (R442). -/
def Df.downTo (d : Df) (i st rung : Nat) : Df :=
  let leaves := d.downRun i && st != lRun
  let d := (d.set (DF.LINK.DN.STATE i) st).set (DF.LINK.DN.RUNG i) rung
  let d := if leaves then d.setDown i { d.down i with lastSeq := none, rx := [], crcRun := 0, missRun := 0 } else d
  let d := if leaves && decide (d.source = i) then
      d.withLanes fun d => [2 * i, 2 * i + 1].foldl (fun d l => if d.laneRun l then d.laneTo l lLock (d.fld (DF.LINK.LANE.RUNG l)) else d) d
    else d
  let d := d.noteDowns
  let d := if d.downRun 0 || d.downRun 1 then d.set DF.TIME.STATUS.HOLD 0 else if leaves then d.set DF.TIME.STATUS.HOLD 1 else d
  if st = lRun ∧ d.state = dfSafe then (d.enter dfConfig).set DF.BOOT.STATE.WAS_SAFE 1 else d

/-- In LISTEN, CONFIG follows once the clock-source downlink and a lane position towards the same unit are in RUN (R439). -/
def Df.listenDone (d : Df) : Df :=
  if d.state = dfListen ∧ d.downRun d.source ∧ (d.laneRun (2 * d.source) ∨ d.laneRun (2 * d.source + 1)) then d.enter dfConfig else d

/-- Record what leaves the chip. DESIGN CHOICE (log entry 82). -/
def Df.emit (d : Df) (x : DfSent) : Df := { d with out := x :: d.out }

/-- The judge word of the DF640 for homing port `h` (R155). -/
def Df.judge (d : Df) (l : Nat) : Rec :=
  let h := l / 2
  judgeWord 0 (d.fld (DF.LINK.LANE.RUNG l)) (d.fld (DF.LINK.DN.RUNG h)) (d.down h).train.verdict 0 0 (d.down h).train.errors

/-- Hand a closed block to every lane of its position in RUN; one that is still asleep sends it after its wake slot (R24, R111, R161). -/
def Df.handBlock (d : Df) (p : Nat) : Df :=
  match (d.pos p).closed with
  | none => d
  | some b =>
    let give (d : Df) (l : Nat) : Df :=
      if d.laneRun l then d.setLane l { d.lane l with todo := (d.lane l).todo ++ [b] } else d
    ((give (give d p) (p + 2)).setPos p { d.pos p with closed := none }).pump

/-- Send one slot on a lane and advance its slot position (R140). -/
def Df.sendSlot (d : Df) (l : Nat) (line : List Bool) : Df :=
  let x := d.lane l
  (d.setLane l { x with slot := x.slot + 1 }).emit (.slot l line)

/-- The next `n` bits of a pattern from a generator's state, the first one inverted on request, and the state after them (R159). -/
def patternBits (code n s : Nat) (flip : Bool) : List Bool × Nat :=
  let (w, t, inv) := pattern code
  let bs := (prbsBits w t n s).map fun b => b != inv
  ((match bs with | b :: r => (b != flip) :: r | [] => []), prbsSkip w t n s)

/-- A lane in TEST sends as many raw bits of its pattern as a slot has; in a far-end loop-back it sends what it receives instead (R159). DESIGN CHOICE (log entry 101). -/
def Df.patternSend (d : Df) (l : Nat) : Df :=
  if d.fld DF.LINK.TEST.LOOP = 3 then d
  else
    let x := d.lane l
    let y := patternBits (d.fld DF.LINK.TEST.PAT) 2134 x.gen x.invert
    (d.setLane l { x with gen := y.2, invert := false }).emit (.pattern l y.1)

/-- What a lane in RUN sends when no block waits: an idle slot, or a judge slot while the downlink of its homing port trains (R140, R155). DEDUCED (log entry 102). -/
def Df.restWord (d : Df) (l : Nat) : Rec := if training (d.fld (DF.LINK.DN.STATE (l / 2))) then d.judge l else idleWord

/-- Uplink lane `l` sends one slot that is not a marker slot: a block, an idle slot or a judge slot in RUN, a train or judge slot in training
(R140, R153, R154). -/
def Df.slotSend (d : Df) (l : Nat) : Df :=
  let st := d.fld (DF.LINK.LANE.STATE l)
  let x := d.lane l
  if st = lTest then d.patternSend l
  else if 4096 ≤ x.slot then d
  else if st = lRun then
    if d.fld (DF.LINK.LANE.ASLEEP l) = 1 then d
    else
      let d := if x.todo.isEmpty then d.handBlock (l % 2) else d
      match (d.lane l).todo with
      | [] => d.sendSlot l (upSlot l x.slot (plainSlot 32 (d.restWord l)))
      | b :: t => ((d.setLane l { d.lane l with todo := t }).sendSlot l (upSlot l x.slot b)).noteLow (l % 2)
  else if training st then
    if x.slot < 512 then d.sendSlot l (trainSlot x.slot) else d.sendSlot l (upSlot l x.slot (plainSlot 32 (d.judge l)))
  else d

/-- The values of the ECHO reply (R417). -/
def Df.echoWords (d : Df) : List Word :=
  [d.word DF.TIME.ECHO.addr, d.word (DF.TIME.PROBE.addr 0), d.word (DF.TIME.PROBE.addr 1), d.word (DF.TIME.TXMARK_A.addr 0),
    d.word (DF.TIME.TXMARK_B.addr 0), d.word (DF.TIME.TXMARK_A.addr 1), d.word (DF.TIME.TXMARK_B.addr 1)]

/-- The records of a reply (R415). -/
def replyRecs (identity status : Nat) (vals : List Word) : List Rec :=
  vals.zipIdx.map fun x => replyWord identity x.2 status x.1.toNat

/-- Keep a reply as that of the last command and send it (R415, R416). -/
def Df.reply (d : Df) (identity status : Nat) (vals : List Word) : Df :=
  let ws := replyRecs identity status vals
  let d := d.set DF.CMD.LAST.STATUS status
  { d with cmd := { d.cmd with last := some (identity, ws) } }.sendReply ws

/-- Send the reply of the ECHO (R171, R417); what it still waits for is latched later all the same. -/
def Df.echoReply (d : Df) (status : Nat) : Df :=
  match d.tim.echo with
  | none => d
  | some e => if e.answered then d else ({ d with tim := { d.tim with echo := some { e with answered := true } } }.reply e.identity status d.echoWords).pump

/-- The ECHO reply is sent when every VALID bit of a probe or lane in RUN is set (R417). -/
def Df.echoCheck (d : Df) : Df :=
  let v := d.fld DF.TIME.ECHO.VALID
  let ok (run : Bool) (b : Nat) : Bool := !run || v.testBit b
  match d.tim.echo with
  | none => d
  | some _ => if ok (d.downRun 0) 0 && ok (d.downRun 1) 1 && ok (d.laneRun 0) 2 && ok (d.laneRun 2) 3 then d.echoReply 0 else d

/-- The departure of a marker on lane 0 or 2 is latched for an ECHO: the first one sent after the boundary of the probed frame (R171). -/
def Df.echoMarker (d : Df) (l count m fine : Nat) : Df :=
  match d.tim.echo with
  | some e =>
    let k := l / 2
    if l % 2 = 0 ∧ e.want ≤ m / frameTicks ∧ !(d.fld DF.TIME.ECHO.VALID).testBit (2 + k) then
      let d := (d.set (DF.TIME.TXMARK_A.COUNT k) count).set (DF.TIME.TXMARK_A.FRAME k) (m / frameTicks)
      let d := (d.set (DF.TIME.TXMARK_B.TICK k) m).set (DF.TIME.TXMARK_B.FINE k) fine
      (d.set DF.TIME.ECHO.VALID (d.fld DF.TIME.ECHO.VALID + 2 ^ (2 + k))).echoCheck
    else d
  | none => d

/-- Lane `l` sends its marker slot once 4,096 other slots have passed; its first bit leaves at local time `m`, `fine` (R141, R171). -/
def Df.markerSend (d : Df) (l m fine : Nat) : Df :=
  let st := d.fld (DF.LINK.LANE.STATE l)
  let x := d.lane l
  if st = lOff ∨ st = lTest ∨ st = lFault ∨ d.fld (DF.LINK.LANE.ASLEEP l) = 1 ∨ x.slot < 4096 then d
  else
    let d := d.until m
    let d := d.setLane l { x with slot := 0, markers := (x.markers + 1) % 2 ^ 24 }
    let d := d.emit (.marker l (markerSlotLine (markerWord l (d.fld (DF.LINK.LANE.RUNG l)) x.markers)) m fine)
    d.echoMarker l x.markers m fine

/-- One lane of a position sends its sleep slot and turns its driver off (R160). -/
def Df.sleepLane (d : Df) (l : Nat) : Df :=
  if d.laneRun l ∧ d.fld (DF.LINK.LANE.ASLEEP l) = 0 then
    let d := d.sendSlot l (upSlot l (d.lane l).slot (plainSlot 32 sleepWord))
    (d.setLane l { d.lane l with sleptAt := d.now }).set (DF.LINK.LANE.ASLEEP l) 1
  else d

/-- A lane position has stayed at or below LOW for HOLD ticks (R160); a marker slot that is due goes first. -/
def Df.laneSleep (d : Df) (p : Nat) : Df :=
  match (d.pos p).lowSince with
  | none => d
  | some t =>
    if d.posUp p ∧ 2 ≤ d.posRung p ∧ d.fld DF.LINK.SLEEP.EN = 1 ∧ [p, p + 2].all (fun l => !d.laneRun l || decide ((d.lane l).slot < 4096)) then
      let d := d.until (t + d.fld DF.LINK.SLEEP.HOLD)
      (d.sleepLane p).sleepLane (p + 2)
    else d

/-- Slots of a lane that pass in some ticks: a slot is 2,134 line bits, and a tick holds 4 × 2^rung of them (R133, R140). DESIGN CHOICE (log entry 32). -/
def slotsIn (rung ticks : Nat) : Nat := ticks * (4 * 2 ^ rung) / 2134

/-- A woken lane sends its wake slot; its slot position has run on (R136, R160, R161). -/
def Df.wakeSlot (d : Df) (l : Nat) : Df :=
  match (d.pos (l % 2)).wakeAt with
  | none => d
  | some t =>
    if d.laneRun l ∧ d.fld (DF.LINK.LANE.ASLEEP l) = 1 then
      let d := d.until t
      let x := d.lane l
      let k := (x.slot + slotsIn (d.fld (DF.LINK.LANE.RUNG l)) (d.now - x.sleptAt)) % 4097
      let k := if k = 4096 then 0 else k
      let d := d.setLane l { x with slot := k }
      let d := (d.sendSlot l (upSlot l k (plainSlot 32 wakeWord))).set (DF.LINK.LANE.ASLEEP l) 0
      if d.posAsleep (l % 2) then d else (d.setPos (l % 2) { d.pos (l % 2) with wakeAt := none }).pump
    else d

/-- Put the lanes named by a mask into TEST, and those released to LOCK at rung 0 (R159). -/
def Df.laneTest (d : Df) (mask : Nat) : Df :=
  let old := d.fld DF.LINK.TEST.LANES
  let d := d.set DF.LINK.TEST.LANES mask
  let d := [0, 1].foldl (fun (d : Df) (j : Nat) => d.setDown j { d.down j with check := { (d.down j).check with loop := none, flip := false } }) d
  d.withLanes fun d => [0, 1, 2, 3].foldl (fun d l =>
    if mask.testBit l then (if old.testBit l then d else d.laneTo l lTest (d.fld (DF.LINK.LANE.RUNG l)))
    else if old.testBit l then d.laneTo l lLock 0 else d) d

/-- Whether the checker of downlink receiver `j` hears the chip's own lane instead of the downlink: in the near-end loop-backs, the receiver
that is not the clock source (R159). DESIGN CHOICE (log entry 101). -/
def Df.looped (d : Df) (j : Nat) : Bool :=
  decide (d.fld DF.LINK.TEST.LANES ≠ 0) && (d.fld DF.LINK.TEST.LOOP == 1 || d.fld DF.LINK.TEST.LOOP == 2) && decide (j ≠ d.source)

/-- One transmitted bit is inverted on every lane in TEST, and where a loop-back leads it (R159). -/
def Df.invertBit (d : Df) : Df :=
  let d := [0, 1, 2, 3].foldl (fun (d : Df) (l : Nat) => if (d.fld DF.LINK.TEST.LANES).testBit l then d.setLane l { d.lane l with invert := true } else d) d
  [0, 1].foldl (fun (d : Df) (j : Nat) => if d.looped j then d.setDown j { d.down j with check := { (d.down j).check with flip := true } } else d) d

/-- The next 64 bits of the looped generator as a checker hears them (R159). -/
def Checker.loopWord (c : Checker) (code : Nat) : Rec × Checker :=
  let y := patternBits code 64 (c.loop.getD (genStart code)) c.flip
  (BitVec.ofNat 64 (ofBits y.1), { c with loop := some y.2, flip := false })

/-- What the checker of R159 makes of 64 received bits: the checker, whether it is in sync, errors counted, whether it lost sync. -/
def checkWord (code : Nat) (c : Checker) (sync : Bool) (w : Rec) : Checker × Bool × Nat × Bool :=
  let (n, t, inv) := pattern code
  let bs := (bitsMsb 64 w.toNat).map fun b => b != inv
  let reseed : Checker := { c with seed := some (ofBits (bs.drop (64 - n))), good := 0 }
  match c.seed with
  | none => (reseed, false, 0, false)
  | some s =>
    let want := prbsBits n t 64 s
    let errs := ((bs.zip want).filter fun x => x.1 != x.2).length
    if sync then
      if 16 ≤ errs then (reseed, false, errs, true) else ({ c with seed := some (prbsSkip n t 64 s), good := 64 }, true, errs, false)
    else if errs = 0 then ({ c with seed := some (prbsSkip n t 64 s), good := 64 }, true, 0, false)
    else (reseed, false, 0, false)

/-- In the far-end loop-back the bits received on downlink `j` go out again on the lanes of its homing port that are in TEST (R159). -/
def Df.loopBack (d : Df) (j : Nat) (w : Rec) : Df :=
  [2 * j, 2 * j + 1].foldl (fun (d : Df) (l : Nat) =>
    if (d.fld DF.LINK.TEST.LANES).testBit l then d.emit (.pattern l (bitsMsb 64 w.toNat)) else d) d

/-- The checker of downlink receiver `j` takes 64 pattern bits (R159). -/
def Df.patternCheck (d : Df) (j : Nat) (w : Rec) : Df :=
  if d.fld DF.LINK.TEST.LANES = 0 then d
  else if d.fld DF.LINK.TEST.LOOP = 3 then d.loopBack j w
  else
    let s := d.fld DF.LINK.TEST.SYNC
    let l := d.fld DF.LINK.TEST.SYNC_LOST
    let c := (d.down j).check
    let h := if d.looped j then c.loopWord (d.fld DF.LINK.TEST.PAT) else (w, c)
    let x := checkWord (d.fld DF.LINK.TEST.PAT) h.2 (s.testBit j) h.1
    let d := d.setDown j { d.down j with check := x.1 }
    let d := d.add (DF.LINK.PRBS_ERR.COUNT j) x.2.2.1
    let d := d.set DF.LINK.TEST.SYNC (if x.2.1 then s ||| 2 ^ j else s &&& (3 - 2 ^ j))
    if x.2.2.2 then d.set DF.LINK.TEST.SYNC_LOST (l ||| 2 ^ j) else d

/-- A signed field of 16 bits. -/
def s16 (v : Nat) : Int := signed 16 v

/-- Take a new COARSE into force: the labels move by the difference at once (R170). -/
def Df.applyCoarse (d : Df) (c : Int) : Df :=
  { d with now := unsigned 64 ((d.now : Int) + (c - d.tim.coarse)), tim := { d.tim with coarse := c } }

/-- Start the PHASE slew towards the set in force, if it differs (R170). -/
def Df.startSlew (d : Df) (target len : Nat) : Df :=
  if d.tim.phase = target ∧ len = 0 then d
  else { d with tim := { d.tim with slewFrom := d.now, slewLen := len } }.set DF.TIME.STATUS.SLEWING 1

/-- The PHASE slew reaches its target: 1 fine per slice (R170). -/
def Df.slewEnd (d : Df) : Df :=
  if d.fld DF.TIME.STATUS.SLEWING = 1 then
    let d := d.until (d.tim.slewFrom + 4 * d.tim.slewLen)
    { d with tim := { d.tim with phase := d.inForce (DF.TIME.ADJ.PHASE d.source), slewLen := 0 } }.set DF.TIME.STATUS.SLEWING 0
  else d

/-- Label the count from a frame marker on the clock source, modulo 2⁶⁴ (R6, R169). -/
def Df.label (d : Df) (frame : Nat) : Df :=
  let c := s16 (d.inForce (DF.TIME.ADJ.COARSE d.source))
  let n : Nat := unsigned 64 (((frame * frameTicks : Nat) : Int) + c)
  { d with now := n, bt := { d.bt with boundary := n / frameTicks }, tus := { d.tus with nextSlice := n / 4, effFrom := 0 },
           tim := { d.tim with labelled := true, coarse := c } }

/-- The frame that the count implies for a marker that arrives at local tick `m` (R169). -/
def Df.impliedFrame (d : Df) (m : Nat) : Nat := unsigned 64 ((m : Int) + 32768 - d.tim.coarse) / 65536

/-- A probe stamp is latched for an ECHO (R171). Where the marker that was expected has been missed, the lanes' markers are those after the
boundary of the one found. -/
def Df.echoProbe (d : Df) (i frame m fine : Nat) : Df :=
  match d.tim.echo with
  | some e =>
    if !(d.fld DF.TIME.ECHO.VALID).testBit i ∧ e.frame.getD frame = frame then
      let d := if frame = e.want then d else d.set DF.TIME.ECHO.VALID (d.fld DF.TIME.ECHO.VALID % 4)
      let d := { d with tim := { d.tim with echo := some { e with want := frame, frame := some frame } } }.set DF.TIME.ECHO.FRAME frame
      let d := (d.set (DF.TIME.PROBE.TICK i) m).set (DF.TIME.PROBE.FINE i) fine
      (d.set DF.TIME.ECHO.VALID (d.fld DF.TIME.ECHO.VALID + 2 ^ i)).echoCheck
    else d
  | none => d

/-- Downlink receiver `i` finds a frame marker whose first bit arrives at local time `m`, `fine` (R146, R169, R171). -/
def Df.frameMarker (d : Df) (i : Nat) (word : Rec) (m fine : Nat) : Df :=
  let st := d.fld (DF.LINK.DN.STATE i)
  if st = lOff ∨ st = lTest ∨ st = lFault then d
  else
    let frame := rb word 16 48
    let d := if d.tim.labelled then d.until m else d
    let d := d.setDown i { d.down i with missRun := 0, crcRun := 0 }
    let d := { d with tim := { d.tim with probes := FMap.put none d.tim.probes i (some (1024 * m + fine, frame)) } }
    let d := if d.source ≠ i then d
      else if !d.tim.labelled then d.label frame
      else if d.impliedFrame m = frame then d
      else ((d.label frame).set DF.TIME.STATUS.SLIP 1).inc (DF.LINK.DN.MARKER_MISS i)
    d.echoProbe i frame m fine

/-- A frame marker is missed on downlink `i`, where a new frame begins for its CRC failures; the second in a row sends a receiver in RUN to LOCK (R158). -/
def Df.downMiss (d : Df) (i : Nat) : Df :=
  let x := d.down i
  let d := (d.setDown i { x with missRun := x.missRun + 1, crcRun := 0 }).inc (DF.LINK.DN.MARKER_MISS i)
  if d.downRun i ∧ 2 ≤ x.missRun + 1 then d.downTo i lLock (d.fld (DF.LINK.DN.RUNG i)) else d

/-- The step in fine that a switch to downlink `h` implies, from the adjustment sets and the latest probe stamps (R176). DEDUCED (log entry 31). -/
def Df.switchStep (d : Df) (h : Nat) : Int :=
  let adj (i : Nat) : Int := 1024 * s16 (d.inForce (DF.TIME.ADJ.COARSE i)) + d.inForce (DF.TIME.ADJ.PHASE i)
  let probe (i : Nat) : Option Int := (FMap.get none d.tim.probes i).map fun x => (x.1 : Int) - 1024 * (x.2 * frameTicks : Nat)
  match probe h, probe d.source with
  | some a, some b => adj h - adj d.source - (a - b)
  | _, _ => 0

/-- The clock source moves to downlink `h` (R176). -/
def Df.switchSource (d : Df) (h : Nat) : Df :=
  let step := d.switchStep h
  let old := d.source
  let d := ((d.set DF.TIME.STATUS.SOURCE h).set (DF.LINK.DN.SOURCE old) 0).set (DF.LINK.DN.SOURCE h) 1
  let d := ((d.set (DF.LINK.DN.LOCKED old) 0).set (DF.LINK.DN.LOCKED h) 1).set DF.TIME.STATUS.SWITCHED 1
  let d := { d with tim := { d.tim with coarse := s16 (d.inForce (DF.TIME.ADJ.COARSE h)) } }
  if step.natAbs ≤ 16 then { d with tim := { d.tim with phase := d.inForce (DF.TIME.ADJ.PHASE h) } }
  else (d.set DF.TIME.STATUS.STEP_BIG 1).startSlew (d.inForce (DF.TIME.ADJ.PHASE h)) step.natAbs

/-- The source downlink loses clock-recovery lock (R176): the other downlink takes over when it is in RUN; otherwise the cleaner
holds its last frequency. The lost downlink leaves RUN, and the lanes of its homing port with it (R158). -/
def Df.sourceLost (d : Df) : Df :=
  let s := d.source
  let d := (d.set (DF.LINK.DN.LOCKED s) 0).downTo s lLock (d.fld (DF.LINK.DN.RUNG s))
  if d.downRun (1 - s) then d.switchSource (1 - s) else d.set DF.TIME.STATUS.HOLD 1

/-- A receiver finds its first frame markers: in LISTEN the first such downlink becomes the clock source, and the uplink lanes of
the homing port start at rung 0, or at the rungs they last held after a sleep (R153, R162, R439). -/
def Df.downLocked (d : Df) (i : Nat) : Df :=
  let d := if d.state = dfListen ∧ d.fld (DF.LINK.DN.SOURCE 0) = 0 ∧ d.fld (DF.LINK.DN.SOURCE 1) = 0 then
      let d := ((d.set DF.TIME.STATUS.SOURCE i).set (DF.LINK.DN.SOURCE i) 1).set (DF.LINK.DN.LOCKED i) 1
      if d.fld (DF.LINK.DN.STATE (1 - i)) = lOff then d.set (DF.LINK.DN.STATE (1 - i)) lLock else d
    else if d.source = i then d.set (DF.LINK.DN.LOCKED i) 1 else d
  let d := { d with tim := { d.tim with rootLocked := true } }
  d.withLanes fun d => [2 * i, 2 * i + 1].foldl (fun d l =>
    if d.fld (DF.LINK.LANE.STATE l) = lOff then d.laneTo l lLock (d.fld (DF.LINK.LANE.RUNG l)) else d) d

end Sys2Proof.Machine
end

