-- ==== Sys2Proof/Config.lean ====
section
/-! DEFINITION. The values the spec leaves open: constants without a body, applied to the operands they depend on or to the
counter of free values that a state holds. Nothing in Lean can evaluate them (log entry 2). -/
namespace Sys2Proof.Config

/-- Whether the chip rounds the quotient `num / den` up when it is not exact and the spec states no rounding. -/
opaque roundsUp : Int → Nat → Bool

/-- The reference functions of thermocouple types K, T and E of IEC 60584-1 (curves 6 to 8), which the spec names and does not print: the EMF in nV / 2²² at a temperature in
0.01 °C, and the temperature at an EMF; values outside the 16-bit range stand for temperatures beyond it (R388, R389). DESIGN CHOICE (log entry 28). -/
opaque tcEmf : Nat → Int → Int
opaque tcTemperature : Nat → Int → Int

/-- The die temperature in 0.01 °C for a raw code (R376). -/
opaque hkDie : Int → Int

/-- A new session number from the hardware random source: 32 bits (R406). -/
opaque session : Nat → Nat

/-- A fresh log identity from the hardware random source (R300, R302). -/
opaque logIdentity : Nat → Nat

/-- The link peer configured for an Ethernet port, as clockIdentity and portNumber: the spec names it and gives no register of it (R178; log entry 105). -/
opaque linkPeer : Nat → Nat × Nat

/-- What a SEC-DED decoder makes of three or more wrong bits: 0 no error, b + 1 one wrong bit b, above 72 two wrong bits (R322; log entry 113). -/
opaque wideSram : BitVec 72 → Nat

/-- Whether the Reed–Solomon decoder misses an error of more than 6 symbols, which the spec bounds at 3 × 10⁻¹² (R322; log entry 113). -/
opaque wideDram : List (BitVec 40) → Bool

/-- Values of other kinds that the spec leaves open: a kind number, operands. -/
opaque free : Nat → List Nat → Nat

end Sys2Proof.Config
end

