-- ==== Sys2Proof/Machine/Curves.lean ====
section
/-! DEFINITION. Rounding, clamps and the curves of the housekeeping unit (R382, R388): what a sensor's resistance or EMF says of its temperature. -/
namespace Sys2Proof.Machine

/-- A quotient: exact where it is exact, otherwise one of its two neighbours, which the spec does not choose. DESIGN CHOICE (log entry 20). -/
def roundQ (num : Int) (den : Nat) : Int :=
  if num % (den : Int) = 0 then num / den else num / den + (if Config.roundsUp num den then 1 else 0)

/-- The nearest integer of a quotient; which neighbour an exact half goes to is left open. -/
def nearestQ (num : Int) (den : Nat) : Int :=
  let q := (2 * num + den) / (2 * (den : Int))
  if (2 * num + den) % (2 * (den : Int)) = 0 then q - 1 + (if Config.roundsUp num den then 1 else 0) else q

/-- The nearest integer of a quotient, halves away from zero (R392). -/
def halfAway (num : Int) (den : Nat) : Int :=
  if 0 ≤ num then (2 * num + den) / (2 * (den : Int)) else -((2 * (-num) + den) / (2 * (den : Int)))

/-- Clamp to a range, and whether it was needed (R382). -/
def clampTo (lo hi v : Int) : Int × Bool := if v < lo then (lo, true) else if hi < v then (hi, true) else (v, false)

/-- Clamp to 16 bits (R382). -/
def clamp16 (v : Int) : Int × Bool := clampTo (-32768) 32767 v

/-- An IEEE 754 single as an integer over 2¹⁴⁹; none for an infinity or a NaN. -/
def single149 (w : Nat) : Option Int :=
  let e := bits w 23 8
  let m := bits w 0 23
  let v : Option Nat := if e = 255 then none else if e = 0 then some m else some ((m + 2 ^ 23) * 2 ^ (e - 1))
  v.map fun x => if bits w 31 1 = 1 then -(x : Int) else (x : Int)

/-- The largest integer from `lo` on, within `n` halvings of the step `w`, of which a monotone question holds; `lo` where it holds of none above. -/
def highest (p : Int → Bool) : Nat → Int → Nat → Int
  | 0, lo, _ => lo
  | n + 1, lo, w => if p (lo + w) then highest p n (lo + w) (w / 2) else highest p n lo (w / 2)

/-- The highest temperature of a range, in 0.01 °C, of which a question holds that is true up to the sensor's temperature: the temperature rounded down, clamped to the
range, and whether it lay outside; `exact` says whether a temperature is the sensor's to the last digit. A result within ±0.01 °C is as accurate as R377 asks: which one it is
is a free value. DESIGN CHOICE (log entry 28). -/
def solved (below exact : Int → Bool) (lo hi : Int) (key : List Nat) : Int × Bool :=
  if !below lo then (lo, true)
  else if below (hi + 1) then (hi, true)
  else
    let t := highest (fun x => decide (x ≤ hi) && below x) 17 lo 65536
    let v := if exact t then t - 1 + (Config.free 50 key % 3 : Nat) else t + (Config.free 51 key % 2 : Nat)
    clampTo lo hi v

/-- The resistance of a platinum sensor over R₀, times 10²³, at a temperature in 0.01 °C (R388, IEC 60751). -/
def ptRatio (t : Int) : Int :=
  10 ^ 23 + 39083 * 10 ^ 14 * t - 5775 * 10 ^ 9 * t ^ 2 - (if t < 0 then 4183 * (t - 10000) * t ^ 3 else 0)

/-- The resistance of a nickel sensor over R₀, times 10³², at a temperature in 0.01 °C (R388). -/
def niRatio (t : Int) : Int :=
  10 ^ 32 + 5485 * 10 ^ 24 * t + 6650 * 10 ^ 19 * t ^ 2 + 2805 * 10 ^ 10 * t ^ 4 - 2000 * t ^ 6

/-- Terms of the series of the area hyperbolic tangent of a / b, in units of 2⁻⁶⁴: `k` is the odd number of the term, `x` the power so far. -/
def atanhTerms (a b : Nat) : Nat → Nat → Nat → Nat
  | 0, _, _ => 0
  | n + 1, k, x => x / k + atanhTerms a b n (k + 2) (x * a * a / (b * b))

/-- ln of a ratio between 1 and 2, in units of 2⁻⁶⁴. -/
def lnNear (a b : Nat) : Nat := 2 * atanhTerms (a - b) (a + b) 40 1 (2 ^ 64 * (a - b) / (a + b))

/-- ln of a ratio of positive numbers, in units of 2⁻⁶⁴, from its power of 2 and the rest between 1 and 2. -/
def lnRatio (a b : Nat) : Int :=
  let up := Nat.log2 a
  let down := Nat.log2 b
  let x := a * 2 ^ down
  let y := b * 2 ^ up
  let one : Int := lnNear 2 1
  if y ≤ x then ((up : Int) - down) * one + lnNear x y else ((up : Int) - down - 1) * one + lnNear (2 * x) y

/-- Absolute temperature in 0.01 K at a temperature in 0.01 °C. -/
def kelvin (t : Int) : Int := t + 27315

/-- NTC by β in 0.01 K (R388): whether a temperature is at or below the sensor's, where its resistance is `num / den` of that at 25 °C. -/
def betaBelow (beta num den : Nat) (t : Int) : Bool :=
  decide (lnRatio num den * (kelvin t * 29815) ≤ 2 ^ 64 * beta * (29815 - kelvin t))

/-- NTC by Steinhart and Hart (R388): whether a temperature is at or below the sensor's, from the coefficients over 2¹⁴⁹ and ln R in units of 2⁻⁶⁴. -/
def steinhartBelow (a b c l : Int) (t : Int) : Bool :=
  decide ((a * 2 ^ 192 + b * l * 2 ^ 128 + c * l ^ 3) * kelvin t ≤ 100 * 2 ^ 341)

end Sys2Proof.Machine
end

