-- ==== Sys2Proof/Machine/Housekeeping.lean ====
section
/-! DEFINITION. Sensors, bias and monitor outputs of the DF640 (R373 to R398). -/
namespace Sys2Proof.Machine

/-- Fields of an ENTRY_A word (R396). -/
def HkJob.input (j : HkJob) : Nat := fieldOf j.a 0 5
def HkJob.gain (j : HkJob) : Nat := fieldOf j.a 5 3
def HkJob.exc (j : HkJob) : Nat := fieldOf j.a 8 3
def HkJob.curve (j : HkJob) : Nat := fieldOf j.a 11 4
def HkJob.pset (j : HkJob) : Nat := fieldOf j.a 15 3
def HkJob.wire (j : HkJob) : Nat := fieldOf j.a 18 2
def HkJob.ow (j : HkJob) : Nat := fieldOf j.a 20 2
def HkJob.diag (j : HkJob) : Bool := fieldOf j.a 22 1 == 1
def HkJob.fast (j : HkJob) : Bool := fieldOf j.a 23 1 == 1
def HkJob.rate (j : HkJob) : Nat := fieldOf j.a 24 4

/-- Whether an ENTRY_A word is refused (R376, R377, R384, R387, R388). -/
def entryABad (a : Word) (lp : Bool) : Bool :=
  let j : HkJob := ⟨a, 0⟩
  decide (21 ≤ j.input ∨ 6 ≤ j.exc ∨ j.wire = 3 ∨ j.ow = 3 ∨ 10 ≤ j.rate)
    || (j.gain != 0 && (j.input == 8 || decide (10 ≤ j.input ∧ j.input ≤ 19)))
    || (j.diag && (j.exc != 0 || j.ow == 0))
    || (j.exc == 0 && (decide (2 ≤ j.curve ∧ j.curve ≤ 5) || j.curve == 9))
    || (j.exc != 0 && decide (6 ≤ j.curve ∧ j.curve ≤ 8))
    || decide (11 ≤ j.curve ∧ j.curve ≤ 14)
    || (lp && decide (6 < j.rate))

/-- Whether an ENTRY_B word is refused (R396). -/
def entryBBad (b : Word) : Bool := decide (40 ≤ fieldOf b 24 6)

/-- The descriptor of table entry `e`. -/
def Df.entry (d : Df) (e : Nat) : HkJob := ⟨d.word (DF.HK.ENTRY_A.addr e), d.word (DF.HK.ENTRY_B.addr e)⟩

/-- Whether table entry `e` is enabled. -/
def Df.entryOn (d : Df) (e : Nat) : Bool := d.fld (DF.HK.ENTRY_A.EN e) == 1

/-- A parameter word (R388). -/
def Df.param (d : Df) (k w : Nat) : Nat := (d.word (DF.HK.PARAM.addr k w)).toNat

/-- Differences of pairs, for the 3-wire form (R374). -/
def pairDiffs : List Int → List Int
  | a :: b :: t => (a - b) :: pairDiffs t
  | l => l

/-- Point `i` of user table `t` (R390). -/
def Df.upoint (d : Df) (t i : Nat) : Int × Int :=
  let w := d.word (DF.HK.UTAB.addr t i)
  (s16 (fieldOf w 0 16), s16 (fieldOf w 16 16))

/-- Interpolation in a user table: value and OVR (R390). -/
def Df.userTable (d : Df) (t : Nat) (code : Int) : Int × Bool :=
  let ps := (List.range 32).map fun i => d.upoint t i
  let broken := (ps.zip (ps.drop 1)).any fun x => !decide (x.1.1 < x.2.1)
  let seg := (ps.zip (ps.drop 1)).find? fun x => decide (x.1.1 ≤ code ∧ code ≤ x.2.1)
  let first := (d.upoint t 0)
  let last := (d.upoint t 31)
  if code < first.1 then (first.2, true)
  else if last.1 < code then (last.2, true)
  else match seg with
    | some (a, b) => (if b.1 ≤ a.1 then a.2 else nearestQ (a.2 * (b.1 - a.1) + (code - a.1) * (b.2 - a.2)) (b.1 - a.1).toNat, broken)
    | none => (last.2, true)

/-- A result usable under R389: VALID and none of OPEN, OVR, CLAMP, SETTLE and RECOVER. -/
def usableFlags (f : Nat) : Bool := f.testBit 0 && (f &&& 62) == 0

/-- The cold-junction value of an entry and whether it carries CJ; none when no result was ever usable (R389). -/
def Df.coldJunction (d : Df) (e : Nat) : Option Int × Bool :=
  if usableFlags (d.fld (DF.HK.RESULT.FLAGS e)) then (some (s16 (d.fld (DF.HK.RESULT.VALUE e))), false)
  else (FMap.get none d.hk.lastGood e, true)

/-- Excitation current in µA (R373). -/
def excMicroamps (e : Nat) : Nat := if e = 1 then 10 else if e = 2 then 100 else if e = 3 then 500 else 1000

/-- The resistance in mΩ that a code stands for, as a quotient (R374, R377): with current excitation V ÷ I, with ratiometric excitation R_ref × v ÷ (1 − v). -/
def HkJob.resistance (j : HkJob) (code : Int) (rref : Nat) : Int × Nat :=
  let full : Nat := 2 ^ j.gain * 32768
  if j.exc = 5 then (rref * code, ((full : Int) - code).toNat) else (code * 1250000000, full * excMicroamps j.exc)

/-- A free result of a curve of which the spec states none, with its OVR (R388). DESIGN CHOICE (log entry 29). -/
def unstated (curve : Nat) (code : Int) (ps : List Nat) : Int × Bool × Bool :=
  let v := clamp16 (signed 17 (Config.free curve ([code.toNat, (-code).toNat] ++ ps)))
  (v.1, v.2, false)

/-- The temperature of a resistance sensor (R388): curves 2 to 5, from the measured resistance and the parameter words. -/
def HkJob.sensor (j : HkJob) (code : Int) (ps : List Nat) : Int × Bool × Bool :=
  let r := j.resistance code (ps.getD 3 0)
  let key := [j.curve, code.toNat, (-code).toNat, j.gain, j.exc] ++ ps
  let r0 := ps.getD 0 0
  let out (x : Int × Bool) : Int × Bool × Bool := (x.1, x.2, false)
  if j.curve = 2 then
    if r0 = 0 then unstated j.curve code ps
    else out (solved (fun t => decide (ptRatio t * (r0 * r.2) ≤ r.1 * 10 ^ 23)) (fun t => decide (ptRatio t * (r0 * r.2) = r.1 * 10 ^ 23)) (-20000) 32767 key)
  else if j.curve = 3 then
    if r0 = 0 then unstated j.curve code ps
    else out (solved (fun t => decide (niRatio t * (r0 * r.2) ≤ r.1 * 10 ^ 32)) (fun t => decide (niRatio t * (r0 * r.2) = r.1 * 10 ^ 32)) (-6000) 18000 key)
  else if r.1 ≤ 0 then unstated j.curve code ps
  else if j.curve = 4 then
    if r0 = 0 ∨ ps.getD 1 0 = 0 then unstated j.curve code ps
    else out (solved (betaBelow (ps.getD 1 0) r.1.toNat (r0 * r.2)) (fun _ => false) (-27314) 32767 key)
  else
    match single149 r0, single149 (ps.getD 1 0), single149 (ps.getD 2 0) with
    | some a, some b, some c => out (solved (steinhartBelow a b c (lnRatio r.1.toNat (1000 * r.2))) (fun _ => false) (-27314) 32767 key)
    | _, _, _ => unstated j.curve code ps

/-- The temperature of a thermocouple (R388, R389): the EMF of the cold junction is added to the measured one, which is in nV / 2²², and the sum inverted. -/
def HkJob.thermocouple (j : HkJob) (code : Int) (cj : Int) (offset : Nat) : Int × Bool :=
  clamp16 (Config.tcTemperature j.curve (code * 1250000000 * 2 ^ (7 - j.gain) + Config.tcEmf j.curve cj) + signed 32 offset)

/-- The linearised value of a code: value, OVR, CJ (R388 to R390). DESIGN CHOICE (log entry 29). -/
def Df.linearise (d : Df) (j : HkJob) (code : Int) : Int × Bool × Bool :=
  let p (w : Nat) : Nat := d.param j.pset w
  let ps := [p 0, p 1, p 2, p 3]
  let g := 2 ^ j.gain
  let c16 (v : Int) : Int × Bool × Bool := ((clamp16 v).1, (clamp16 v).2, false)
  if j.input = 8 then c16 (Config.hkDie code)
  else if j.diag ∨ j.curve = 0 then (code, false, false)
  else if j.curve = 1 then
    if j.exc = 0 then unstated 1 code []
    else if j.exc = 5 then c16 (roundQ (code * 1000000) (g * 32768))
    else c16 (roundQ (code * 1250000000000) (g * 32768 * excMicroamps j.exc))
  else if j.curve = 9 then
    let c1 := s16 (bits (p 0) 0 16); let t1 := s16 (bits (p 0) 16 16)
    let c2 := s16 (bits (p 1) 0 16); let t2 := s16 (bits (p 1) 16 16)
    let num := (code - c1) * (t2 - t1) + t1 * (c2 - c1)
    if c2 = c1 then unstated 9 code [p 0, p 1]
    else if c1 < c2 then c16 (roundQ num (c2 - c1).toNat) else c16 (roundQ (-num) (c1 - c2).toNat)
  else if j.curve = 10 then
    match single149 (p 0), single149 (p 1) with
    | some a, some b => c16 (roundQ (a * code + b) (2 ^ 149))
    | _, _ => unstated 10 code [p 0, p 1]
  else if j.curve = 15 then
    let x := d.userTable (p 0 % 4) code
    (x.1, x.2, false)
  else if 6 ≤ j.curve then
    match d.coldJunction (p 0 % 32) with
    | (none, _) => (code, false, true)
    | (some cj, bad) => let v := j.thermocouple code cj (p 1); (v.1, v.2, bad)
  else j.sensor code ps

/-- Set or clear the OPEN bit of a port (R383, R384). -/
def Df.setOpen (d : Df) (port : Nat) (on : Bool) : Df :=
  let v := d.fld DF.HK.PORTS.OPEN
  d.set DF.HK.PORTS.OPEN (if on then v ||| 2 ^ port else v &&& (255 - 2 ^ port))

/-- Conversions that an entry averages, and how many it makes of them: twice as many in 3-wire form (R374, R379, R396). -/
def HkJob.repeats (j : HkJob) : Nat := fieldOf j.b 0 8 + 1
def HkJob.threeWire (j : HkJob) : Bool := decide (j.wire = 1 ∧ j.input < 8)

/-- The raw codes of an entry's conversions, clamped to full scale (R382), and those codes under the constants in force of the entry's gain, its offset in LSB and its gain error
in ppm (R386). How the constants correct a code is the model's. DESIGN CHOICE (log entry 131). -/
def HkJob.raw (j : HkJob) (codes wires : List Int) : List Int :=
  (List.range j.repeats).flatMap fun i => if j.threeWire then [codes.getD i 0, wires.getD i 0] else [codes.getD i 0]
def Df.corrected (d : Df) (j : HkJob) (c : Int) : Int :=
  match d.hk.cal[j.gain]? with
  | some k => (clamp16 (roundQ ((c - k.1) * 1000000) (1000000 + k.2).toNat)).1
  | none => c

/-- A conversion: the value and flags of its result, with the port's OPEN bit kept (R381 to R384). -/
def Df.convert (d : Df) (j : HkJob) (codes wires : List Int) (clamped settle inj : Bool) : Df × Int × Nat :=
  let raw := (j.raw codes wires).map fun c => d.corrected j (clamp16 c).1
  let vs := if j.threeWire then pairDiffs raw else raw
  let mean := clamp16 (roundQ (vs.foldl (· + ·) 0) vs.length)
  let port := decide (j.input < 8)
  let owOpen := port && j.ow != 0 && decide (32256 ≤ mean.1)
  let d := if j.diag && port then d.setOpen j.input (decide (29491 ≤ mean.1.natAbs)) else if owOpen then d.setOpen j.input true else d
  let isOpen := port && (d.fld DF.HK.PORTS.OPEN).testBit j.input
  let lin := d.linearise j mean.1
  let clamp := port && (clamped || FMap.get false d.hk.portClamp j.input)
  let ovr := ((j.raw codes wires).any fun c => (clamp16 c).2) || mean.2 || lin.2.1 || owOpen
  let f : Nat := 1 + 2 * isOpen.toNat + 4 * ovr.toNat + 8 * clamp.toNat + 16 * d.hk.recover.toNat + 32 * settle.toNat
    + 64 * lin.2.2.toNat + 128 * inj.toNat
  let r := d.fld DF.HK.CTRL.RECOVERY
  ({ d with hk := { d.hk with recover := ovr && r == 0, wait := if ovr then 10 * r else 0 } }, lin.1, f)

/-- Output period of a rate in µs (R377). -/
def hkPeriod (rate : Nat) : Nat := [100000, 50000, 20000, 10000, 4000, 2000, 1000, 500, 250, 125].getD rate 0

/-- The time that a slot takes in µs (R374, R379, R380, R382): the recovery before it, settling, the reference buffer in low-power mode, periods discarded after a change of
excitation, the conversions, the delay after. -/
def Df.slotTime (d : Df) (j : HkJob) (changed : Bool) : Nat :=
  d.hk.wait + 20 + 200 * d.fld DF.HK.CTRL.LP + (if changed && !j.fast then 3 * hkPeriod j.rate else 0)
    + (if j.threeWire then 2 else 1) * ((j.repeats + 2) * hkPeriod j.rate) + 10 * fieldOf j.b 8 16

/-- Take a slot's excitation and say whether it changed (R380). DESIGN CHOICE (log entry 134). -/
def Df.excite (d : Df) (j : HkJob) : Df × Bool :=
  let x := (j.exc, if j.exc = 0 then 0 else j.input)
  ({ d with hk := { d.hk with prevExc := x } }, decide (x ≠ d.hk.prevExc))

/-- Feed a valid source result of entry `e` to the bias groups that name it (R393). -/
def Df.feedBias (d : Df) (e : Nat) (v : Int) (f : Nat) : Df :=
  let j := d.entry e
  if usableFlags f && !f.testBit 6 && (j.input == 8 || decide (2 ≤ j.curve ∧ j.curve ≤ 9)) then
    (List.range 40).foldl (fun d g =>
      if d.fld (DF.BIAS.GROUP_A.SRC g) = e then
        let direct := FMap.get true d.hk.tfReload g
        let old := (FMap.get none d.hk.tf g).getD v
        let new := if direct then v else old + roundQ (v - old) (2 ^ d.fld DF.BIAS.CTRL.FILT)
        { d with hk := { d.hk with tf := d.hk.tf.put none g (some new), tfReload := d.hk.tfReload.put true g false, everValid := d.hk.everValid.put false g true } }
      else d) d
  else d

/-- Store the result of table entry `e` (R381) and pass it on. -/
def Df.storeResult (d : Df) (e : Nat) (v : Int) (f : Nat) : Df :=
  let d := (d.set (DF.HK.RESULT.VALUE e) (unsigned 16 v)).set (DF.HK.RESULT.FLAGS e) f
  let d := d.set (DF.HK.RESULT.COUNT e) (d.fld (DF.HK.RESULT.COUNT e) + 1)
  let d := if usableFlags f then { d with hk := { d.hk with lastGood := d.hk.lastGood.put none e (some v) } } else d
  d.feedBias e v f

/-- The next enabled entry in ascending order from an index, wrapping round (R378). -/
def Df.nextEnabled (d : Df) : Option Nat :=
  ((List.range 32).map fun i => (d.hk.nextEntry + i) % 32).find? fun e => d.entryOn e

/-- Run table entry `e` (R378 to R384). -/
def Df.runEntry (d : Df) (e : Nat) (codes wires : List Int) (clamped : Bool) : Df :=
  let j := d.entry e
  let x := d.excite j
  let time := d.slotTime j x.2
  let y := x.1.convert j codes wires clamped (x.2 && j.fast) false
  let d := (y.1.storeResult e y.2.1 y.2.2).set DF.HK.STATUS.ENTRY e
  let acc := d.hk.loopAcc + time
  let last := !(List.range 32).any fun i => decide (e < i) && d.entryOn i
  let d := { d with hk := { d.hk with nextEntry := (e + 1) % 32, loopAcc := if last then 0 else acc } }
  if last then d.set DF.HK.LOOP_TIME.T (min (roundQ acc 10).toNat (2 ^ 24 - 1)) else d

/-- Run the injected conversion of queue position `q` (R385). -/
def Df.runInjected (d : Df) (q : Nat) (j : HkJob) (codes wires : List Int) (clamped : Bool) : Df :=
  let x := d.excite j
  let time := d.slotTime j x.2
  let y := x.1.convert j codes wires clamped (x.2 && j.fast) true
  let d := (y.1.set (DF.HK.INJ_RESULT.VALUE q) (unsigned 16 y.2.1)).set (DF.HK.INJ_RESULT.FLAGS q) y.2.2
  let d := d.set (DF.HK.INJ_RESULT.COUNT q) (d.fld (DF.HK.INJ_RESULT.COUNT q) + 1)
  { d with hk := { d.hk with queue := d.hk.queue.drop 1, calAhead := d.hk.calAhead - 1, loopAcc := d.hk.loopAcc + time } }

/-- The time of a self-calibration in µs (R386): 16 points of 20 µs and 11 periods at 1 kHz, and in low-power mode the wake of the reference buffer. -/
def Df.calTime (d : Df) : Nat := d.hk.wait + 16 * (20 + 11 * hkPeriod 6) + 200 * d.fld DF.HK.CTRL.LP

/-- A requested calibration starts (R380, R386). -/
def Df.calStart (d : Df) : Df :=
  { d with hk := { d.hk with calReq := false, prevExc := (0, 0), wait := 0, loopAcc := d.hk.loopAcc + d.calTime } }.set DF.HK.STATUS.CAL_BUSY 1

/-- The sequencer runs its next slot: an injection, a requested calibration after the injections queued before the request, or a table entry (R378, R385, R386). -/
def Df.hkSlot (d : Df) (codes wires : List Int) (clamped : Bool) : Df :=
  if d.fld DF.HK.STATUS.CAL_BUSY = 1 then d
  else if d.hk.calReq ∧ d.hk.calAhead = 0 then d.calStart
  else
    match d.hk.queue with
    | (q, j) :: _ => d.runInjected q j codes wires clamped
    | [] =>
      if d.fld DF.HK.CTRL.EN = 0 then d
      else
        match d.nextEnabled with
        | none => d
        | some e => d.runEntry e codes wires clamped

/-- Request a self-calibration; a second request during one is ignored (R386). -/
def Df.hkCalRequest (d : Df) : Df :=
  if d.fld DF.HK.STATUS.CAL_BUSY = 1 ∨ d.hk.calReq then d else { d with hk := { d.hk with calReq := true, calAhead := d.hk.queue.length } }

/-- A calibration point fails with an offset above 1 % of full scale or a gain error above 2 % (R386). -/
def calPointOk (x : Int × Int) : Bool := decide (100 * x.1.natAbs ≤ 32768 ∧ x.2.natAbs ≤ 20000)

/-- The 16 points of the self-calibration are done (R386): at each of the eight gains the offset in LSB and the gain error in ppm. A calibration that is requested with nothing
ahead of it starts and ends. -/
def Df.hkCalDone (d : Df) (points : List (Int × Int)) : Df :=
  let d := if d.fld DF.HK.STATUS.CAL_BUSY = 0 ∧ d.hk.calReq ∧ d.hk.calAhead = 0 then d.calStart else d
  if d.fld DF.HK.STATUS.CAL_BUSY = 0 then d
  else
    let d := d.set DF.HK.STATUS.CAL_BUSY 0
    if points.all calPointOk then { d.set DF.HK.STATUS.CAL_DONE 1 with hk := { d.hk with cal := points } } else d.set DF.HK.STATUS.CAL_FAIL 1

/-- Queue an injected conversion, answering its queue position, or the status of its refusal (R385). -/
def Df.hkInject (d : Df) (a b : Word) : Df × Nat × Nat :=
  if entryABad a (d.fld DF.HK.CTRL.LP == 1) || entryBBad b then (d, 3, 0)
  else if 4 ≤ d.hk.queue.length then (d, 1, 0)
  else
    let q := d.hk.qNext
    ({ d with hk := { d.hk with queue := d.hk.queue ++ [(q, ⟨a, b⟩)], qNext := (q + 1) % 4 } }, 0, q)

/-- The clamp of a port pin starts or stops conducting (R375). -/
def Df.hkClamp (d : Df) (port : Nat) (on : Bool) : Df :=
  let d := { d with hk := { d.hk with portClamp := d.hk.portClamp.put false port on } }
  if on then d.set DF.HK.PORTS.CLAMP (d.fld DF.HK.PORTS.CLAMP ||| 2 ^ port) else d

/-- Whether bias group `g` is UNCOMP at an evaluation (R393). -/
def Df.uncomp (d : Df) (g : Nat) : Bool :=
  let e := d.fld (DF.BIAS.GROUP_A.SRC g)
  let j := d.entry e
  let f := d.fld (DF.HK.RESULT.FLAGS e)
  !FMap.get false d.hk.everValid g
    || !(usableFlags f && !f.testBit 6 && (j.input == 8 || decide (2 ≤ j.curve ∧ j.curve ≤ 9)))
    || (decide (j.input < 8) && (d.fld DF.HK.PORTS.OPEN).testBit j.input)
    || !d.entryOn e || d.fld DF.HK.CTRL.EN == 0

/-- The target of a group and its cause: BASE, or the loop's; none while it holds (R392, R393). -/
def Df.biasTarget (d : Df) (g : Nat) (unc : Bool) : Option (Nat × Nat × Bool) :=
  let base := d.fld (DF.BIAS.GROUP_A.BASE g)
  if d.fld (DF.BIAS.GROUP_A.LOOP g) = 0 ∨ (unc ∧ !FMap.get false d.hk.everValid g) then some (base, 0, false)
  else if unc then none
  else
    let t := (FMap.get none d.hk.tf g).getD 0
    let x := clampTo 0 4095 ((base : Int) + halfAway (s16 (d.fld (DF.BIAS.GROUP_B.K g)) * (t - s16 (d.fld (DF.BIAS.GROUP_B.TREF g)))) 1024)
    some (x.1.toNat, 1, x.2)

/-- Whether every channel of a bias group is OFF (R391, R392). -/
def Df.groupOff (d : Df) (g : Nat) : Bool := (List.range 16).all fun i => decide (d.mode (16 * g + i) = modeOff)

/-- Evaluate one bias group (R392, R393). -/
def Df.biasGroup (d : Df) (g : Nat) : Df :=
  let unc := d.uncomp g
  let d := d.set (DF.BIAS.TRIM.UNCOMP g) unc.toNat
  let d := if unc then { d with hk := { d.hk with tfReload := d.hk.tfReload.put true g true } } else d
  match d.biasTarget g unc with
  | none => d
  | some (t, cause, lim) =>
    let d := d.set (DF.BIAS.TRIM.TARGET g) t
    let d := if lim then d.set (DF.BIAS.TRIM.LIM g) 1 else d
    let code := d.fld (DF.BIAS.TRIM.CODE g)
    let gap := max t code - min t code
    let step := if d.groupOff g then gap else min gap (d.fld DF.BIAS.CTRL.STEP_MAX)
    if d.fld DF.BIAS.CTRL.DEADBAND ≤ gap ∧ (d.posUp 0 ∨ d.posUp 1) then
      { d with hk := { d.hk with steps := d.hk.steps.put none g (some (if code ≤ t then code + step else code - step, cause)) } }
    else d

/-- The next frame boundary whose number is a multiple of EVAL (R392). In SAFE the loop is not evaluated (R442). -/
def Df.biasEval (d : Df) : Df :=
  let ev := d.fld DF.BIAS.CTRL.EVAL
  let f := d.frame
  let due := if f % ev = 0 ∧ d.hk.biasAt ≠ some f then f else nextMul ev f
  let d := d.until (due * frameTicks)
  let d := { d with hk := { d.hk with biasAt := some due } }
  if d.state = dfSafe then d else (List.range 40).foldl (fun d g => d.biasGroup g) d

/-- Bias codes computed at an evaluation take effect at a boundary, while a lane position is up: group, new, previous, cause (R391, R392). -/
def Df.applyBias (d : Df) : Df × List (Nat × Nat × Nat × Nat) :=
  if d.posUp 0 || d.posUp 1 then
    let l := (List.range 40).filterMap fun g =>
      match FMap.get none d.hk.steps g with
      | some (c, cause) => if c = d.fld (DF.BIAS.TRIM.CODE g) then none else some (g, c, d.fld (DF.BIAS.TRIM.CODE g), cause)
      | none => none
    (l.foldl (fun d x => d.set (DF.BIAS.TRIM.CODE x.1) x.2.1) { d with hk := { d.hk with steps := [] } }, l)
  else ({ d with hk := { d.hk with steps := [] } }, [])

/-- Whether a monitor output must present its fault value (R395). -/
def Df.monFault (d : Df) (m age : Nat) : Bool :=
  let e := d.fld (DF.HK.MON_CFG.SRC m)
  let f := d.fld (DF.HK.RESULT.FLAGS e)
  let j := d.entry e
  let stale := d.fld (DF.HK.MON_CFG.STALE m)
  d.fld (DF.HK.MON_CFG.EN m) == 0 || d.fld DF.HK.CTRL.EN == 0 || !d.entryOn e
    || (f &&& 78) != 0
    || (decide (j.input < 8) && (d.fld DF.HK.PORTS.OPEN).testBit j.input)
    || (stale != 0 && decide (stale ≤ age))
    || (d.fld DF.HK.STATUS.CAL_FAIL == 1 && d.fld DF.HK.STATUS.CAL_DONE == 0)

/-- The level a monitor output presents for a filtered value (R394): DAC code, duty in 25 ns steps or frequency in Hz. -/
def Df.monLevel (d : Df) (m : Nat) (y : Int) : Nat :=
  let lo := s16 (d.fld (DF.HK.MON_SCALE.LO m))
  let hi := s16 (d.fld (DF.HK.MON_SCALE.HI m))
  let den := hi - lo
  let num := if 0 < den then y - lo else lo - y
  let dn := den.natAbs
  let num := (clampTo 0 dn num).1
  let mode := d.fld (DF.HK.MON_CFG.MODE m)
  (if mode = 0 then 410 + nearestQ (3276 * num) dn
   else if mode = 1 then 4000 + roundQ (32000 * num) dn
   else 1000 + roundQ (8000 * num) dn).toNat

/-- The fault value of a monitor output (R394). -/
def Df.monFaultLevel (d : Df) (m : Nat) : Nat :=
  let high := d.fld (DF.HK.MON_CFG.FAULT_HI m) = 1
  let mode := d.fld (DF.HK.MON_CFG.MODE m)
  if mode = 0 then (if high then 4095 else 0) else if mode = 1 then (if high then 40000 else 0) else if high then 10000 else 100

/-- Present the fault value. -/
def Df.monFail (d : Df) (m : Nat) : Df :=
  { d with hk := { d.hk with monOut := d.hk.monOut.put 0 m (d.monFaultLevel m), monY := d.hk.monY.put none m none,
                             monSeen := d.hk.monSeen.put 0 m (d.fld (DF.HK.RESULT.COUNT (d.fld (DF.HK.MON_CFG.SRC m)))) } }.set (DF.HK.MON_CFG.FAULT m) 1

/-- A monitor output updates; `age` is the time since the last new result of its source in 10 ms (R394, R395). DEDUCED (log entry 33). -/
def Df.monUpdate (d : Df) (m age : Nat) : Df :=
  let e := d.fld (DF.HK.MON_CFG.SRC m)
  if d.monFault m age then d.monFail m
  else
    let count := d.fld (DF.HK.RESULT.COUNT e)
    let fresh := count != FMap.get 0 d.hk.monSeen m && usableFlags (d.fld (DF.HK.RESULT.FLAGS e))
    let x := s16 (d.fld (DF.HK.RESULT.VALUE e))
    let y : Option Int := if fresh then
        (match FMap.get none d.hk.monY m with
         | none => some x
         | some y => some (y + roundQ (x - y) (2 ^ d.fld (DF.HK.MON_CFG.FILT m))))
      else FMap.get none d.hk.monY m
    match y with
    | none => d.monFail m
    | some v =>
      { d with hk := { d.hk with monY := d.hk.monY.put none m y, monSeen := d.hk.monSeen.put 0 m count,
                                 monOut := d.hk.monOut.put 0 m (d.monLevel m v) } }.set (DF.HK.MON_CFG.FAULT m) 0

end Sys2Proof.Machine
end

