-- ==== Sys2Proof/Machine/DcLink.lean ====
section
/-! DEFINITION. The DC64's ends of the Ibast lanes and downlinks: ladder states and decisions (R153 to R158), pattern test
(R159), markers and deskew (R149), the downlink's slots and frame markers (R145 to R147), and the acceptance of uplink
blocks (R144, R152). -/
namespace Sys2Proof.Machine

/-- Whether receiver 2n + j is in RUN. -/
def Dc.rxRun (d : Dc) (n j : Nat) : Bool := d.fld (DC.IBR.LANE.STATE n j) == 5

/-- Whether at least one receiver of the port is in RUN (R233). -/
def Dc.portRun (d : Dc) (n : Nat) : Bool := d.rxRun n 0 || d.rxRun n 1

/-- Whether the downlink of a port is in RUN. -/
def Dc.dnRun (d : Dc) (n : Nat) : Bool := d.fld (DC.IBR.STAT.DN_STATE n) == 5

/-- A DF640 becomes STALE (R234). -/
def Dc.staleNow (d : Dc) (n : Nat) : Dc := { d with trg := { d.trg with fresh := d.trg.fresh.filter (· != n) } }

/-- Put an uplink receiver into a ladder state at a rung (R153, R158): a departure from RUN is counted, and the receiver then
accepts the next block whatever its sequence (R144). `byCap`: the DC64 lowered the cap. -/
def Dc.rxTo (d : Dc) (n j st rung : Nat) (byCap : Bool := false) : Dc :=
  let left := d.rxRun n j && st != lRun
  let d := if left then d.inc (DC.IBR.LANE.RETRAINS n j) else d
  let d := ((d.set (DC.IBR.LANE.STATE n j) st).set (DC.IBR.LANE.RUNG n j) rung)
  let d := if st = lRun then d else d.set (DC.IBR.LANE.ASLEEP n j) 0
  let x := d.recv (2 * n + j)
  let d := if left then d.setRecv (2 * n + j) { x with lastSeq := none, crcRun := 0, missRun := 0, mark := none } else d
  if d.portRun n then d.setPort n { d.port n with outFrom := none }
  else
    let d := if left then d.staleNow n else d
    if left ∧ !byCap then d.setPort n { d.port n with outFrom := some d.now } else d

/-- Put a downlink into a ladder state at a rung. Frame words that were leaving are cut off when it leaves RUN (R414). -/
def Dc.dnTo (d : Dc) (n st rung : Nat) : Dc :=
  let left := d.dnRun n && st != lRun
  let d := (d.set (DC.IBR.STAT.DN_STATE n) st).set (DC.IBR.STAT.DN_RUNG n) rung
  if left then d.setPort n { d.port n with tx := [] } else d

/-- Decision codes of R155, with 4 for a direction that enters FAULT. -/
def decHold : Nat := 0
def decUp : Nat := 1
def decDown : Nat := 2
def decRun : Nat := 3
def decFault : Nat := 4

/-- The decision for a direction that has its verdict: `rung`, the cap, whether it passed and whether it has stepped down (R156). A
direction above a cap that was lowered steps down (log entry 24). -/
def decide1 (rung cap : Nat) (pass stepped : Bool) : Nat :=
  if pass then (if cap < rung then decDown else if rung < cap ∧ !stepped then decUp else decRun)
  else if 0 < rung then decDown else decFault

/-- The DC64's decision for uplink lane `j` of a port (R156): the lanes that train together pass together, except at rung 0. DEDUCED (log entry 35). -/
def Dc.upDecision (d : Dc) (n j : Nat) : Nat :=
  let t := (d.recv (2 * n + j)).train
  let p := (d.recv (2 * n + 1 - j)).train
  let ps := d.fld (DC.IBR.LANE.STATE n (1 - j))
  let rung := d.fld (DC.IBR.LANE.RUNG n j)
  let cap := d.fld (DC.IBR.CFG.UP_CAP n)
  let cap := if ps = lRun then min cap (d.fld (DC.IBR.LANE.RUNG n (1 - j))) else cap
  if t.verdict = 0 ∨ (training ps ∧ p.verdict = 0) then decHold
  else decide1 rung cap (t.verdict == 1 && (rung == 0 || !training ps || p.verdict == 1)) t.steppedDown

/-- The DC64's decision for the downlink of a port (R156). -/
def Dc.dnDecision (d : Dc) (n : Nat) : Nat :=
  let t := (d.port n).dn
  if t.verdict = 0 then decHold
  else decide1 (d.fld (DC.IBR.STAT.DN_RUNG n)) (d.fld (DC.IBR.CFG.DN_CAP n)) (t.verdict == 1) t.steppedDown

/-- Whether a direction of the port runs below its cap (R156). DEDUCED (log entry 36). -/
def Dc.noteDegraded (d : Dc) (n : Nat) : Dc :=
  let up (j : Nat) : Bool := d.rxRun n j && decide (d.fld (DC.IBR.LANE.RUNG n j) < d.fld (DC.IBR.CFG.UP_CAP n))
  let dn := d.dnRun n && decide (d.fld (DC.IBR.STAT.DN_RUNG n) < d.fld (DC.IBR.CFG.DN_CAP n))
  d.set (DC.IBR.STAT.DEGRADED n) (up 0 || up 1 || dn).toNat

/-- The uplink lane whose rung and decision the judge word carries: lane 0, unless lane 1 alone trains. DESIGN CHOICE (log entry 103). -/
def Dc.judgeLane (d : Dc) (n : Nat) : Nat :=
  if !training (d.fld (DC.IBR.LANE.STATE n 0)) && training (d.fld (DC.IBR.LANE.STATE n 1)) then 1 else 0

/-- The judge word of the DC64 on downlink `n` (R155). -/
def Dc.judge (d : Dc) (n : Nat) : Rec :=
  let a := (d.recv (2 * n)).train
  let b := (d.recv (2 * n + 1)).train
  let v := if a.verdict = 0 ∨ b.verdict = 0 then 0 else if a.verdict = 1 ∧ b.verdict = 1 then 1 else 2
  let j := d.judgeLane n
  judgeWord 1 (d.fld (DC.IBR.LANE.RUNG n j)) (d.fld (DC.IBR.STAT.DN_RUNG n)) v (d.upDecision n j % 4) (d.dnDecision n % 4) (a.errors + b.errors)

/-- A decision sent once more: how many judge slots in a row have carried it (R157). -/
def sentAgain (x : Nat × Nat) (dec : Nat) : Nat × Nat := if x.1 = dec then (dec, min 4 (x.2 + 1)) else (dec, 1)

/-- Whether a decision may take effect: it has been sent in four consecutive judge slots, or it is FAULT, which no judge word carries (R156, R157). DEDUCED (log entry 35). -/
def sentEnough (x : Nat × Nat) (dec : Nat) : Bool := dec == decFault || (x.1 == dec && decide (4 ≤ x.2))

/-- A judge slot of port `n` has gone out. -/
def Dc.noteJudge (d : Dc) (n : Nat) : Dc :=
  let p := d.port n
  d.setPort n { p with upDec := sentAgain p.upDec (d.upDecision n (d.judgeLane n)), dnDec := sentAgain p.dnDec (d.dnDecision n) }

/-- No downlink slot fits before the next frame marker. -/
def slotsGone : Nat := 981

/-- A downlink transmitter that enters LOCK (R145, R154): a pass begins with a frame period, and out of a state in which nothing is sent, or at a
new rung within a period, nothing more is sent before the next frame marker. -/
def Port.lock (p : Port) (old : Nat) (newRung : Bool) : Port :=
  let sends := training old || old == lRun
  let first := sends && p.slot == 0
  { p with slot := if first then 0 else if sends && !newRung then p.slot else slotsGone, pass := if first then some 0 else none, upDec := (0, 0), dnDec := (0, 0) }

/-- The ladder of a port starts: the downlink and the receivers enter LOCK at rung 0 (R153). -/
def Dc.startLadder (d : Dc) (n : Nat) : Dc :=
  let p := (d.port n).lock (d.fld (DC.IBR.STAT.DN_STATE n)) (decide (d.fld (DC.IBR.STAT.DN_RUNG n) ≠ 0))
  let d := ((d.rxTo n 0 lLock 0).rxTo n 1 lLock 0).dnTo n lLock 0
  let clear (d : Dc) (r : Nat) : Dc := d.setRecv r { d.recv r with train := {} }
  (clear (clear d (2 * n)) (2 * n + 1)).setPort n { d.port n with
    dn := {}, outFrom := none, asleep := false, slot := p.slot, pass := p.pass, upDec := (0, 0), dnDec := (0, 0) }

/-- The whole port enters TEST: its pattern generator and checkers start afresh (R159). -/
def Dc.portTestStart (d : Dc) (n : Nat) : Dc :=
  let d := d.setPort n { d.port n with gen := genStart (d.fld (DC.IBR.CFG.PAT n)), invert := false }
  [0, 1].foldl (fun (d : Dc) (j : Nat) =>
    d.setRecv (2 * n + j) { d.recv (2 * n + j) with check := { (d.recv (2 * n + j)).check with loop := none, flip := false } }) d

/-- The whole port goes to one state at its present rungs. -/
def Dc.portAll (d : Dc) (n st : Nat) : Dc :=
  ((d.rxTo n 0 st (d.fld (DC.IBR.LANE.RUNG n 0))).rxTo n 1 st (d.fld (DC.IBR.LANE.RUNG n 1))).dnTo n st (d.fld (DC.IBR.STAT.DN_RUNG n))

/-- `DC.IBR.CFG[n].EN` is written (R153, R159, R436): a port starts its ladder, or enters TEST, once the unit is in CLUSTER_UP or RUN. -/
def Dc.portEn (d : Dc) (n : Nat) (en : Bool) : Dc :=
  let was := d.fld (DC.IBR.CFG.EN n)
  let d := d.set (DC.IBR.CFG.EN n) en.toNat
  if !en then (if was = 1 then (d.portAll n lOff).setPort n { (d.portAll n lOff).port n with outFrom := none } else d)
  else if was = 1 ∨ !(d.state = dcClusterUp ∨ d.state = dcRun) then d
  else if d.fld (DC.IBR.CFG.TEST n) = 1 then (d.portAll n lTest).portTestStart n
  else d.startLadder n

/-- `DC.IBR.CFG[n].TEST` is written (R159). -/
def Dc.portTest (d : Dc) (n : Nat) (on : Bool) : Dc :=
  let was := d.fld (DC.IBR.CFG.TEST n)
  let d := d.set (DC.IBR.CFG.TEST n) on.toNat
  if d.fld (DC.IBR.CFG.EN n) = 0 ∨ was = on.toNat ∨ !(d.state = dcClusterUp ∨ d.state = dcRun) then d
  else if on then (d.portAll n lTest).portTestStart n
  else d.startLadder n

/-- A lane in RUN above the port's cap goes back to LOCK, one lane position at a time, and so does the downlink above its cap (R158). -/
def Dc.capRetrain (d : Dc) (n : Nat) : Dc :=
  let above (j : Nat) : Bool := d.rxRun n j && decide (d.fld (DC.IBR.CFG.UP_CAP n) < d.fld (DC.IBR.LANE.RUNG n j))
  let busy (j : Nat) : Bool := training (d.fld (DC.IBR.LANE.STATE n j))
  let d := if above 0 && !busy 1 then d.rxTo n 0 lLock (d.fld (DC.IBR.LANE.RUNG n 0)) true
    else if above 1 && !busy 0 then d.rxTo n 1 lLock (d.fld (DC.IBR.LANE.RUNG n 1)) true else d
  if d.dnRun n ∧ d.fld (DC.IBR.CFG.DN_CAP n) < d.fld (DC.IBR.STAT.DN_RUNG n) then d.dnTo n lLock (d.fld (DC.IBR.STAT.DN_RUNG n)) else d

/-- Whether a port's checkers hear its own downlink transmitter: in the near-end loop-backs (R159). -/
def Dc.looped (d : Dc) (n : Nat) : Bool := d.fld (DC.IBR.CFG.LOOP n) == 1 || d.fld (DC.IBR.CFG.LOOP n) == 2

/-- One transmitted bit of the port is inverted while it is in TEST, and where a loop-back leads it (R159). -/
def Dc.invertBit (d : Dc) (n : Nat) : Dc :=
  if d.fld (DC.IBR.STAT.DN_STATE n) = lTest then
    let d := d.setPort n { d.port n with invert := true }
    if d.looped n then
      [0, 1].foldl (fun (d : Dc) (j : Nat) => d.setRecv (2 * n + j) { d.recv (2 * n + j) with check := { (d.recv (2 * n + j)).check with flip := true } }) d
    else d
  else d

/-- The checker of receiver 2n + j takes 64 pattern bits (R159). -/
def Dc.patternCheck (d : Dc) (n j : Nat) (w : Rec) : Dc :=
  if d.fld (DC.IBR.LANE.STATE n j) ≠ lTest then d
  else
    let s := d.fld (DC.IBR.STAT.SYNC n)
    let c := (d.recv (2 * n + j)).check
    let h := if d.looped n then c.loopWord (d.fld (DC.IBR.CFG.PAT n)) else (w, c)
    let x := checkWord (d.fld (DC.IBR.CFG.PAT n)) h.2 (s.testBit j) h.1
    let d := d.setRecv (2 * n + j) { d.recv (2 * n + j) with check := x.1 }
    let d := d.add (DC.IBR.PRBS_ERR.COUNT n j) x.2.2.1
    let d := if s.testBit j then d.inc (DC.IBR.PRBS_WORDS.COUNT n j) else d
    let d := d.set (DC.IBR.STAT.SYNC n) (if x.2.1 then s ||| 2 ^ j else s &&& (3 - 2 ^ j))
    if x.2.2.2 then d.set (DC.IBR.STAT.SYNC_LOST n) (d.fld (DC.IBR.STAT.SYNC_LOST n) ||| 2 ^ j) else d

/-- Ticks of a marker period at a rung, rounded up (R157): 4,097 slots of 2,134 line bits. -/
def markerPeriod (rung : Nat) : Nat := (4097 * 2134 + 4 * 2 ^ rung - 1) / (4 * 2 ^ rung)

/-- Skew in whole ticks as the register shows it (R149, R164). -/
def skewCode (f : Int) : Nat := unsigned 8 (max (-127) (min 127 (roundQ f 1024)))

/-- Two markers belong to one pair when their stamps lie less than 65,536 ticks apart, a quarter of the shortest marker period. DESIGN CHOICE (log entry 37). -/
def markPair (a b : Nat) : Bool := decide (max a b - min a b < 65536 * 1024)

/-- A receiver stamps a marker at `f` in fine (R158, R167). -/
def Rx.stamp (x : Rx) (f count : Nat) : Rx :=
  { x with mark := some (f, count), marks := ((f, count) :: x.marks).take 512, missRun := 0, crcRun := 0 }

/-- Receiver 2n + j stamps a marker at `f` in fine (R149, R158, R167). -/
def Dc.marker (d : Dc) (n j : Nat) (word : Rec) (f : Nat) : Dc :=
  let st := d.fld (DC.IBR.LANE.STATE n j)
  if st = lOff ∨ st = lTest ∨ st = lFault ∨ rb word 56 8 ≠ 0x4D then d
  else
    let d := d.until (f / 1024)
    let d := d.setRecv (2 * n + j) ((d.recv (2 * n + j)).stamp f (rb word 28 24))
    match (d.recv (2 * n + 1 - j)).mark with
    | none => d
    | some o =>
      if markPair f o.1 ∧ d.fld (DC.IBR.LANE.ASLEEP n (1 - j)) = 0 then
        let s : Int := if j = 1 then (f : Int) - o.1 else (o.1 : Int) - f
        let d := d.set (DC.IBR.STAT.SKEW n) (skewCode s)
        if 32 * 1024 < s.natAbs then (d.set (DC.IBR.STAT.SKEW_OVER n) 1).setPort n { d.port n with skew := 0 }
        else d.setPort n { d.port n with skew := s }
      else d

/-- A marker is missed on receiver 2n + j; whether it is the second in a row of a lane in RUN (R158, R160). -/
def Dc.miss (d : Dc) (n j : Nat) : Dc × Bool :=
  if d.fld (DC.IBR.LANE.ASLEEP n j) = 1 ∨ !d.rxRun n j then (d, false)
  else
    let x := d.recv (2 * n + j)
    ((d.setRecv (2 * n + j) { x with missRun := x.missRun + 1 }).inc (DC.IBR.ERR.MARKER_MISS n j), decide (2 ≤ x.missRun + 1))

/-- Slots of a downlink frame period at a rung (R145). -/
def downSlots (rung : Nat) : Nat := if rung = 0 then 245 else if rung = 1 then 490 else 981

/-- The line bits of the `k`-th train slot of a downlink pass (R154). -/
def downTrainCoded (k : Nat) : List Bool := fillTo 534 (stuff (prbsBits 31 28 512 (prbsSkip 31 28 (512 * k) (2 ^ 31 - 1))))

/-- The last block of the outstanding command frame of a port has left (R414). -/
def Dc.frameLeft (d : Dc) (n : Nat) : Dc :=
  let q := FMap.get {} d.abs.fwd n
  match q.out with
  | some o => { d with abs := { d.abs with fwd := FMap.put {} d.abs.fwd n { q with out := some { o with sentAt := d.now, leaving := false } } } }
  | none => d

/-- Coded bits of a frame period at a rung (R145). -/
def periodBits (rung : Nat) : Nat := 131072 * 2 ^ rung

/-- The fill bits between the last slot of a frame period and its end, after the last coded bit `b` (R139, R145). -/
def spareBits (rung markBits : Nat) (b : Bool) : List Bool := fillBits (periodBits rung - markBits - 534 * downSlots rung) b

/-- One downlink slot goes out; after the last one of the period come its fill bits (R145). -/
def Dc.sendDown (d : Dc) (n : Nat) (coded : List Bool) : Dc :=
  let rung := d.fld (DC.IBR.STAT.DN_RUNG n)
  let p := d.port n
  let line := if p.slot + 1 = downSlots rung then coded ++ spareBits rung p.markBits (coded.getLast?.getD false) else coded
  (d.setPort n { p with slot := p.slot + 1 }).emit (.down n (repeatBits (downRepeat rung) line))

/-- A port in TEST sends as many raw bits of its pattern on the downlink as a slot has; in a far-end loop-back its partner sends (R159). DESIGN CHOICE (log entry 101). -/
def Dc.patternSend (d : Dc) (n : Nat) : Dc :=
  let p := d.port n
  let y := patternBits (d.fld (DC.IBR.CFG.PAT n)) 534 p.gen p.invert
  (d.setPort n { p with gen := y.2, invert := false }).emit (.pattern n y.1)

/-- Whether the downlink carries judge slots in RUN: while an uplink lane of the port trains (R140, R155). DEDUCED (log entry 102). -/
def Dc.judges (d : Dc) (n : Nat) : Bool := training (d.fld (DC.IBR.LANE.STATE n 0)) || training (d.fld (DC.IBR.LANE.STATE n 1))

/-- A judge slot goes out on downlink `n` (R155, R157). -/
def Dc.sendJudge (d : Dc) (n : Nat) : Dc := (d.sendDown n (downCoded (d.port n).slot (plainSlot 8 (d.judge n)))).noteJudge n

/-- The DC64 sends one downlink slot on port `n` (R145, R147, R154): a block, an idle slot or a judge slot in RUN, a train or judge slot in
training. -/
def Dc.downSlot (d : Dc) (n : Nat) : Dc :=
  let st := d.fld (DC.IBR.STAT.DN_STATE n)
  let rung := d.fld (DC.IBR.STAT.DN_RUNG n)
  let p := d.port n
  if st = lTest then d.patternSend n
  else if downSlots rung ≤ p.slot then d
  else if st = lRun then
    if p.tx.isEmpty then (if d.judges n then d.sendJudge n else d.sendDown n (downCoded p.slot (plainSlot 8 idleWord)))
    else
      let d := d.sendDown n (downCoded p.slot (makeDownBlock n p.seq (p.tx.take 6)))
      let d := d.setPort n { d.port n with tx := p.tx.drop 6, seq := (p.seq + 1) % 2 ^ 24 }
      if (p.tx.drop 6).isEmpty then d.frameLeft n else d
  else if training st then
    match p.pass with
    | some k =>
      if k < 2048 then let d := d.sendDown n (downTrainCoded k); d.setPort n { d.port n with pass := some (k + 1) } else d.sendJudge n
    | none => d.sendJudge n
  else d

/-- The frame marker of the frame that begins goes out on every downlink that sends (R146, R168); a training pass that is due begins (R154). -/
def Dc.frameMarkers (d : Dc) (frame : Nat) : Dc :=
  (List.range 64).foldl (fun (d : Dc) (n : Nat) =>
    let st := d.fld (DC.IBR.STAT.DN_STATE n)
    if st = lRun ∨ training st then
      let p := d.port n
      let m := frameMarkerCoded (frameMarkerWord frame d.epoch)
      let pass := match p.pass with | some k => if 2048 ≤ k then some 0 else some k | none => some 0
      let d := d.setPort n { p with slot := 0, pass := pass, markBits := m.length }
      d.emit (.down n (repeatBits (downRepeat (d.fld (DC.IBR.STAT.DN_RUNG n))) m))
    else d) d

/-- What came of a slot received in RUN: nothing further, a lane that must retrain for its CRC failures, or an accepted block. -/
inductive RxOut
  | none
  | retrain
  | block (words : List Rec)
  deriving DecidableEq, Repr

/-- HIT records in a payload: the word after the first word of an INJECT_SCHEDULE mark is its second word, whatever it holds (R124). -/
def hitCount : List Rec → Nat
  | [] => 0
  | w :: t =>
    if kindOf w = 3 ∧ subOf w = 4 then
      match t with
      | [] => 0
      | _ :: u => hitCount u
    else hitCount t + (kindOf w == 1).toNat

/-- The payload words of a block. -/
def payloadOf (ws : List Rec) : List Rec := (ws.drop 1).take 30

/-- Losses found at a block accepted after a gap (R152), on port `n`. -/
def Dc.lostInTransit (d : Dc) (n : Nat) (x : Rx) (seq total hits : Nat) : Dc :=
  match x.lastSeq with
  | none => if x.ever then d.setLport n { d.lport n with restarted := true } else d
  | some s =>
    let g := (seq + 2 ^ 24 - s - 1) % 2 ^ 24
    if g = 0 then d
    else
      let lost := (total + 2 * 2 ^ 32 - hits - x.lastTotal) % 2 ^ 32
      if 30 * g < lost then d.ledgerFault n else (d.addAcct n 8 g).addAcct n 9 lost

/-- Receiver 2n + j takes the `k`-th slot after a marker (R138, R140, R144, R152); `l` is the physical lane. -/
def Dc.rxSlot (d : Dc) (n j l k : Nat) (line : List Bool) : Dc × RxOut :=
  if d.fld (DC.IBR.CFG.EN n) = 0 ∨ !d.rxRun n j then (d, .none)
  else
    match upWords l k line with
    | none => (d.inc (DC.IBR.ERR.STUFF n j), .none)
    | some ws =>
      let h := ws.getD 0 0
      let x := d.recv (2 * n + j)
      if h = idleWord then (d, .none)
      else if h = sleepWord then (d.set (DC.IBR.LANE.ASLEEP n j) 1, .none)
      else if h = wakeWord then (d.set (DC.IBR.LANE.ASLEEP n j) 0, .none)
      else if rb h 48 16 = 0xA7E5 then (d, .none)
      else if d.fld (DC.IBR.LANE.ASLEEP n j) = 1 then (d, .none)
      else if !blockCrcOk n j ws then
        ((d.inc (DC.IBR.ERR.CRC n j)).setRecv (2 * n + j) { x with crcRun := x.crcRun + 1 }, if 64 ≤ x.crcRun + 1 then .retrain else .none)
      else if x.lastSeq.any (fun s => !newer (rb h 32 24) s) then (d.inc (DC.IBR.LANE.ORDER n j), .none)
      else
        let total := rb (ws.getD 31 0) 32 32
        let d := d.lostInTransit n x (rb h 32 24) total (hitCount (payloadOf ws))
        (d.setRecv (2 * n + j) { x with lastSeq := some (rb h 32 24), lastTotal := total, ever := true }, .block ws)

/-- Arrival time in fine of a block whose first bit crossed the ball of receiver 2n + j at `f` (R149, R194). -/
def Dc.arrival (d : Dc) (n j f : Nat) : Nat :=
  let s := (d.port n).skew
  if d.rxRun n 0 && d.rxRun n 1 then
    if j = 0 ∧ 0 < s then f + s.toNat else if j = 1 ∧ s < 0 then f + (-s).toNat else f
  else f

end Sys2Proof.Machine
end

