-- ==== Sys2Proof/Machine/DcTimeOps.lean ====
section
/-! DEFINITION. Time of the DC64: epoch set (R166), two-way alignment (R172, R173), PTP messages and delays (R177 to R180), the
servo and its segments (R181 to R185), PPS (R187, R188). Times of the network are in units of 2⁻¹⁰ ps. -/
namespace Sys2Proof.Machine

/-- Codes of the servo states (R181). -/
def svUnsync : Nat := 0
def svTrack : Nat := 1
def svHoldover : Nat := 2
def svDiscont : Nat := 3
def svSlew : Nat := 4

/-- Units of 2⁻¹⁰ ps in a nanosecond and in a second (R183). -/
def unitsNs : Nat := 1024000
def unitsSec : Nat := 1024000 * 1000000000

/-- Ticks in a second and in a millisecond (R5). -/
def ticksSec : Nat := 320000000
def ticksMs : Nat := 320000
def ticksUs : Nat := 320

/-- The servo's state. -/
def Dc.servo (d : Dc) : Nat := d.fld DC.TIME.STATUS.STATE

/-- Enter a servo state: each flag is set exactly in its state (R181). -/
def Dc.enterServo (d : Dc) (st : Nat) : Dc :=
  ((((d.set DC.TIME.STATUS.STATE st).set DC.TIME.STATUS.DT_UNSYNC (st == svUnsync).toNat).set DC.TIME.STATUS.HOLDOVER (st == svHoldover).toNat).set
    DC.TIME.STATUS.DISCONT (st == svDiscont).toNat).set DC.TIME.STATUS.SLEWING (st == svSlew).toNat

/-- The steering in force, in 10⁻¹². -/
def Dc.steer (d : Dc) : Int := s32 (d.fld DC.TIME.STEER.RATIO)

/-- The last rate (R181, R445): the mean steering of the last 64 updates, of those there were when they are fewer, nominal when there was none. DESIGN
CHOICE (log entry 106). -/
def Dc.lastRate (d : Dc) : Int :=
  if d.tim.rates.isEmpty then 0 else roundQ (d.tim.rates.foldl (· + ·) 0) d.tim.rates.length

/-- Hold the steering at the last rate, from which the loop goes on. -/
def Dc.holdRate (d : Dc) : Dc := let r := d.lastRate; { d with tim := { d.tim with held := r, want := r, integ := r * 1000000000000 } }

/-- Segments opened since reset. -/
def Dc.opened (d : Dc) : Nat := d.fld DC.TIME.SEG_COUNT.OPENED

/-- The newest of the ring's segments, from the `k`-th opened downwards, that begins at or before a tick (R183). -/
def segSearch (ring : FMap (Option Seg)) (tick : Nat) : Nat → Nat → Option Seg
  | 0, _ => none
  | fuel + 1, k =>
    match FMap.get none ring (k % 256) with
    | some s => if s.d0 ≤ tick then some s else (if k = 0 then none else segSearch ring tick fuel (k - 1))
    | none => none

/-- The segment in force for a DT tick (R183). -/
def Dc.segAt (d : Dc) (tick : Nat) : Option Seg := if d.opened = 0 then none else segSearch d.tim.segs tick 256 (d.opened - 1)

/-- The mapping of R183: PTP seconds, nanoseconds and sub-nanoseconds of a DT under a segment. -/
def mapDt (tick fine : Nat) (s : Seg) : Nat × Nat × Nat :=
  let q := (tick - s.d0) * 3200000 + fine * 3125 + s.sub
  let ns := s.ns + q / 1024000
  (s.sec + ns / 1000000000, ns % 1000000000, q % 1024000)

/-- The mapped time of a DT in fine, in units. -/
def mapUnits (f : Nat) (s : Seg) : Nat :=
  let m := mapDt (f / 1024) (f % 1024) s
  m.1 * unitsSec + m.2.1 * unitsNs + m.2.2

/-- Open a segment in the ring (R183). -/
def Dc.openSegment (d : Dc) (s : Seg) : Dc :=
  let i := d.opened % 256
  let d := if (FMap.get none d.tim.segs i).isSome then (d.inc DC.TIME.SEG_COUNT.WRAPS).set DC.TIME.STATUS.SEG_WRAP 1 else d
  let d := { d with tim := { d.tim with segs := FMap.put none d.tim.segs i (some s), openSeg := none } }
  d.set DC.TIME.SEG_COUNT.OPENED ((d.opened + 1) % 2 ^ 24)

/-- A segment at the next frame boundary whose time there is `units` (R182, R184). -/
def Dc.planSegment (d : Dc) (units : Int) (cause master : Nat) : Dc :=
  let u := units.toNat
  let s : Seg := { d0 := nextMul frameTicks d.now, sec := u / unitsSec % 2 ^ 48, ns := u % unitsSec / unitsNs, sub := u % unitsNs, cause := cause, master := master }
  { d with tim := { d.tim with openSeg := some s } }

/-- An offset in whole nanoseconds, saturating at 32 bits (R190, R422). -/
def offsetNs (e : Int) : Nat := unsigned 32 (max (-(2 ^ 31)) (min (2 ^ 31 - 1) (roundQ e unitsNs)))

/-- Ticks of a master's announce interval (R177, R185). -/
def announceTicks (l : Int) : Nat := if 0 ≤ l then ticksSec * 2 ^ l.toNat else ticksSec / 2 ^ (-l).toNat

/-- What is known of a table entry's master. -/
def Dc.master (d : Dc) (m : Nat) : Master := FMap.get {} d.tim.masters m

/-- Announce intervals of a master that have passed at the present DT, counted on a grid from DT 0. DESIGN CHOICE (log entry 107). -/
def Dc.intervals (d : Dc) (m : Nat) : Nat := d.now / max 1 (announceTicks (d.master m).logAnnounce)

/-- STEP_LIMIT in units. -/
def Dc.stepLimit (d : Dc) : Int := d.fld DC.TIME.CTRL.STEP_LIMIT * unitsNs

/-- The limits of the steering, in 10⁻¹² (R182). -/
def clampPpm (w : Int) : Int := max (-200000000) (min 200000000 w)

/-- The proportional part of the PI loop for an offset `e`, in 10⁻¹²: 2 × 0.7 × e divided by the time constant 2^`bw` s (R182). DEDUCED (log entry 108). -/
def loopPart (e : Int) (bw : Nat) : Int := roundQ (e * 14) (10240 * 2 ^ bw)

/-- What an offset `e` that stood for `df` fine adds to the integral of the PI loop, in 10⁻²⁴: e × the time, divided by the square of the time constant (R182). -/
def loopSum (e : Int) (df bw : Nat) : Int := roundQ (e * (df * 3125 : Nat)) (1048576 * 4 ^ bw)

/-- One update of the loop with an offset and its stamp (R182): the rate between the first two offsets, then the PI loop;
in SLEW within the held rate ± SLEW_MAX. -/
def Dc.servoUpdate (d : Dc) (e : Int) (f : Nat) : Dc :=
  let bw := d.fld DC.TIME.CTRL.BW
  let first := match d.tim.prev with | some p => if d.tim.rates.isEmpty ∧ p.2 < f then some (roundQ ((e - p.1) * 1000000000000) ((f - p.2) * 3125)) else none | none => none
  let df := match d.tim.prev with | some p => f - p.2 | none => 0
  let sum := match first with
    | some w => clampPpm w * 1000000000000
    | none => max (-200000000 * 1000000000000) (min (200000000 * 1000000000000) (d.tim.integ + loopSum e df bw))
  let w := match first with | some w => w | none => roundQ sum 1000000000000 + loopPart e bw
  let m : Int := d.fld DC.TIME.CTRL.SLEW_MAX * 1000000
  let w := if d.servo = svSlew then max (d.tim.held - m) (min (d.tim.held + m) w) else w
  { d with tim := { d.tim with want := w, integ := sum, prev := some (e, f), rates := (d.steer :: d.tim.rates).take 64 } }

/-- The servo enters HOLDOVER; in UNSYNC it stays there (R185). -/
def Dc.holdover (d : Dc) (master : Nat) : Dc :=
  let d := d.set DC.TIME.STATUS.MASTER master
  if d.servo = svUnsync then d
  else
    let d := if d.servo = svDiscont ∨ d.servo = svHoldover then d else d.holdRate
    ({ d with tim := { d.tim with want := d.tim.held } }.enterServo svHoldover).notify 0x0003 (if master = 0x1F then 0xFFFFFFFF else master)

/-- An offset beyond STEP_LIMIT from a state that follows the master (R184, R185). -/
def Dc.discont (d : Dc) (m : Nat) (e : Int) : Dc :=
  let d := if d.servo = svHoldover then d else d.holdRate
  let d := { d with tim := { d.tim with e0 := e, m0 := m, i0 := d.intervals m, want := d.tim.held } }
  (d.enterServo svDiscont).notify 0x0001 (offsetNs e)

/-- An offset `e` of the chosen master's Sync, received at `f` in fine (R181 to R185). DEDUCED (log entry 40). -/
def Dc.onOffset (d : Dc) (m : Nat) (e : Int) (f : Nat) : Dc :=
  let d := d.set DC.TIME.OFFSET.E (offsetNs e)
  let small := decide ((e.natAbs : Int) ≤ d.stepLimit)
  if d.servo = svTrack then (if small then d.servoUpdate e f else d.discont m e)
  else if d.servo = svHoldover then (if small then (d.enterServo svTrack).servoUpdate e f else d.discont m e)
  else if d.servo = svSlew then (if small then (d.enterServo svTrack).servoUpdate e f else d.servoUpdate e f)
  else if d.servo = svDiscont then
    if m ≠ d.tim.m0 then d
    else if small then (d.enterServo svTrack).servoUpdate e f
    else if d.stepLimit < ((e - d.tim.e0).natAbs : Int) then { d with tim := { d.tim with e0 := e, i0 := d.intervals m } }
    else if d.tim.i0 + d.fld DC.TIME.CTRL.CONFIRM ≤ d.intervals m then
      let d := if d.fld DC.TIME.CTRL.NEWSEG_EN = 1 then
          match d.segAt d.now with
          | some s => (d.planSegment (mapUnits (nextMul frameTicks d.now * 1024) s + e) 1 m).enterServo svTrack
          | none => d.enterServo svTrack
        else d.enterServo svSlew
      d.notify 0x0002 (offsetNs e)
    else d
  else d

/-- The table entry a message's source matches (R178). -/
def Dc.masterEntry (d : Dc) (msg : PtpMsg) : Option Nat :=
  (List.range 16).find? fun i =>
    d.fld (DC.PTP.MSEL.EN i) == 1 && d.fld (DC.PTP.MID_LO.ID i) + 2 ^ 32 * d.fld (DC.PTP.MID_HI.ID i) == msg.clockId
      && (d.fld (DC.PTP.MSEL.PORT i) == 0xFFFF || d.fld (DC.PTP.MSEL.PORT i) == msg.portNumber)

/-- The IPv4 group of PTP, 224.0.1.129 (R177). -/
def ptpGroup : Nat := 0xE0000181

/-- Whether a PTP message came over the transport chosen for the port, to an address of R177: 224.0.1.129 or the service address, or the two group
addresses of IEEE 802.3. -/
def Dc.ptpTo (d : Dc) (port : Nat) (via : PtpVia) : Bool :=
  match via with
  | .udp ip => !(d.fld DC.PTP.CFG.L2).testBit port && (ip == ptpGroup || ip == d.fld DC.ABS.SVC_IP.ADDR)
  | .ether mac => (d.fld DC.PTP.CFG.L2).testBit port && (mac == 0x011B19000000 || mac == 0x0180C200000E)

/-- Whether a port takes a PTP message before its sender is looked at (R177, R178); PTP stays off in LIMP (R348). -/
def Dc.ptpHears (d : Dc) (port : Nat) (msg : PtpMsg) : Bool :=
  d.state != dcLimp && (d.fld DC.PTP.CFG.EN).testBit port && msg.domain == d.fld DC.PTP.CFG.DOMAIN && d.ptpTo port msg.via

/-- A PTP message passes address filtering and then bucket B (R400, R401). -/
def Dc.ptpArrives (d : Dc) (port : Nat) (msg : PtpMsg) : Dc × Bool :=
  match msg.via with
  | .udp ip =>
    if ip = ptpGroup ∨ ip = d.fld DC.ABS.SVC_IP.ADDR ∨ ip = d.fld DC.ABS.UNIT_IP.ADDR then d.bucket port 1 else (d.inc (DC.ABS.STRANGER.COUNT 3), false)
  | .ether _ => d.bucket port 1

/-- A PTP message passes the bucket and the checks of R178, or counts as stranger traffic; so does one whose interval lies outside `lo` to `hi`. DESIGN CHOICE
(log entry 109). -/
def Dc.ptpAccept (d : Dc) (port : Nat) (msg : PtpMsg) (lo hi : Int) : Dc × Option Nat :=
  let x := d.ptpArrives port msg
  if !x.2 then (x.1, none)
  else if d.ptpHears port msg ∧ lo ≤ msg.logInterval ∧ msg.logInterval ≤ hi then
    match d.masterEntry msg with
    | some i => (x.1, some i)
    | none => (x.1.inc (DC.ABS.STRANGER.COUNT 5), none)
  else (x.1.inc (DC.ABS.STRANGER.COUNT 5), none)

/-- A receive stamp moved to the port's balls, in fine (R179). -/
def Dc.rxStamp (d : Dc) (port f : Nat) : Nat := f - d.fld (DC.PTP.RX_LAT.FINE port)

/-- A transmit stamp moved to the port's balls, in fine (R179). -/
def Dc.txStamp (d : Dc) (port f : Nat) : Nat := f + d.fld (DC.PTP.TX_LAT.FINE port)

/-- The path delay of a port, once one is known. -/
def Dc.pathDelay (d : Dc) (port : Nat) : Option Int := FMap.get none d.tim.delay port

/-- The delay asymmetry of a port in units (R179). -/
def Dc.asymUnits (d : Dc) (port : Nat) : Int := 1024 * s32 (d.fld (DC.PTP.NET_ASYM.PS port))

/-- The master's time `t1` of a sync event received at `f`: the first step, or an offset (R181, R182). -/
def Dc.useSync (d : Dc) (port m f : Nat) (t1 : Int) : Dc :=
  if d.fld DC.TIME.STATUS.MASTER ≠ m then d
  else
    let d := { d with tim := { d.tim with sync := FMap.put none d.tim.sync port (some (t1, f)) } }
    match d.pathDelay port with
    | none => d
    | some pd =>
      let there := t1 + pd + d.asymUnits port
      if d.servo = svUnsync then
        if d.tim.openSeg.isSome then d
        else
          let b := nextMul frameTicks d.now
          { (d.planSegment (there + ((b * 1024 : Nat) - (f : Int)) * 3125) 0 m) with tim := { (d.planSegment (there + ((b * 1024 : Nat) - (f : Int)) * 3125) 0 m).tim with prev := some (0, f), rates := [] } }
      else
        match d.segAt (f / 1024) with
        | some s => d.onOffset m (there - mapUnits f s) f
        | none => d

/-- The master's last message is noted (R185). -/
def Dc.heardMaster (d : Dc) (m port sender : Nat) : Dc :=
  { d with tim := { d.tim with masters := FMap.put {} d.tim.masters m { d.master m with last := d.now, port := port, sender := sender } } }

/-- The intervals that a slave port supports (R177): Sync, Announce, and any for messages that carry none. -/
def syncLow : Int := -7
def syncHigh : Int := 1
def announceLow : Int := -3
def announceHigh : Int := 4
def anyLow : Int := -128
def anyHigh : Int := 127

/-- A Sync arrives (R177, R179, R184). A two-step Sync waits for its Follow_Up. Only the ACTIVE unit runs the servo (R177). -/
def Dc.ptpSync (d : Dc) (port : Nat) (msg : PtpMsg) : Dc :=
  let d := d.until (msg.stamp / 1024)
  match d.ptpAccept port msg syncLow syncHigh with
  | (d, none) => d
  | (d, some m) =>
    if !d.active then d
    else
      let d := d.heardMaster m port msg.portNumber
      let f := d.rxStamp port msg.stamp
      if msg.twoStep then
        { d with tim := { d.tim with twoStep := FMap.put none d.tim.twoStep port (some ⟨port, m, msg.sequence, f, msg.correction⟩) } }
      else d.useSync port m f (msg.origin + msg.correction)

/-- A Follow_Up of a two-step master arrives (R177). -/
def Dc.ptpFollowUp (d : Dc) (port : Nat) (msg : PtpMsg) : Dc :=
  match d.ptpAccept port msg anyLow anyHigh with
  | (d, none) => d
  | (d, some m) =>
    match FMap.get none d.tim.twoStep port with
    | some t =>
      if t.entry = m ∧ t.sequence = msg.sequence then
        let d := { d with tim := { d.tim with twoStep := FMap.put none d.tim.twoStep port none } }
        d.useSync port m t.stamp (msg.origin + t.correction + msg.correction)
      else d
    | none => d

/-- Lexicographic order of lists of numbers. -/
def listLt : List Nat → List Nat → Bool
  | a :: s, b :: t => decide (a < b) || (a == b && listLt s t)
  | [], _ :: _ => true
  | _, [] => false

/-- The rank of a data set under IEEE 1588-2019 clause 9.3.4, lower being better (R178): the grandmaster's attributes, the steps removed, the identity
of the sender and the receiving port. -/
def rank (s : Dataset) (clockId sender port : Nat) : List Nat :=
  [s.priority1, s.clockClass, s.accuracy, s.variance, s.priority2, s.grandmaster, s.stepsRemoved, clockId, sender, port]

/-- The rank of the master of a table entry. -/
def Dc.masterRank (d : Dc) (i : Nat) (s : Dataset) : List Nat :=
  rank s (d.fld (DC.PTP.MID_LO.ID i) + 2 ^ 32 * d.fld (DC.PTP.MID_HI.ID i)) (d.master i).sender (d.master i).port

/-- The best of the masters of enabled entries whose Announce is held (R178). -/
def Dc.bestMaster (d : Dc) : Option Nat :=
  (List.range 16).foldl (fun (b : Option Nat) (i : Nat) =>
    match (d.master i).ds with
    | none => b
    | some s =>
      if d.fld (DC.PTP.MSEL.EN i) = 0 then b
      else
        match b with
        | none => some i
        | some j => match (d.master j).ds with
          | some t => if listLt (d.masterRank i s) (d.masterRank j t) then some i else some j
          | none => some i) none

/-- The chosen master follows the comparison; a change sends the servo to HOLDOVER (R185). -/
def Dc.chooseMaster (d : Dc) : Dc :=
  let now := d.fld DC.TIME.STATUS.MASTER
  match d.bestMaster with
  | none => d
  | some b => if b = now then d else if now = 0x1F then d.set DC.TIME.STATUS.MASTER b else d.holdover b

/-- An Announce arrives (R178, R185). -/
def Dc.ptpAnnounce (d : Dc) (port : Nat) (msg : PtpMsg) (ds : Dataset) : Dc :=
  let d := d.until (msg.stamp / 1024)
  match d.ptpAccept port msg announceLow announceHigh with
  | (d, none) => d
  | (d, some m) =>
    if !d.active then d
    else
      let d := d.heardMaster m port msg.portNumber
      { d with tim := { d.tim with masters := FMap.put {} d.tim.masters m { d.master m with ds := some ds, logAnnounce := msg.logInterval } } }.chooseMaster

/-- No message of the master has arrived for 3 of its announce intervals (R185). -/
def Dc.masterLoss (d : Dc) : Dc :=
  let m := d.fld DC.TIME.STATUS.MASTER
  if m = 0x1F then d
  else
    let x := d.master m
    let d := d.until (x.last + 3 * announceTicks x.logAnnounce)
    { d with tim := { d.tim with masters := FMap.put {} d.tim.masters m { x with ds := none } } }.holdover 0x1F

/-- Where a port sends its delay requests (R177). DESIGN CHOICE (log entry 109). -/
def Dc.ptpDest (d : Dc) (port : Nat) (peer : Bool) : PtpVia :=
  if (d.fld DC.PTP.CFG.L2).testBit port then .ether (if peer then 0x0180C200000E else 0x011B19000000) else .udp ptpGroup

/-- The active DC64 sends Delay_Req or Pdelay_Req, whose SFD leaves at `f` in fine (R177, R179, R180); one that is not sent has no stamp (R334). -/
def Dc.delayReq (d : Dc) (port tag f : Nat) : Dc :=
  if !d.active ∨ !(d.fld DC.PTP.CFG.EN).testBit port then d
  else
    let peer := (d.fld DC.PTP.CFG.P2P).testBit port
    let sent := d.transmitPoison.isNone
    let d := (d.until (f / 1024)).frameOut (.ptp port tag peer (d.ptpDest port peer))
    let t := d.txStamp port f
    if !sent then d
    else if 64 ≤ d.tim.txq.length then (d.inc DC.TIME.TXQ_OVF.COUNT).set DC.TIME.STATUS.TXQ_FULL 1
    else { d with tim := { d.tim with txq := d.tim.txq ++ [(tag % 65536, port, t)], reqs := (port, tag % 65536, t) :: d.tim.reqs } }

/-- A peer-delay message passes the bucket and the checks of R178: it comes from the configured link peer. -/
def Dc.peerAccept (d : Dc) (port : Nat) (msg : PtpMsg) : Dc × Bool :=
  let x := d.ptpArrives port msg
  if !x.2 then (x.1, false)
  else if d.ptpHears port msg ∧ (d.fld DC.PTP.CFG.P2P).testBit port ∧ (msg.clockId, msg.portNumber) = Config.linkPeer port then (x.1, true)
  else (x.1.inc (DC.ABS.STRANGER.COUNT 5), false)

/-- The stamp of the request `tag` of a port, while one is held, and the DC64 without it. -/
def Dc.takeRequest (d : Dc) (port tag : Nat) : Option (Dc × Nat) :=
  (d.tim.reqs.find? fun r => r.1 == port && r.2.1 == tag % 65536).map fun r =>
    ({ d with tim := { d.tim with reqs := d.tim.reqs.filter fun x => !(x.1 == port && x.2.1 == tag % 65536) } }, r.2.2)

/-- A path delay is known (R177). -/
def Dc.putDelay (d : Dc) (port : Nat) (x : Int) : Dc := { d with tim := { d.tim with delay := FMap.put none d.tim.delay port (some x) } }

/-- A Pdelay_Resp arrives (R177, R178): of a one-step peer it gives the mean path delay, of a two-step peer it waits for its follow-up. -/
def Dc.peerResponse (d : Dc) (port : Nat) (msg : PtpMsg) (tag : Nat) : Dc :=
  match d.peerAccept port msg with
  | (d, false) => d
  | (d, true) =>
    let f := d.rxStamp port msg.stamp
    if msg.twoStep then
      { d with tim := { d.tim with peerWait := FMap.put none d.tim.peerWait port (some ⟨msg.sequence, tag, f, msg.origin, msg.correction⟩) } }
    else
      match d.takeRequest port tag with
      | none => d
      | some (d, t) => d.putDelay port (nearestQ (((f : Int) - t) * 3125 - msg.correction) 2)

/-- The Pdelay_Resp_Follow_Up of a two-step peer arrives (R177). -/
def Dc.peerFollowUp (d : Dc) (port : Nat) (msg : PtpMsg) : Dc :=
  match d.peerAccept port msg with
  | (d, false) => d
  | (d, true) =>
    match FMap.get none d.tim.peerWait port with
    | none => d
    | some w =>
      if w.sequence ≠ msg.sequence then d
      else
        let d := { d with tim := { d.tim with peerWait := FMap.put none d.tim.peerWait port none } }
        match d.takeRequest port w.tag with
        | none => d
        | some (d, t) => d.putDelay port (nearestQ (((w.stamp : Int) - t) * 3125 - (msg.origin - w.received) - w.correction - msg.correction) 2)

/-- A Delay_Resp of the chosen master arrives (R177, R178): with the last Sync it gives the mean path delay. -/
def Dc.masterResponse (d : Dc) (port : Nat) (msg : PtpMsg) (tag : Nat) : Dc :=
  match d.ptpAccept port msg anyLow anyHigh with
  | (d, none) => d
  | (d, some m) =>
    if m ≠ d.fld DC.TIME.STATUS.MASTER then d
    else
      match d.takeRequest port tag with
      | none => d
      | some (d, t) =>
        if (d.fld DC.PTP.CFG.P2P).testBit port then d
        else
          match FMap.get none d.tim.sync port with
          | some (t1, f2) => d.putDelay port (nearestQ ((msg.origin - msg.correction - t1) - ((t : Int) - f2) * 3125) 2)
          | none => d

/-- A delay response arrives (R177, R178). A request whose stamp was discarded yields nothing (R180). -/
def Dc.delayResponse (d : Dc) (port : Nat) (msg : PtpMsg) (tag : Nat) (kind : DelayKind) : Dc :=
  match kind with
  | .resp => d.masterResponse port msg tag
  | .peer => d.peerResponse port msg tag
  | .peerFollowUp => d.peerFollowUp port msg

/-- `DC.TIME.TXQ_HEAD` is read: the oldest entry is removed and its stamp latched (R180). The register word read. -/
def Dc.txqHead (d : Dc) : Dc × Word :=
  match d.tim.txq with
  | [] => (d, 0)
  | (tag, port, f) :: t =>
    let d := { d with tim := { d.tim with txq := t } }
    let d := ((d.set DC.TIME.TXQ_LO.TICK (f / 1024 % 2 ^ 32)).set DC.TIME.TXQ_HI.TICK (f / 1024 / 2 ^ 32)).set DC.TIME.TXQ_FINE.FINE (f % 1024)
    (d, BitVec.ofNat 32 (tag + 65536 * port + 131072))

/-- What the steering becomes at a frame boundary (R182): towards what the loop asks for, at most 10⁻⁸ per frame and within ±200 ppm. -/
def Dc.steerStep (d : Dc) : Dc :=
  let w := if d.servo = svUnsync then 0 else d.tim.want
  let lim := max (-200000000) (min 200000000 w)
  let s := d.steer
  let next := max (s - 10000) (min (s + 10000) lim)
  let d := d.set DC.TIME.STEER.RATIO (unsigned 32 next)
  if next = w then d else d.set DC.TIME.STATUS.STEER_LIMIT 1

/-- What time does at a frame boundary (R166, R182 to R184): the epoch set, the steering, and a segment that opens there. -/
def Dc.timeBoundary (d : Dc) : Dc :=
  let d := d.steerStep
  match d.tim.openSeg with
  | none => d
  | some s => let d := d.openSegment s
              if d.servo = svUnsync then d.enterServo svTrack else d

/-- The status of a GO with epoch frame `f` (R166). -/
def Dc.epochStatus (d : Dc) (f : Nat) : Nat := if d.state ≠ dcHostwait then 6 else if f < d.frame + 1 then 3 else 0

/-- GO is written to `DC.TIME.SET_HI` (R166): the epoch is kept for the next frame boundary. -/
def Dc.epochGo (d : Dc) : Dc :=
  let f := d.fld DC.TIME.SET_LO.FRAME + 2 ^ 32 * d.fld DC.TIME.SET_HI.FRAME
  if d.epochStatus f = 0 then { d with tim := { d.tim with epoch := some f } } else d

/-- A rising edge of PPS_IN (R187). -/
def Dc.ppsIn (d : Dc) (t fine : Nat) : Dc :=
  let d := d.until t
  let d := ((d.set DC.TIME.PPS_IN_LO.TICK t).set DC.TIME.PPS_IN_HI.TICK (t / 2 ^ 32)).set DC.TIME.PPS_IN_FINE.FINE fine
  d.inc DC.TIME.PPS_IN_CNT.COUNT

/-- The next DT in fine at which the mapped time passes a whole second (R188). -/
def Dc.nextSecond (d : Dc) : Option Nat :=
  (d.segAt d.now).map fun s =>
    let m := mapUnits (1024 * d.now) s
    let togo := (m / unitsSec + 1) * unitsSec - m
    1024 * d.now + (togo + 3124) / 3125

/-- PPS_OUT rises at its next instant (R188). -/
def Dc.ppsOut (d : Dc) : Dc :=
  let at1 : Option Nat :=
    if d.fld DC.TIME.PPS_CTRL.MODE = 1 then (if d.servo = svUnsync then none else d.nextSecond)
    else if d.fld DC.TIME.PPS_CTRL.MODE = 2 then some (1024 * nextMul ticksSec d.now) else none
  match at1 with
  | none => d
  | some f =>
    let d := (d.until ((f + 1023) / 1024)).emit (.pps true f)
    { d with tim := { d.tim with ppsEnd := some (f / 1024 + (d.fld DC.TIME.PPS_CTRL.WIDTH + 1) * ticksMs) } }

/-- The pulse on PPS_OUT ends (R188). -/
def Dc.ppsDown (d : Dc) : Dc :=
  match d.tim.ppsEnd with
  | none => d
  | some t => { (d.until t).emit (.pps false (1024 * t)) with tim := { d.tim with ppsEnd := none } }

/-- `PPS_CTRL` has been written: with `MODE` 0 the pin goes low at once (R188). -/
def Dc.ppsMode (d : Dc) : Dc :=
  if d.fld DC.TIME.PPS_CTRL.MODE = 0 ∧ d.tim.ppsEnd.isSome then { d.emit (.pps false (1024 * d.now)) with tim := { d.tim with ppsEnd := none } } else d

/-- One two-way measurement: the departure of the marker probed, its arrival stamp there, the departure stamp of the marker sent back and its arrival
stamp here, all in fine (R172). -/
structure EchoSample where
  depart : Int
  lrx : Int
  ltx : Int
  arrive : Int
  deriving DecidableEq, Repr

/-- θ of one ECHO in fine, doubled, and its round trip (R172). -/
def echoTheta2 (alpha : Int) (e : EchoSample) : Int := (e.lrx - e.depart) - (e.arrive - e.ltx) - alpha
def echoRtt (e : EchoSample) : Int := (e.lrx - e.depart) + (e.arrive - e.ltx)

/-- θ of one ECHO, rounded to the nearest fine (R172). -/
def echoTheta (alpha : Int) (e : EchoSample) : Int := nearestQ (echoTheta2 alpha e) 2

/-- An adjustment in fine as an ADJ register word: whole ticks and a remainder of 0 to 1,023 fine (R172). -/
def adjWord (f : Int) : Word := BitVec.ofNat 32 (unsigned 16 (f / 1024) + (f % 1024).toNat * 65536)

/-- The stamp with a marker count. -/
def stampOf (l : List (Nat × Nat)) (count : Nat) : Option Nat := (l.find? fun x => x.2 == count).map (·.1)

/-- The stamps of the markers of lane 2h of DF640 `n` that the unit holds: its own receiver's, or those its partner sent (R172, R175). -/
def Dc.markStamps (d : Dc) (n h : Nat) : List (Nat × Nat) := if h = d.homing then (d.recv (2 * n)).marks else FMap.get [] d.tim.pMarks n

/-- The measurement of homing port `h` that an ECHO reply gives (R172): the probed frame is the latest with the low bits returned, the local times are
those nearest to it, and the arrival is the stamp held with the same marker count. None where a value is not valid or no stamp is held. DEDUCED (log entry 42). -/
def Dc.echoSample (d : Dc) (n h : Nat) (e : EchoReply) : Option EchoSample :=
  let valid := fieldOf e.echo 24 4
  let probe := if h = 0 then e.probe0 else e.probe1
  let a := if h = 0 then e.mark0a else e.mark1a
  let b := if h = 0 then e.mark0b else e.mark1b
  if !(valid.testBit h && valid.testBit (2 + h)) then none
  else
    match stampOf (d.markStamps n h) (fieldOf a 0 24) with
    | none => none
    | some arrive =>
      let frame : Int := (d.frame : Int) - ((d.frame % 2 ^ 24 + 2 ^ 24 - fieldOf e.echo 0 24) % 2 ^ 24 : Nat)
      let start := frame * (1024 * frameTicks : Nat)
      let left := frame + signed 8 ((fieldOf a 24 8 + 256 - (frame % 256).toNat) % 256)
      some { depart := start, lrx := start + signed 26 (1024 * fieldOf probe 0 16 + fieldOf probe 16 10),
             ltx := left * (1024 * frameTicks : Nat) + (1024 * fieldOf b 0 16 + fieldOf b 16 10 : Nat), arrive := arrive }

/-- The homing ports whose sets the active unit aligns: its own, and the other while its partner follows (R173, R175). -/
def Dc.alignPorts (d : Dc) : List Nat := if d.paired ∧ (d.pstate = psSync ∨ d.pstate = psCatchup) then [d.homing, 1 - d.homing] else [d.homing]

/-- The averages of an alignment, per homing port. -/
def AlignSt.mean (x : AlignSt) (h : Nat) : Int := nearestQ (if h = 0 then x.sum0 else x.sum1) (max 1 x.count)

/-- One more ECHO in the average. -/
def AlignSt.add (x : AlignSt) (th : Nat → Int) : AlignSt := { x with count := x.count + 1, sum0 := x.sum0 + th 0, sum1 := x.sum1 + th 1 }

/-- An alignment's state, and replacing it. -/
def Dc.alignSt (d : Dc) (n : Nat) : AlignSt := FMap.get {} d.tim.align n
def Dc.setAlign (d : Dc) (n : Nat) (x : AlignSt) : Dc := { d with tim := { d.tim with align := FMap.put {} d.tim.align n x } }

/-- ECHOs that one alignment averages (R173). -/
def alignEchoes : Nat := 256

/-- One ECHO of a DF640 in ALIGN (R173): 256 give the sets, which are written; then one confirms them and releases the DF640 to RUN. DEDUCED (log entry 42). -/
def Dc.alignFirst (d : Dc) (n : Nat) (ports : List Nat) (th : Nat → Int) (cur : Int) : Dc :=
  let x := d.alignSt n
  if x.written then
    if ports.all fun h => decide ((th h).natAbs ≤ 2) then (d.setAlign n { since := d.frame }).queueFrame n 0x09 15 [] none
    else d.setAlign n {}
  else
    let y := x.add th
    if y.count < alignEchoes then d.setAlign n y
    else ports.foldl (fun (d : Dc) (h : Nat) => d.coreWrite n (DF.TIME.ADJ.addr h) (adjWord (cur - y.mean h))) (d.setAlign n { written := true })

/-- One ECHO of a DF640 in RUN (R173): once the period has passed 256 are averaged, and corrections up to 32 fine are written. -/
def Dc.alignAgain (d : Dc) (n : Nat) (ports : List Nat) (th : Nat → Int) (cur : Int) : Dc :=
  let x := d.alignSt n
  let period := d.fld DC.TIME.ALIGN_PERIOD.FRAMES
  if period = 0 ∨ (x.count = 0 ∧ d.frame < x.since + period) then d
  else
    let y := x.add th
    if y.count < alignEchoes then d.setAlign n y
    else ports.foldl (fun (d : Dc) (h : Nat) =>
      let m := y.mean h
      if 32 < m.natAbs then (d.set DC.TIME.STATUS.ALIGN_DRIFT 1).notify 0x0004 n
      else if m = 0 then d else d.coreWrite n (DF.TIME.ADJ.addr h) (adjWord (cur - m))) (d.setAlign n { since := d.frame })

/-- The firmware acts on one ECHO reply of DF640 `n` (R172, R173), whose adjustment set in force is `cur` in fine. -/
def Dc.alignOne (d : Dc) (n : Nat) (e : EchoReply) (cur : Int) (dfState : Nat) : Dc :=
  let ports := d.alignPorts
  let alpha := s32 (d.fld (DC.TIME.ASYM.FINE n))
  let th (h : Nat) : Int := match d.echoSample n h e with | some x => echoTheta alpha x | none => 0
  if !d.active ∨ ports.any fun h => (d.echoSample n h e).isNone then d
  else
    let d := match d.echoSample n d.homing e with | some x => d.set (DC.TIME.RTT.FINE n) (unsigned 32 (echoRtt x)) | none => d
    if dfState = dfAlign then d.alignFirst n ports th cur
    else if dfState = dfRun then d.alignAgain n ports th cur else d

/-- The firmware acts on the replies to its ECHOs in order (R173). -/
def Dc.align (d : Dc) (n : Nat) (echoes : List EchoReply) (cur : Int) (dfState : Nat) : Dc :=
  echoes.foldl (fun (d : Dc) (e : EchoReply) => d.alignOne n e cur dfState) d

end Sys2Proof.Machine
end

