-- ==== Sys2Proof/Machine/MemLog.lean ====
section
/-! DEFINITION. What every unit of the DC64 that meets a memory error uses: the log with its notices (R338), what the decoders of SRAM and DRAM find (R322 to R324, R328), and
reads and writes of DRAM codewords (R326, R327, R336). -/
namespace Sys2Proof.Machine

/-- Log an event (R337 to R339): a CE entry whose REPEAT reaches STUCK raises its notice once. -/
def Dc.log (d : Dc) (source kind unit pos addr syndrome : Nat) : Dc :=
  match d.logEvent source kind unit pos addr syndrome with
  | (d, none) => d
  | (d, some i) =>
    match d.logAt i with
    | none => d
    | some e =>
      if e.kind = kindCe ∧ e.stuck = false ∧ d.fld DC.MEM.CTRL.STUCK ≤ e.rep then
        ((d.setLog i { e with stuck := true }).set DC.MEM.STATUS.STUCK_ANY 1).notify 0x0202 i
      else d

/-- What the decoder of a SRAM word finds (R322, R328): one wrong bit is corrected, two are detected. SEC-DED states nothing of three and more, so those are a free
value (log entry 113). -/
inductive SramResult
  | clean
  | single (bit : Nat)
  | double
  deriving DecidableEq, Repr

/-- Positions of the ones in a word of 72 bits. -/
def wrongBits (v : BitVec 72) : List Nat := (List.range 72).filter fun i => v.toNat.testBit i

def sramResult (f : SramFind) : SramResult :=
  match wrongBits f.wrong with
  | [] => .clean
  | [b] => .single b
  | [_, _] => .double
  | _ => match Config.wideSram f.wrong with | 0 => .clean | b + 1 => if b < 72 then .single b else .double

/-- Beat and bit of the codeword's byte `i`: byte 4t + q travels in beat t on pins 8q to 8q + 7 (R323). -/
def byteBeat (i : Nat) : Nat := i / 4
def bytePin (i : Nat) : Nat := 8 * (i % 4)

/-- The pins that differ in a beat. -/
def beatAt (b : List (BitVec 40)) (t : Nat) : BitVec 40 := b.getD t 0

/-- Symbol `p`: what pin p carries in the eight beats, the first beat in bit 7 (R323). -/
def symbolAt (b : List (BitVec 40)) (p : Nat) : Nat := (List.range 8).foldl (fun v t => 2 * v + ((beatAt b t).toNat.testBit p).toNat) 0

/-- The symbols that differ: DQ pins that differ in a beat (R323). -/
def wrongSymbols (b : List (BitVec 40)) : List Nat := (List.range 40).filter fun p => symbolAt b p != 0

/-- The bits that differ in word `i` of the codeword's data: bytes 8i to 8i + 7, the first byte highest (R11, R323). -/
def wrongData (b : List (BitVec 40)) (i : Nat) : Rec :=
  BitVec.ofNat 64 ((List.range 8).foldl (fun v k => 256 * v + (beatAt b (byteBeat (8 * i + k))).toNat / 2 ^ bytePin (8 * i + k) % 256) 0)

/-- Two differences together. -/
def xorBeats (a b : List (BitVec 40)) : List (BitVec 40) := (List.range 8).map fun t => beatAt a t ^^^ beatAt b t

/-- The constants of the marks, whose most significant byte goes to symbol 32 (R324). -/
def poisonChecks : Nat := 0xA5C35A3C96E169E7
def tornChecks : Nat := 0x3C96E169C3A55A1E

/-- A codeword stored under a mark differs from the plain one in its check symbols (R324). -/
def markBeats (checks : Nat) : List (BitVec 40) :=
  (List.range 8).map fun t => BitVec.ofNat 40 ((List.range 8).foldl (fun v p => v + (bits checks (8 * (7 - p) + (7 - t)) 1) * 2 ^ (32 + p)) 0)

/-- Symbols in which a stored codeword differs from the plain, the POISON and the TORN form of its data. -/
def plainWrong (b : List (BitVec 40)) : List Nat := wrongSymbols b
def poisonWrong (b : List (BitVec 40)) : List Nat := wrongSymbols (xorBeats b (markBeats poisonChecks))
def tornWrong (b : List (BitVec 40)) : List Nat := wrongSymbols (xorBeats b (markBeats tornChecks))

/-- What the decoder of a DRAM codeword finds (R327). -/
inductive DramResult
  | clean
  | correctable (symbol : Nat)
  | poison
  | torn
  | uncorrectable
  deriving DecidableEq, Repr

/-- The decoder tries the plain code, then POISON, then TORN, each within 2 symbols; up to 6 wrong symbols are detected (R322, R324). A wider error is detected
but for a probability below 3 × 10⁻¹²: whether one is missed is a free value. DESIGN CHOICE (log entry 113). -/
def dramResult (f : DramFind) : DramResult :=
  match plainWrong f.beats with
  | [] => .clean
  | p :: l =>
    if l.length ≤ 1 then .correctable p
    else if (poisonWrong f.beats).length ≤ 2 then .poison
    else if (tornWrong f.beats).length ≤ 2 then .torn
    else if l.length ≤ 5 ∨ (poisonWrong f.beats).length ≤ 6 ∨ (tornWrong f.beats).length ≤ 6 then .uncorrectable
    else if Config.wideDram f.beats then .correctable p
    else .uncorrectable

/-- A codeword without a difference; it is stored as no entry. -/
def dramNone : DramFind := { beats := [], syndrome := 0 }

/-- The stored form of a mark. -/
def dramMarked (m : Nat) : DramFind :=
  if m = markPoison then { beats := markBeats poisonChecks, syndrome := poisonChecks }
  else if m = markTorn then { beats := markBeats tornChecks, syndrome := tornChecks } else dramNone

/-- Base of DRAM keys. -/
def dramKey (c cw : Nat) : Nat := 2 ^ 40 * c + cw

/-- How a DRAM codeword is stored; codewords of 32 B (R322). -/
def Dc.dramAt (d : Dc) (c cw : Nat) : DramFind := FMap.get dramNone d.mem.dram (dramKey c cw)

/-- Set how a DRAM codeword is stored. -/
def Dc.setDram (d : Dc) (c cw : Nat) (f : DramFind) : Dc :=
  let f := if plainWrong f.beats = [] then dramNone else f
  { d with mem := { d.mem with dram := FMap.put dramNone d.mem.dram (dramKey c cw) f } }

/-- A line of a channel lies in subchannel a mod 2 (R323). -/
def subchannel (line : Nat) : Nat := line % 2

/-- A codeword of DRAM written whole: clean, its entries closed (R336, R337). -/
def Dc.codewordClean (d : Dc) (c cw : Nat) : Dc := (d.setDram c cw dramNone).logClose logDram c (32 * cw)

/-- A line of DRAM written whole: two codewords (R323, R336, R337). -/
def Dc.lineClean (d : Dc) (c line : Nat) : Dc :=
  if d.mem.dram.isEmpty ∧ d.mem.log.isEmpty then d
  else ([2 * line, 2 * line + 1].foldl (fun (d : Dc) (w : Nat) => d.codewordClean c w) d).tornClose c line

/-- Whether a codeword delivers its words poisoned (R326, R327). -/
def DramResult.poisons : DramResult → Bool
  | .clean => false
  | .correctable _ => false
  | .poison => true
  | .torn => true
  | .uncorrectable => true

/-- A read of a DRAM codeword (R327): errors are counted and logged, the stored copy stays, and the answer says whether its four words travel poisoned (R326). -/
def Dc.dramRead (d : Dc) (c cw : Nat) : Dc × Bool :=
  let f := d.dramAt c cw
  match dramResult f with
  | .correctable sym => ((d.inc (DC.MEM.DRAM_CE.COUNT c)).log logDram kindCe c sym (32 * cw) f.syndrome, false)
  | .uncorrectable => ((d.inc (DC.MEM.DRAM_UE.COUNT c)).log logDram kindUe c noPos (32 * cw) f.syndrome, true)
  | r => (d, r.poisons)

/-- A read of a line of DRAM: the poison bits of its eight words, bit i for word i (R326). -/
def Dc.lineRead (d : Dc) (c line : Nat) : Dc × Nat :=
  let a := d.dramRead c (2 * line)
  let b := a.1.dramRead c (2 * line + 1)
  (b.1, 15 * a.2.toNat + 240 * b.2.toNat)

/-- The words of a line as the decoder delivers them: those of an uncorrectable codeword as they are stored, all others right (R327). -/
def Dc.lineSeen (d : Dc) (c line : Nat) (ws : List Rec) : List Rec :=
  (List.range 8).map fun i =>
    let f := d.dramAt c (2 * line + i / 4)
    match dramResult f with
    | .uncorrectable => ws.getD i 0 ^^^ wrongData f.beats (i % 4)
    | _ => ws.getD i 0

/-- A write that covers only part of a DRAM codeword (R336): the read, merge and write of its controller. -/
def Dc.dramPartial (d : Dc) (c cw : Nat) : Dc :=
  let f := d.dramAt c cw
  match dramResult f with
  | .clean => d
  | .correctable _ => d.codewordClean c cw
  | .poison => d.setDram c cw (dramMarked markPoison)
  | .torn => d.setDram c cw (dramMarked markTorn)
  | .uncorrectable => (d.setDram c cw (dramMarked markPoison)).log logDram kindPartialUe c noPos (32 * cw) f.syndrome

end Sys2Proof.Machine
end

