-- ==== Sys2Proof/Machine/MireOps.lean ====
section
/-! DEFINITION. Ingress and the Mire: record checks (R195), slots (R196, R197), the ring (R201), the frame index (R203), staging
and debt (R206, R208); the address map of DRAM (R28, R200), the grants of the Sluice (R212) and who holds a line (R216). -/
namespace Sys2Proof.Machine

/-- Slot numbers are shown modulo 2⁴⁰ (R202). -/
def slotMod : Nat := 2 ^ 40

/-- Capacity code of the geometry in use (R227). -/
def Dc.cap (d : Dc) : Nat := d.fld DC.MIRE.GEOM.CAP

/-- Ring positions of one channel: seven eighths of its address space in slots of 256 B (R28, R196). -/
def ringPositions (cap : Nat) : Nat := 2 ^ cap * 14680064

/-- Slot positions in a retired page of 64 KiB. -/
def pageSlots : Nat := 256

/-- Lines of 64 B in a channel, and the first line of the reserved region (R28, R200). -/
def Dc.chanLines (d : Dc) : Nat := 2 ^ d.cap * 2 ^ 26
def Dc.ringLines (d : Dc) : Nat := 2 ^ d.cap * (7 * 2 ^ 23)

/-- Blocks of one flash channel (R298). -/
def chanBlocks (g : FlashGeom) : Nat := (g.targets + 1) * (g.luns + 1) * (g.planes + 1) * g.blocks

/-- 2 TiB of attached flash, each taken for one begun (R200). DESIGN CHOICE (log entry 114). -/
def Dc.flashUnits (d : Dc) : Nat :=
  match d.peat.flash.geom with
  | none => 0
  | some g => (8 * chanBlocks g * g.pagesPerBlock * 16384 + 2 ^ 41 - 1) / 2 ^ 41

/-- Lines of each area of the reserved region in one channel (R200): the frame index, the retirement map, the calibration log, the
Peat map, the core. -/
def indexLines : Nat := 2228224
def Dc.retMapLines (d : Dc) : Nat := 2 ^ d.cap * 128
def calLogLines : Nat := 32768
def Dc.peatMapLines (d : Dc) : Nat := d.flashUnits * 2097152
def coreLines : Nat := 524288

/-- First line of a channel's share of each area. -/
def Dc.retMapFrom (d : Dc) : Nat := d.ringLines + indexLines
def Dc.calLogFrom (d : Dc) : Nat := d.retMapFrom + d.retMapLines
def Dc.peatMapFrom (d : Dc) : Nat := d.calLogFrom + calLogLines
def Dc.coreFrom (d : Dc) : Nat := d.peatMapFrom + d.peatMapLines
def Dc.stagingFrom (d : Dc) : Nat := d.coreFrom + coreLines

/-- Line `a` of an area that begins at line `from'` of every channel: its channel and its line there (R200). -/
def areaLine (from' a : Nat) : Nat × Nat := (a % 8, from' + a / 8)

/-- Line `a` of the reserved region: its channel and its line there (R200). -/
def Dc.regionLine (d : Dc) (a : Nat) : Nat × Nat := areaLine d.ringLines a

/-- The line of an entry of the calibration log, four entries to a line, and of the Peat map, eight to a line (R200, R225, R303). -/
def Dc.logLine (d : Dc) (p : Nat) : Nat × Nat := areaLine d.calLogFrom (p / 4)
def Dc.mapLine (d : Dc) (l : Nat) : Nat × Nat := areaLine d.peatMapFrom (l / 8)

/-- The staging area in lines, over pages of 64 KiB of all eight channels, of which those with a retired page are passed over (R200, R343): the page with number `i` among
those in use. -/
def stagingPage (retired : List (Nat × Nat)) : Nat → Nat → Nat → Nat
  | 0, p, i => p + i
  | fuel + 1, p, i =>
    match retired.find? fun x => decide (p ≤ x.2 ∧ x.2 ≤ p + i) with
    | none => p + i
    | some _ =>
      let gone := (retired.filter fun x => decide (p ≤ x.2 ∧ x.2 ≤ p + i)).map (·.2)
      let first := gone.foldl min (p + i)
      stagingPage retired fuel (first + 1) (i - (first - p))

/-- Line `k` of the staging area: its channel and its line there. What stands where in the staging area is the model's. DESIGN CHOICE (log entry 115). -/
def Dc.stagingLine (d : Dc) (k : Nat) : Nat × Nat :=
  let page := stagingPage d.mire.retired (d.mire.retired.length + 1) ((d.stagingFrom + 1023) / 1024) (k / 8192)
  (k % 8, 1024 * page + k % 8192 / 8)

/-- FABRIC cycles since DT 0: two for each tick (R30, R205). -/
def Dc.cycle (d : Dc) : Nat := 2 * d.now

/-- Whether a cycle lies in an ingress window: windows of 64 cycles on a wheel of 15 that begins at DT 0, of which the first, the third and so on are ingress windows
(R205). DESIGN CHOICE (log entry 116). -/
def ingressCycle (n : Nat) : Bool := n / 64 % 15 % 2 == 0

/-- Cycles of other windows before cycle `n`. -/
def otherCycles (n : Nat) : Nat := n / 960 * 448 + n % 960 / 64 / 2 * 64 + (if n % 960 / 64 % 2 = 1 then n % 64 else 0)

/-- The first cycle of the next other window from cycle `n` on. -/
def nextOther (n : Nat) : Nat :=
  let w := (n + 63) / 64
  64 * (w + (if w % 15 % 2 = 1 then 0 else if w % 15 = 14 then 2 else 1))

/-- The ingress debt of a channel at a cycle: ingress has taken every cycle of the other windows since (R206). -/
def Dc.debtOf (d : Dc) (c n : Nat) : Nat :=
  let at' := FMap.get 0 d.mire.debtAt c
  if n ≤ at' then FMap.get 0 d.mire.debt c else FMap.get 0 d.mire.debt c - (otherCycles n - otherCycles at')

/-- Cycles lost to ingress add to a channel's debt (R206), which stands from cycle `n` on. -/
def Dc.addDebt (d : Dc) (c lost n : Nat) : Dc :=
  let v := d.debtOf c d.cycle + lost
  let d := { d with mire := { d.mire with debt := FMap.put 0 d.mire.debt c v, debtAt := FMap.put 0 d.mire.debtAt c n } }
  d.set (DC.MIRE.STAGE.DEBT_PEAK c) (max (d.fld (DC.MIRE.STAGE.DEBT_PEAK c)) (min 511 v))

/-- A request of requester `r` is granted at a target (R212): the turn of its level moves on, and in an ingress window a cycle of the channel is lent (R205). -/
def Dc.granted (d : Dc) (r target level : Nat) : Dc :=
  let g := FMap.put 0 d.slu.lastGrant (8 * target + level) r
  let lent := if target < 8 ∧ ingressCycle d.cycle then FMap.put 0 d.mire.lent target (d.cycle / 64 + 1) else d.mire.lent
  { d with slu := { d.slu with lastGrant := g }, mire := { d.mire with lent := lent } }

/-- Priority of a request that has lost no arbitration phase (R212). -/
def Dc.prioOf (d : Dc) (r : Nat) : Nat := min 7 (d.fld (DC.SLU.PRIO.PRIO r))

/-- Whether a line of a target is locked by a sequence, and by which requester (R216). -/
def Dc.lockedBy (d : Dc) (target line : Nat) : Option Nat :=
  (d.slu.seqs.find? fun x => match x.2 with | some q => q.lines.any (fun l => l.1 == target && l.2.1 == line) | none => false).map (·.1)

/-- Whether another requester holds a line. -/
def Dc.heldFrom (d : Dc) (r target line : Nat) : Bool := (d.lockedBy target line).any (· != r)

/-- Retired pages of the ring part of a channel. -/
def Dc.ringRetired (d : Dc) (c : Nat) : Nat :=
  (d.mire.retired.filter fun p => p.1 == c && decide (p.2 * pageSlots < ringPositions d.cap)).length

/-- Ring slots, retired pages excluded (R251). -/
def Dc.ringSlots (d : Dc) : Nat :=
  8 * ringPositions d.cap - pageSlots * total ((List.range 8).map d.ringRetired)

/-- Whether a payload word has a code point R195 counts in BADREC; `last`: it stands in the last payload position. -/
def badRecord (w : Rec) (last : Bool) : Bool :=
  let k := kindOf w
  if k = 1 then decide (640 ≤ rb w 50 10)
  else if k = 2 ∨ k = 15 then false
  else if k = 3 then decide (4 < subOf w) || (subOf w == 4 && last)
  else if k = 4 then decide (5 < subOf w)
  else if k = 5 then decide (1 < subOf w)
  else true

/-- The payload words as ingress reads them: each record with its word index in the slot, the second word of an
INJECT_SCHEDULE mark paired with the first (R124). -/
def readPayload : Nat → List Rec → List (Nat × Rec × Option Rec)
  | _, [] => []
  | i, w :: t =>
    if kindOf w = 3 ∧ subOf w = 4 then
      match t with
      | [] => [(i, w, none)]
      | v :: u => (i, w, some v) :: readPayload (i + 2) u
    else (i, w, none) :: readPayload (i + 1) t

/-- Bit 7 of a HIT record's flags is set (R195). -/
def flag7 (w : Rec) : Bool := kindOf w == 1 && w.toNat.testBit 7

/-- A HIT record with bit 7 of its flags cleared (R195). -/
def clear7 (w : Rec) : Rec := if flag7 w then w &&& ~~~(0x80 : Rec) else w

/-- The payload stored, in which only HIT records are changed: the second word of a schedule mark stays as it is. -/
def storedPayload (ws : List Rec) : List Rec :=
  (readPayload 1 ws).flatMap fun x => match x.2.2 with | some v => [x.2.1, v] | none => [clear7 x.2.1]

/-- The frame to which a HIT belongs that arrived at a tick (R107). -/
def hitFrame (arrTick tick : Nat) : Nat :=
  let f := arrTick / frameTicks
  if f * frameTicks + tick ≤ arrTick then f else f - 1

/-- The DC64 word of a slot (R196). -/
def dcWord (arr recv state flag : Nat) : Rec :=
  BitVec.ofNat 64 (arr / 1024 % 2 ^ 40 * 2 ^ 24 + arr % 1024 * 2 ^ 14 + recv % 128 * 2 ^ 7 + state % 4 * 2 ^ 5 + flag % 2 * 2 ^ 4)

/-- Extend the index record of a frame by one slot (R203). -/
def IdxRec.extend (x : IdxRec) (frame slot recv : Nat) : IdxRec :=
  let r := match FMap.get none x.recvs recv with
    | none => (slot, slot, 1)
    | some r => (r.1, slot, r.2.2 + 1)
  { x with frame := frame, first := if x.count = 0 then slot else x.first, last := slot, count := x.count + 1,
           recvs := FMap.put none x.recvs recv (some r) }

/-- Stage an accepted block (R195 to R197, R208, R462). DESIGN CHOICE (log entry 43). -/
def Dc.stage (d : Dc) (n j : Nat) (ws : List Rec) (arr : Nat) : Dc :=
  let recs := readPayload 1 (payloadOf ws)
  let f7 := (recs.filter fun x => x.2.2.isNone && flag7 x.2.1).length
  let bad := (recs.filter fun x => badRecord x.2.1 (x.1 == 30)).length
  let d := (d.add DC.MIRE.FLAG7.COUNT f7).add DC.MIRE.BADREC.COUNT bad
  let d := d.addTot totBlkAccepted 1
  let c := d.mire.next % 8
  let q := FMap.get [] d.mire.staged c
  if 64 ≤ q.length then (d.set (DC.MIRE.STAGE.OVERRUN c) 1).addTot totBlkOverrun 1
  else
    let s : Slot := { arr := arr, recv := 2 * n + j,
                      words := ws.getD 0 0 :: (storedPayload (payloadOf ws) ++ [dcWord arr (2 * n + j) 0 (if f7 = 0 then 0 else 1)]) }
    let k := d.mire.next
    let f := arr / 1024 / frameTicks
    let m := { d.mire with next := k + 1, staged := FMap.put [] d.mire.staged c (q ++ [(k, s)]),
                           fill := FMap.put {} d.mire.fill f (IdxRec.extend (FMap.get {} d.mire.fill f) f k (2 * n + j)) }
    let d := { d with mire := m }.addTot totBlkWritten 1
    d.set (DC.MIRE.STAGE.PEAK c) (max (d.fld (DC.MIRE.STAGE.PEAK c)) (q.length + 1))

/-- The next ring position of a channel from `p` on that lies in no retired page; a position wraps at the end of the ring (R197). -/
def nextPosition (retired : List (Nat × Nat)) (c size : Nat) : Nat → Nat → Nat
  | 0, p => p
  | fuel + 1, p =>
    let p := if size ≤ p then 0 else p
    if retired.contains (c, p / pageSlots) then nextPosition retired c size fuel ((p / pageSlots + 1) * pageSlots) else p

/-- Count the HIT records of a slot, those with a channel above 639 ignored (R195), as received in the frames of their leading edges (R457, R458). A hit of a settled frame
counts in RECEIVED and as a ledger fault. -/
def Dc.countReceived (d : Dc) (s : Slot) : Dc :=
  let n := s.recv / 2
  (readPayload 1 (payloadOf s.words)).foldl (fun (d : Dc) x =>
    if kindOf x.2.1 = 1 ∧ rb x.2.1 50 10 < 640 then
      let f := hitFrame (s.arr / 1024) (rb x.2.1 34 16)
      let p := d.lport n
      match p.settled with
      | some g => if f ≤ g then (d.addAcct n 6 1).ledgerFault n else d.setLport n { p with recvd := p.recvd.upd 0 f (· + 1) }
      | none => d.setLport n { p with recvd := p.recvd.upd 0 f (· + 1) }
    else d) d

/-- Retired pages of a channel that the ring passes on its way from position `a` to position `b` (R197, R343). -/
def passedPages (retired : List (Nat × Nat)) (c a b : Nat) : List Nat :=
  (retired.filter fun x => x.1 == c && (if a ≤ b then decide (a ≤ x.2 * pageSlots ∧ x.2 * pageSlots < b)
    else decide (a ≤ x.2 * pageSlots ∨ x.2 * pageSlots < b))).map (·.2)

/-- The slots of the positions of a page are no longer held (R343). -/
def Mire.dropPage (m : Mire) (c page : Nat) : Mire :=
  let here (x : Nat × Nat) : Bool := x.1 % 8 == c && x.1 / 8 / pageSlots == page
  let gone := (m.ring.filter here).map (·.2)
  { m with ring := m.ring.filter (fun x => !here x), slots := m.slots.filter (fun x => !gone.contains (x.1 + 1)),
           oldest := gone.foldl max m.oldest }

/-- Ingress takes back a cycle of a channel lent in this ingress window (R206): the turnaround costs at most 24 cycles, how many is a free value (log entry 116). -/
def Dc.reclaim (d : Dc) (c : Nat) : Dc :=
  if FMap.get 0 d.mire.lent c = d.cycle / 64 + 1 then
    let d := { d with mire := { d.mire with lent := FMap.put 0 d.mire.lent c 0 } }
    d.addDebt c (Config.free 41 [c, d.cycle] % 25) d.cycle
  else d

/-- The oldest staged block of a channel is written to the ring (R196, R197, R201). Its lines are written whole (R207, R336). -/
def Dc.slotWrite (d : Dc) (c : Nat) : Dc :=
  match FMap.get [] d.mire.staged c with
  | [] => d
  | (k, s) :: t =>
    let d := d.reclaim c
    let size := ringPositions d.cap
    let from' := FMap.get 0 d.mire.pos c
    let p := nextPosition d.mire.retired c size (d.mire.retired.length + 2) from'
    let m := (passedPages d.mire.retired c from' p).foldl (fun (m : Mire) (q : Nat) => m.dropPage c q) d.mire
    let old := FMap.get 0 m.ring (8 * p + c)
    let slots := if old = 0 then m.slots else FMap.put none m.slots (old - 1) none
    let m := { m with staged := FMap.put [] m.staged c t, pos := FMap.put 0 m.pos c (p + 1), ring := FMap.put 0 m.ring (8 * p + c) (k + 1),
                      slots := FMap.put none slots k (some s), oldest := if old = 0 then m.oldest else max m.oldest old }
    let d := { d with mire := m }
    let d := [0, 1, 2, 3].foldl (fun (d : Dc) (i : Nat) => d.lineClean c (4 * p + i)) d
    let d := s.bad.foldl (fun (d : Dc) (w : Nat) => d.setDram c (8 * p + w / 4) (dramMarked markPoison)) d
    let d := if old = 0 then d else d.set DC.MIRE.GEOM.WRAPPED 1
    let d := if rb (s.words.getD 31 0) 5 2 = 2 then d.inc DC.MIRE.STAGE_POISON.COUNT else d
    d.countReceived s

/-- Valid slots, oldest first: intact, and with a frame that still has its record (R201). -/
def Dc.validSlots (d : Dc) : List (Nat × Slot) :=
  d.mire.slots.filterMap fun x => match x.2 with | some s => if d.mire.oldest ≤ x.1 then some (x.1, s) else none | none => none

/-- The oldest valid slot. -/
def Dc.oldestSlot (d : Dc) : Option (Nat × Slot) := d.validSlots.head?

/-- Arrival DT in fine of the oldest valid slot (R201, R255). -/
def Dc.oldestArr (d : Dc) : Option Nat := d.oldestSlot.map (·.2.arr)

/-- The valid depth in fine (R201). -/
def Dc.depth (d : Dc) : Nat :=
  match d.validSlots.head?, d.validSlots.getLast? with
  | some a, some b => b.2.arr - a.2.arr
  | _, _ => 0

/-- The valid depth in whole frames (R201, R227). -/
def Dc.depthFrames (d : Dc) : Nat := d.depth / (1024 * frameTicks)

/-- Ingress writes the index record of a frame, in 17 whole lines (R203, R207, R336). The oldest valid slot moves on past frames whose record is overwritten (R201). -/
def Dc.putIndex (d : Dc) (f : Nat) : Dc :=
  let r0 : IdxRec := FMap.get {} d.mire.fill f
  let r := { r0 with frame := f }
  let m := d.mire
  let gone (s : Slot) : Bool := decide (s.arr / 1024 / frameTicks + 2 ^ 20 ≤ f)
  let keep := (d.validSlots.find? fun x => !gone x.2).map (·.1)
  let old := if d.validSlots.any fun x => gone x.2 then keep.getD m.next else m.oldest
  let d := { d with mire := { m with fill := FMap.put {} m.fill f {}, index := FMap.put none m.index (f % 2 ^ 20) (some r), oldest := old } }
  (List.range 17).foldl (fun (d : Dc) (i : Nat) => let l := d.regionLine (17 * (f % 2 ^ 20) + i); d.lineClean l.1 l.2) d

/-- The index record of the frame due, at tick 1,024 of the frame after it (R203). -/
def Dc.indexWrite (d : Dc) : Dc :=
  let f := d.mire.nextIndex
  let d := (d.until ((f + 1) * frameTicks + 1024)).putIndex f
  { d with mire := { d.mire with nextIndex := f + 1 } }

/-- The frame number jumps (R33, R166): frames begun before it get their records as far as they are filled, and the next record due is that of the frame before the new
one. DEDUCED (log entry 117). -/
def Dc.indexJump (d : Dc) (frame : Nat) : Dc :=
  let d := (d.mire.fill.map (·.1)).foldl (fun (d : Dc) (f : Nat) => d.putIndex f) d
  { d with mire := { d.mire with nextIndex := frame - 1 } }

/-- The 136 words of an index record (R203). -/
def IdxRec.words (x : IdxRec) : List Rec :=
  if x.count = 0 then 0 :: List.replicate 135 0
  else
    [BitVec.ofNat 64 (x.first % slotMod * 2 ^ 24 + x.count % 2 ^ 24), BitVec.ofNat 64 (x.last % slotMod * 2 ^ 24 + x.frame % 2 ^ 24)]
      ++ (List.range 128).map (fun r => match FMap.get none x.recvs r with
          | none => 0
          | some v => BitVec.ofNat 64 ((v.1 - x.first) % 2 ^ 24 * 2 ^ 40 + (v.2.1 - x.first) % 2 ^ 24 * 2 ^ 16 + v.2.2 % 2 ^ 16))
      ++ List.replicate 6 0

/-- A refresh of a channel, due at DT `t`, at the start of the next other window (R206): it blocks the channel for 263 cycles, and those that lie in ingress windows add to
the debt. -/
def Dc.refresh (d : Dc) (c t : Nat) : Dc :=
  let d := d.until t
  let n := nextOther d.cycle
  let d := d.until (n / 2)
  d.addDebt c (263 - (otherCycles (n + 263) - otherCycles n)) (n + 263)

/-- Mode register 4 of a device reports a temperature above, or not above, 85 °C (R207). -/
def Dc.hotReport (d : Dc) (c : Nat) (hot : Bool) : Dc :=
  let l := (if hot then [c] else []) ++ d.mire.hot.filter (· != c)
  { d with mire := { d.mire with hot := l } }.set DC.MIRE.GEOM.HOTREF (!l.isEmpty).toNat

/-- The index record of a frame, if there is one. -/
def Dc.indexOf (d : Dc) (f : Nat) : Option IdxRec :=
  match FMap.get none d.mire.index (f % 2 ^ 20) with
  | some r => if r.frame = f then some r else none
  | none => none

/-- Slots whose arrival DT lies in [a, b) in fine, oldest first (R204). -/
def Dc.span (d : Dc) (a b : Int) : List (Nat × Slot) := d.validSlots.filter fun x => decide (a ≤ x.2.arr ∧ (x.2.arr : Int) < b)

end Sys2Proof.Machine
end

