-- ==== Sys2Proof/Machine/Context.lean ====
section
/-! DEFINITION. Channel contexts (R218, R219), the rate sweep (R220) and the calibration engine (R222 to R226). -/
namespace Sys2Proof.Machine

/-- Fields of a context (R218): word, lowest bit, width. -/
def cPixel : Nat × Nat × Nat := (0, 32, 32)
def cMasked : Nat × Nat × Nat := (0, 31, 1)
def cHot : Nat × Nat × Nat := (0, 30, 1)
def cDead : Nat × Nat × Nat := (0, 29, 1)
def cPoisoned : Nat × Nat × Nat := (0, 28, 1)
def cOfsValid : Nat × Nat × Nat := (0, 27, 1)
def cCurveValid : Nat × Nat × Nat := (0, 26, 1)
def cShadow : Nat × Nat × Nat := (0, 7, 17)
def cOffset : Nat × Nat × Nat := (1, 48, 16)
def cBase : Nat × Nat × Nat := (1, 32, 16)
def cRef : Nat × Nat × Nat := (1, 16, 16)
def cGen : Nat × Nat × Nat := (1, 0, 16)
def cQu : Nat × Nat × Nat := (2, 48, 16)
def cNoff : Nat × Nat × Nat := (2, 32, 16)
def cOffsetNext : Nat × Nat × Nat := (3, 48, 16)
def cQuNext : Nat × Nat × Nat := (3, 32, 16)
def cNoffNext : Nat × Nat × Nat := (3, 16, 16)
def cNext : Nat × Nat × Nat := (3, 8, 8)
def cSum : Nat × Nat × Nat := (4, 40, 24)
def cNpts : Nat × Nat × Nat := (4, 32, 8)
def cReject : Nat × Nat × Nat := (4, 24, 8)
def cRate : Nat × Nat × Nat := (5, 40, 24)
def cSweepHits : Nat × Nat × Nat := (5, 20, 20)
def cLastTick : Nat × Nat × Nat := (6, 16, 48)
def cLastFine : Nat × Nat × Nat := (6, 6, 10)
def cHits : Nat × Nat × Nat := (7, 16, 48)
def cQuiet : Nat × Nat × Nat := (7, 0, 16)

/-- A field of a context, and a context with a field replaced. -/
def cget (l : CtxLine) (f : Nat × Nat × Nat) : Nat := ctxGet l f.1 f.2.1 f.2.2
def cput (l : CtxLine) (f : Nat × Nat × Nat) (v : Nat) : CtxLine := ctxPut l f.1 f.2.1 f.2.2 v

/-- The signed value of a field. -/
def cint (l : CtxLine) (f : Nat × Nat × Nat) : Int := signed f.2.2 (cget l f)

/-- The accumulator of a context restarts (R223). -/
def cRestart (l : CtxLine) : CtxLine := cput (cput l cSum 0) cNpts 0

/-- Bits of window register `w` that a host write may change (R219). -/
def ctxHostMask (w : Nat) : Word :=
  if w = 0 then 0x8CFFFF80
  else if w = 1 then 0xFFFFFFFF
  else if w = 2 then 0xFFFF0000
  else if w = 3 then 0x0000FFFF
  else if w = 6 then 0xFFFF0300
  else if w = 7 then 0xFFFFFFFF
  else 0

/-- The accumulator of a context restarts with no points (R223). -/
def Dc.clearPoints (d : Dc) (i : Nat) : Dc :=
  ({ d with ctx := { d.ctx with points := FMap.put [] d.ctx.points i [] } } : Dc).setCtx i (cRestart (d.ctxLine i))

/-- One host write to the context window (R219). -/
def Dc.ctxWrite (d : Dc) (i w : Nat) (v : Word) : Dc :=
  let l := d.ctxLine i
  let lo := if w % 2 = 0 then 0 else 32
  let m := ctxHostMask w
  let old := BitVec.ofNat 32 (ctxGet l (w / 2) lo 32)
  let d := d.setCtx i (ctxPut l (w / 2) lo 32 ((old &&& ~~~m) ||| (v &&& m)).toNat)
  if w = 2 ∨ w = 3 then d.clearPoints i else d

/-- Host writes of consecutive window registers of one context; a write of all 16 words clears POISONED and makes the line clean (R219, R335). -/
def Dc.ctxAccess (d : Dc) (i w : Nat) (vs : List Word) : Dc :=
  let d := (List.range vs.length).foldl (fun (d : Dc) (k : Nat) => d.ctxWrite i (w + k) (vs.getD k 0)) d
  if w = 0 ∧ 16 ≤ vs.length then ((d.setCtx i (cput (d.ctxLine i) cPoisoned 0)).sramClean arrContext (8 * i) (8 * i + 8)).tornClose 8 i else d

/-- The rate in Hz of hits in a number of frames; a value that the 24-bit field cannot hold is shown as the highest one that is not
"no data" (log entry 26). -/
def rateHz (hits frames : Nat) : Nat := min 0xFFFFFE (roundQ (hits * 10000000) (2048 * frames)).toNat

/-- One context at a sweep (R220): `SWEEP_HITS` holds the hits as far as its 20 bits go, and `HITS` and `RATE` follow from it. -/
def sweepCtx (l : CtxLine) (hits last frames hot dead : Nat) : CtxLine :=
  let h := min hits (2 ^ 20 - 1)
  let l := cput (cput l cSweepHits h) cHits (cget l cHits + h)
  let l := if hits = 0 then l else cput (cput l cLastTick (last / 1024 % 2 ^ 48)) cLastFine (last % 1024)
  let r := rateHz h frames
  let q := if hits = 0 then min 65535 (cget l cQuiet + 1) else 0
  let l := cput (cput (cput l cRate r) cHot (decide (hot < r)).toNat) cQuiet q
  cput l cDead (decide (dead ≠ 0 ∧ dead ≤ q)).toNat

/-- One context takes its counts at a sweep (R220, R334): a POISONED one is left unchanged and counted. -/
def Dc.sweepLine (d : Dc) (i frames hits last : Nat) : Dc :=
  let x := d.ctxUse i
  if x.2 then x.1.inc DC.MEM.CTX_SKIP.COUNT
  else d.setCtx i (sweepCtx (d.ctxLine i) hits last frames (d.fld DC.CTX.FOLD.HOT_RATE) (d.fld DC.CTX.DEAD.FOLDS))

/-- The GATE in force at DF640 `n` for hits of a frame (R222). -/
def Dc.gateAt (d : Dc) (n frame : Nat) : Nat :=
  match (FMap.get [] d.ctx.gate n).find? fun g => decide (g.1 ≤ frame) with
  | some g => g.2
  | none => 7

/-- The copy of GATE takes a value from a frame on (R222). -/
def Dc.noteGate (d : Dc) (n frame v : Nat) : Dc :=
  { d with ctx := { d.ctx with gate := FMap.put [] d.ctx.gate n ((frame, v) :: (FMap.get [] d.ctx.gate n).take 7) } }

/-- The charge in fC of a slot's range and code (R56). -/
def chargeFc (range code : Nat) : Nat := if range = 0 then 10 * code else 200 * code

/-- Firing slots of an INJECT_SCHEDULE mark as (launch tick, charge in fC) (R124). -/
def schedSlots (a b : Rec) : List (Nat × Nat) :=
  (List.range 4).filterMap fun s =>
    if (rb a 52 4).testBit s then some (rb b (16 * s) 16, chargeFc (rb a (48 + s) 1) (rb a (8 + 10 * s) 10)) else none

/-- Note the INJECT_SCHEDULE mark of a frame. -/
def Dc.noteSched (d : Dc) (n frame : Nat) (a b : Rec) : Dc :=
  { d with ctx := { d.ctx with sched := FMap.put [] d.ctx.sched n ((frame, schedSlots a b) :: (FMap.get [] d.ctx.sched n).take 3) } }

/-- The accumulator of a context keeps the points of frames from `keep` on (R223, R334). -/
def Dc.restartLine (d : Dc) (i keep : Nat) : Dc :=
  let x := d.ctxUse i
  if x.2 then x.1.inc DC.MEM.CTX_SKIP.COUNT
  else
    let ps := (FMap.get [] d.ctx.points i).filter fun p => decide (keep ≤ p.1)
    let l := cput (cput (d.ctxLine i) cSum (unsigned 24 (ps.foldl (fun s p => s + p.2) 0))) cNpts ps.length
    ({ d with ctx := { d.ctx with points := FMap.put [] d.ctx.points i ps } } : Dc).setCtx i l

/-- Whether a ToT lies within `tol` percent of 64 × (GATE + 1) + N_off + Q / q_u (R222). -/
def totOk (tot gate noff qu q tol : Nat) : Bool :=
  let e : Int := 64 * (gate + 1) * 256 * qu + noff * qu + q * 8192 * 256
  decide (100 * ((tot * 256 * qu : Nat) - e).natAbs ≤ tol * e.natAbs)

/-- The launch and the charge of the firing slot in whose launch tick, or the 7 ticks after it, a leading edge at tick `t` lies (R222). -/
def Dc.launchOf (d : Dc) (n frame t : Nat) : Option (Nat × Nat) :=
  (((FMap.get [] d.ctx.sched n).filter fun s => s.1 == frame).flatMap (·.2)).find? fun s =>
    decide (frame * frameTicks + s.1 ≤ t ∧ t ≤ frame * frameTicks + s.1 + 7)

/-- Whether a frame lies in no restart or settling span of a channel (R223). -/
def Dc.pointsOpen (d : Dc) (n ch frame : Nat) : Bool :=
  decide (FMap.get 0 d.ctx.calFrom (41 * n) ≤ frame ∧ FMap.get 0 d.ctx.calFrom (41 * n + 1 + ch / 16) ≤ frame)

/-- A HIT as a point of its channel (R222): `f` is its time in fine, `frame` its frame, `launch` the launch tick and `charge` the charge of its slot. -/
def Dc.pointLine (d : Dc) (n ch frame f tot launch charge : Nat) : Dc :=
  let i := 640 * n + ch
  let l := d.ctxLine i
  let nn := d.fld DC.CTX.CAL.N
  if nn = 0 ∨ !d.pointsOpen n ch frame ∨ cget l cNpts = nn then d
  else if (d.ctxUse i).2 then (d.ctxUse i).1.inc DC.MEM.CTX_SKIP.COUNT
  else
    let skip := cget l cCurveValid = 0 ∨ d.fld DC.CTX.CAL.TOT_TOL = 0 ∨ cget l cQu = 0
    let reject := d.setCtx i (cput l cReject (min 255 (cget l cReject + 1)))
    if ¬ skip ∧ !totOk tot (d.gateAt n frame) (cget l cNoff) (cget l cQu) charge (d.fld DC.CTX.CAL.TOT_TOL) then reject
    else
      let r := 16 * ((f : Int) - 1024 * (frame * frameTicks + launch : Nat)) - cint l cRef
      let sum := cint l cSum + r
      if sum < -(2 ^ 23) ∨ 2 ^ 23 ≤ sum then reject
      else
        ({ d with ctx := { d.ctx with points := FMap.put [] d.ctx.points i (FMap.get [] d.ctx.points i ++ [(frame, r)]) } } : Dc).setCtx i
          (cput (cput l cSum (unsigned 24 sum)) cNpts (cget l cNpts + 1))

/-- Whether a HIT is a reference point of its DF640 (R226): one of the anchor channel chosen, without COARSE_ONLY, while the accumulator takes points. -/
def Dc.refTakes (d : Dc) (n ch flags : Nat) : Bool :=
  d.fld DC.CTX.REF_PERIOD.TICKS != 0 && d.fld (DC.CTX.ANCH.EN n) != 0 && ch == 632 + d.fld (DC.CTX.ANCH.K n) && !flags.testBit 0 && d.fld DC.CTX.CAL.N != 0
    && FMap.get 0 d.ctx.chipPts n != d.fld DC.CTX.CAL.N

/-- A reference point is added to its DF640's accumulator (R226). -/
def Dc.refPoint (d : Dc) (n ch f flags : Nat) : Dc :=
  if !d.refTakes n ch flags then d
  else
    let p := d.fld DC.CTX.REF_PERIOD.TICKS
    let r := 16 * ((f % (p * 1024) : Nat) : Int) - signed 16 (d.fld (DC.CTX.ANCH.R n))
    { d with ctx := { d.ctx with chipSum := FMap.put 0 d.ctx.chipSum n (FMap.get 0 d.ctx.chipSum n + r), chipPts := FMap.put 0 d.ctx.chipPts n (FMap.get 0 d.ctx.chipPts n + 1) } }

/-- The frame number of which a block's header gives the low 24 bits (R142): the newest such frame at its arrival. -/
def headerFrame (arr v : Nat) : Nat :=
  let now := arr / 1024 / frameTicks
  now - (now + 2 ^ 24 - v % 2 ^ 24) % 2 ^ 24

/-- The frame of the boundary at which a mark in a block was queued: that of the FRAME mark last seen on the position, which stands
before it (R124), when the block closed in that frame or the next one; otherwise the frame in which the block closed. DEDUCED (log entry 44). -/
def Dc.markFrame (d : Dc) (n j closed : Nat) : Nat :=
  let m := FMap.get 0 d.ctx.marks (2 * n + j)
  if m = closed ∨ m + 1 = closed then m else closed

/-- An update within STEP_MAX of the offset in force (R224). -/
def Dc.stepOk (d : Dc) (new old : Int) : Bool := decide ((new - old).natAbs ≤ 16 * d.fld DC.CTX.CAL.STEP_MAX)

/-- One context at the evaluation of tick 32,768 (R224); the standby stages nothing (R358). -/
def Dc.evalLine (d : Dc) (i : Nat) : Dc :=
  let l := d.ctxLine i
  if cget l cNpts < d.fld DC.CTX.CAL.N then d
  else if (d.ctxUse i).2 then (d.ctxUse i).1.inc DC.MEM.CTX_SKIP.COUNT
  else
    let new := cint l cBase + halfAway (cint l cSum) (cget l cNpts)
    let ok := d.stepOk new (cint l cOffset)
    let d := d.clearPoints i
    if d.role = roleStandby then d
    else if ok then
      let l := d.ctxLine i
      d.setCtx i (cput (cput l cOffsetNext (unsigned 16 new)) cNext (cget l cNext ||| 1))
    else d.inc DC.CTX.JUMPS.COUNT

/-- One DF640's chip offset at the evaluation (R226). -/
def Dc.calEvalChip (d : Dc) (n : Nat) : Dc :=
  let k := FMap.get 0 d.ctx.chipPts n
  if k < d.fld DC.CTX.CAL.N ∨ k = 0 then d
  else
    let m := halfAway (FMap.get 0 d.ctx.chipSum n) k
    let d := { d with ctx := { d.ctx with chipSum := FMap.put 0 d.ctx.chipSum n 0, chipPts := FMap.put 0 d.ctx.chipPts n 0 } }
    if d.role = roleStandby then d
    else if d.stepOk m (signed 16 (d.fld (DC.CTX.CHIP.CHIP_OFF n))) then
      { d with ctx := { d.ctx with chipNext := FMap.put none d.ctx.chipNext n (some m) } }
    else d.inc DC.CTX.JUMPS.COUNT

/-- The two words of an entry of the calibration log (R225). -/
def logWords (gen ctx kind value frame extra : Nat) : Rec × Rec :=
  (BitVec.ofNat 64 (gen % 65536 * 2 ^ 48 + ctx % 65536 * 2 ^ 32 + kind % 4 * 2 ^ 30 + value % 65536),
    BitVec.ofNat 64 (frame % 2 ^ 48 * 2 ^ 16 + extra % 65536))

/-- An entry is written at a position of the calibration log, half a codeword (R225, R336). -/
def Dc.putLog (d : Dc) (p : Nat) (e : Rec × Rec) : Dc :=
  let l := d.logLine p
  { d with ctx := { d.ctx with log := FMap.put (0, 0) d.ctx.log p e } }.dramPartial l.1 (2 * l.2 + p % 4 / 2)

/-- An entry of the Peat map is written, a quarter of a codeword (R303, R336). -/
def Dc.putMap (d : Dc) (l e : Nat) : Dc :=
  let x := d.mapLine l
  { d with peat := { d.peat with flash := { d.peat.flash with map := FMap.put 0 d.peat.flash.map l e } } }.dramPartial x.1 (2 * x.2 + l % 8 / 4)

/-- A request for a line (R216): it is carried out, or waits while another requester holds the line. -/
def Dc.requestBy (d : Dc) (run : Dc → Dc) (r : Nat) (line : Nat × Nat) (j : LineJob) : Dc :=
  if d.heldFrom r line.1 line.2 then { d with slu := { d.slu with wait := d.slu.wait ++ [{ r := r, target := line.1, line := line.2, since := d.now, job := some j }] } }
  else (run d).granted r line.1 (d.prioOf r)

/-- The calibration engine appends an entry to the calibration log (R225). -/
def Dc.calLog (d : Dc) (gen ctx kind value frame extra : Nat) : Dc :=
  let n := d.fld DC.CTX.LOGPOS.COUNT
  let p := n % 2 ^ 20
  let e := logWords gen ctx kind value frame extra
  (d.requestBy (·.putLog p e) 2 (d.logLine p) (.logEntry p e)).set DC.CTX.LOGPOS.COUNT ((n + 1) % 2 ^ 32)

/-- One context takes its staged values at the boundary that begins `frame` (R224, R225); a poisoned one is left unchanged (R334). -/
def Dc.applyLine (d : Dc) (gen frame i : Nat) : Dc :=
  let x := d.ctxUse i
  if x.2 then x.1.inc DC.MEM.CTX_SKIP.COUNT
  else
    let l := d.ctxLine i
    let nx := cget l cNext
    let a := if nx.testBit 0 then cput (cput l cOffset (cget l cOffsetNext)) cOfsValid 1 else l
    let a := if nx.testBit 1 then cput (cput a cQu (cget l cQuNext)) cNoff (cget l cNoffNext) else a
    let d := d.setCtx i (cput (cput a cNext 0) cGen gen)
    let d := if nx.testBit 0 then d.calLog gen i 0 (cget l cOffsetNext) frame 0 else d
    if nx.testBit 1 then d.calLog gen i 1 (cget l cQuNext) frame (cget l cNoffNext) else d

/-- One context from a copy (R358): offsets, curves, what the host writes, staged values; the unit's own sums, rate and counts stay. -/
def mergeCtx (own other : CtxLine) : CtxLine :=
  let o := other
  let l := [o.getD 0 0, o.getD 1 0, o.getD 2 0, o.getD 3 0, own.getD 4 0, own.getD 5 0, own.getD 6 0, own.getD 7 0]
  cput (cput (cput l cHot (cget own cHot)) cDead (cget own cDead)) cPoisoned (cget own cPoisoned)

/-- One context from a copy, with the marks of the words that it brings (R326, R358). -/
def Dc.copyLine (d : Dc) (i : Nat) (other : CtxLine) (marks : List Nat) : Dc :=
  let d := (d.setCtx i (mergeCtx (d.ctxLine i) other)).sramClean arrContext (8 * i) (8 * i + 4)
  (List.range 4).foldl (fun (d : Dc) (w : Nat) => if marks.getD w 0 = markClean then d else d.setSram arrContext (8 * i + w) (marks.getD w 0)) d

/-- The line that a job reads, merges and writes: target and line. -/
def Dc.jobLine (d : Dc) : LineJob → Nat × Nat
  | .window i _ _ => (8, i)
  | .shadow i _ => (8, i)
  | .sweep i _ _ _ => (8, i)
  | .point n ch _ _ _ _ _ => (8, 640 * n + ch)
  | .restart i _ => (8, i)
  | .eval i => (8, i)
  | .apply _ _ i => (8, i)
  | .copy i _ _ => (8, i)
  | .logEntry p _ => d.logLine p
  | .mapEntry l _ => d.mapLine l

/-- A job is carried out. -/
def Dc.runJob (d : Dc) : LineJob → Dc
  | .window i w vs => d.ctxAccess i w vs
  | .shadow i v => d.setCtx i (cput (d.ctxLine i) cShadow v)
  | .sweep i frames hits last => d.sweepLine i frames hits last
  | .point n ch frame f tot launch charge => d.pointLine n ch frame f tot launch charge
  | .restart i keep => d.restartLine i keep
  | .eval i => d.evalLine i
  | .apply gen frame i => d.applyLine gen frame i
  | .copy i other marks => d.copyLine i other marks
  | .logEntry p e => d.putLog p e
  | .mapEntry l e => d.putMap l e

/-- A requester asks for a read, merge and write of a line (R216, R218). -/
def Dc.request (d : Dc) (r : Nat) (j : LineJob) : Dc := d.requestBy (·.runJob j) r (d.jobLine j) j

/-- Host writes of consecutive window registers, one locked sequence for each context (R219). -/
def Dc.ctxWrites (d : Dc) (i w : Nat) (vs : List Word) : Dc :=
  (List.range ((w + vs.length + 15) / 16)).foldl (fun (d : Dc) (k : Nat) =>
    let part := if k = 0 then vs.take (16 - w) else (vs.drop (16 * k - w)).take 16
    d.request 7 (.window (i + k) (if k = 0 then w else 0) part)) d

/-- One context at a sweep (R220, R334): a channel whose bank word is poisoned loses its counts of the period. -/
def Dc.sweepOne (d : Dc) (frames i : Nat) : Dc :=
  if d.sramMark arrBank i ≠ 0 then (((d.bite logSram arrBank i).setSram arrBank i 0).logClose logSram arrBank i).inc DC.MEM.CTX_SKIP.COUNT
  else
    let b := FMap.get (0, 0) d.ctx.bank i
    d.request 9 (.sweep i frames b.1 b.2)

/-- The rate sweep folds the counter banks into every context, one locked sequence each (R220). -/
def Dc.sweep (d : Dc) : Dc :=
  let frames := d.fld DC.CTX.FOLD.FRAMES
  let d := d.until ((d.ctx.sweepFrame + frames) * frameTicks)
  let d := (List.range 40960).foldl (fun (d : Dc) (i : Nat) => d.sweepOne frames i) d
  { d with ctx := { d.ctx with bank := [], sweepFrame := d.ctx.sweepFrame + frames } }

/-- Restart accumulators of channels of DF640 `n` from channel `c` on; hits of frames before `keep` give no points (R223). -/
def Dc.calRestart (d : Dc) (n c count key keep : Nat) : Dc :=
  let d := (List.range count).foldl (fun (d : Dc) (k : Nat) =>
    let i := 640 * n + c + k
    if cget (d.ctxLine i) cNpts = 0 ∧ cget (d.ctxLine i) cSum = 0 then d else d.request 2 (.restart i keep)) d
  { d with ctx := { d.ctx with calFrom := FMap.put 0 d.ctx.calFrom (41 * n + key) (max keep (FMap.get 0 d.ctx.calFrom (41 * n + key))) } }

/-- The slot whose launch a HIT answers, where the calibration engine considers it (R222): with INJ, none of COARSE_ONLY, PILEUP, TOT_SAT, CLAMP and CAL_AGED, and in a
launch of its frame. -/
def Dc.pointOf (d : Dc) (n frame f flags : Nat) : Option (Nat × Nat) :=
  if d.fld DC.CTX.CAL.N = 0 ∨ flags.testBit 1 = false ∨ flags &&& 0x5D ≠ 0 then none else d.launchOf n frame (f / 1024)

/-- The calibration engine takes a HIT as a point (R222). -/
def Dc.calPoint (d : Dc) (n ch frame f tot flags : Nat) : Dc :=
  match d.pointOf n frame f flags with
  | none => d
  | some s => d.request 2 (.point n ch frame f tot s.1 s.2)

/-- Records that the calibration engine reads in a frame at the present step of ELASTIC: 640, 320 or 160 million a second (R448). -/
def Dc.calRate (d : Dc) : Nat := 131072 / 2 ^ d.fld DC.BOOT.DROOP_STAT.STEP

/-- A HIT passes the calibration engine (R222, R226); beyond the engine's rate its points are not taken and count in `CAL_SKIP` (R448). The rate is held frame by
frame. DESIGN CHOICE (log entry 133). -/
def Dc.calHit (d : Dc) (n ch frame f tot flags : Nat) : Dc :=
  let r := if d.ctx.readIn.1 = d.frame then d.ctx.readIn.2 else 0
  let d : Dc := { d with ctx := { d.ctx with readIn := (d.frame, r + 1) } }
  if r < d.calRate then (d.calPoint n ch frame f tot (flags % 128)).refPoint n ch f flags
  else if (d.pointOf n frame f (flags % 128)).isSome ∨ d.refTakes n ch flags then d.inc DC.BOOT.CAL_SKIP.COUNT
  else d

/-- The calibration engine and the counter banks take an accepted block at the ingress tap (R220, R222, R223, R226). -/
def Dc.calTap (d : Dc) (n j : Nat) (ws : List Rec) (arr : Nat) : Dc :=
  let closed := headerFrame arr (rb (ws.getD 0 0) 8 24)
  (readPayload 1 (payloadOf ws)).foldl (fun (d : Dc) x =>
    let w := x.2.1
    if kindOf w = 1 ∧ rb w 50 10 < 640 then
      let ch := rb w 50 10
      let frame := hitFrame (arr / 1024) (rb w 34 16)
      let f := 1024 * (frame * frameTicks + rb w 34 16) + rb w 24 10
      let b := FMap.get (0, 0) d.ctx.bank (640 * n + ch)
      let d := { d with ctx := { d.ctx with bank := FMap.put (0, 0) d.ctx.bank (640 * n + ch) (b.1 + 1, max b.2 f) } }
      d.calHit n ch frame f (rb w 8 16) (rb w 0 8)
    else if kindOf w = 3 ∧ subOf w = 0 then { d with ctx := { d.ctx with marks := FMap.put 0 d.ctx.marks (2 * n + j) (rb w 8 48) } }
    else if kindOf w = 3 ∧ subOf w = 4 then
      match x.2.2 with
      | some v => d.noteSched n (d.markFrame n j closed) w v
      | none => d
    else if kindOf w = 3 ∧ subOf w = 2 then
      if rb w 32 8 &&& 0xD ≠ 0 then d.calRestart n 0 640 0 (d.markFrame n j closed) else d
    else if kindOf w = 3 ∧ subOf w = 1 then
      if rb w 50 6 < 40 then d.calRestart n (16 * rb w 50 6) 16 (1 + rb w 50 6) (d.markFrame n j closed + d.fld DC.CTX.CAL.SETTLE) else d
    else d) d

/-- The calibration engine evaluates at tick 32,768 (R224, R226). -/
def Dc.calEval (d : Dc) : Dc :=
  let d := d.until (if d.now % frameTicks ≤ 32768 then d.frame * frameTicks + 32768 else (d.frame + 1) * frameTicks + 32768)
  if d.fld DC.CTX.CAL.N = 0 then d
  else
    let due := (d.ctx.ctxs.filter fun x => decide (d.fld DC.CTX.CAL.N ≤ cget x.2 cNpts)).map (·.1)
    let d := due.foldl (fun (d : Dc) (i : Nat) => d.request 2 (.eval i)) d
    (List.range 64).foldl Dc.calEvalChip d

/-- Every staged offset, curve and chip offset takes effect together at the boundary that begins `frame` (R224 to R226). -/
def Dc.calApply (d : Dc) (frame : Nat) : Dc :=
  let due := (d.ctx.ctxs.filter fun x => cget x.2 cNext % 4 != 0).map (·.1)
  let chips := d.ctx.chipNext
  if due.isEmpty ∧ chips.isEmpty then d
  else
    let gen := (d.fld DC.CTX.GEN.GEN + 1) % 65536
    let d := d.set DC.CTX.GEN.GEN gen
    let d := due.foldl (fun (d : Dc) (i : Nat) => d.request 2 (.apply gen frame i)) d
    let d := chips.foldl (fun (d : Dc) (x : Nat × Option Int) =>
      match x.2 with
      | some v => (d.set (DC.CTX.CHIP.CHIP_OFF x.1) (unsigned 16 v)).calLog gen (0xA000 + x.1) 2 (unsigned 16 v) frame 0
      | none => d) d
    { d with ctx := { d.ctx with chipNext := [] } }

end Sys2Proof.Machine
end

