-- ==== Sys2Proof/Machine/Trigger.lean ====
section
/-! DEFINITION. The trigger engine: the global tussock map (R231 to R234), patterns (R236 to R241), sources and hold-off (R242 to
R247), decisions and tombstones (R248 to R253, R260, R263), rates (R265). -/
namespace Sys2Proof.Machine

/-- Slices and groups in a frame (R6, R121). -/
def sliceTicks : Nat := 4
def frameSlices : Nat := 16384
def groupSlices : Nat := 64
def frameGroups : Nat := 256

/-- Source codes (R242). -/
def srcPattern : Nat := 1
def srcWisp : Nat := 2
def srcWindow : Nat := 3
def srcExt : Nat := 4
def srcSoft : Nat := 5

/-- Tombstone reasons (R263). -/
def tombHoldoff : Nat := 1
def tombNotHeld : Nat := 2
def tombFull : Nat := 3
def tombIndexPoison : Nat := 4

/-- A DF640's tussock records on their way. -/
def Dc.primSt (d : Dc) (n : Nat) : PrimSt := FMap.get {} d.trg.prim n
def Dc.setPrim (d : Dc) (n : Nat) (x : PrimSt) : Dc := { d with trg := { d.trg with prim := FMap.put {} d.trg.prim n x } }

/-- A DF640 becomes STALE and the miss is counted (R232, R234). -/
def Dc.primMiss (d : Dc) (n : Nat) : Dc := (d.staleNow n).inc (DC.TRG.PRIM_MISS.COUNT n)

/-- A RESYNC group that was not complete applies nothing (R232). DEDUCED (log entry 45). -/
def Dc.cutResync (d : Dc) (n : Nat) : Dc :=
  let x := d.primSt n
  match x.resync with
  | none => d
  | some _ => (d.setPrim n { x with resync := none }).primMiss n

/-- One bit of the map takes the state that a change of slice `s` gives it, unless a change of a later slice has been applied to it (R231, R234). -/
def TrgSt.setBit (t : TrgSt) (s n k : Nat) (v : Bool) : TrgSt :=
  if s + 1 < FMap.get 0 t.bitAt (64 * n + k) then t
  else
    let w := FMap.get 0 t.map n
    { t with map := FMap.put 0 t.map n (if v then w ||| 2 ^ k else w - (w &&& 2 ^ k)), bitAt := FMap.put 0 t.bitAt (64 * n + k) (s + 1) }

/-- Apply a change to the map; a RESYNC sets all 64 bits and ends STALE (R232, R234, R334). -/
def Dc.mapApply (d : Dc) (c : MapChange) : Dc :=
  match c.bit with
  | some (k, v) => { d with trg := d.trg.setBit c.slice c.n k v }
  | none =>
    let t := (List.range 64).foldl (fun (t : TrgSt) (k : Nat) => t.setBit c.slice c.n k (c.word.testBit k)) d.trg
    { d with trg := { t with fresh := c.n :: t.fresh.filter (· != c.n) } }.sramClean arrTrigger c.n (c.n + 1)

/-- Keep changes in slice order, later arrivals of one slice after earlier ones. -/
def insChange (c : MapChange) : List MapChange → List MapChange
  | [] => [c]
  | x :: t => if c.slice < x.slice then c :: x :: t else x :: insChange c t

/-- A change for a slice of a group already evaluated updates the map at once (R234); otherwise it waits for its slice, also while the engine is disabled
(R231, R241). -/
def Dc.mapChange (d : Dc) (c : MapChange) : Dc :=
  if c.slice < groupSlices * d.trg.group then d.mapApply c
  else { d with trg := { d.trg with changes := insChange c d.trg.changes } }

/-- The PRIM records that wait become changes of frame `frame` (R121, R232). -/
def Dc.flushPrims (d : Dc) (n frame : Nat) : Dc :=
  let x := d.primSt n
  x.prims.foldl (fun (d : Dc) p => d.mapChange { slice := frame * frameSlices + p.1, n := n, bit := some p.2 }) (d.setPrim n { x with prims := [] })

/-- Whether the WATERMARK of group `g` has arrived. -/
def PrimSt.delivered (x : PrimSt) (g : Nat) : Bool := decide (g < x.upTo) && !x.gaps.any fun p => decide (p.1 ≤ g ∧ g < p.2)

/-- The first group from `c` on whose WATERMARK has not arrived. -/
def PrimSt.firstMissing (x : PrimSt) (c : Nat) : Nat := x.gaps.foldl (fun (m : Nat) (p : Nat × Nat) => if c < p.2 then min m (max c p.1) else m) (max c x.upTo)

/-- The WATERMARK of group `g` arrives; gaps before group `old` no longer matter. -/
def PrimSt.mark (x : PrimSt) (g old : Nat) : PrimSt :=
  let cut (p : Nat × Nat) : List (Nat × Nat) :=
    if p.1 ≤ g ∧ g < p.2 then (if p.1 < g then [(p.1, g)] else []) ++ (if g + 1 < p.2 then [(g + 1, p.2)] else []) else [p]
  let gaps := (if g < x.upTo then x.gaps.flatMap cut else x.gaps ++ (if x.upTo < g then [(x.upTo, g)] else [])).filter fun p => decide (old < p.2)
  { x with upTo := max x.upTo (g + 1), gaps := gaps }

/-- A WATERMARK of DF640 `n` closes a group (R121, R232 to R234). -/
def Dc.watermark (d : Dc) (n frame slice count : Nat) : Dc :=
  let d := d.cutResync n
  let x := d.primSt n
  let g := frame * frameGroups + slice / groupSlices
  let d := if x.count < count then d.primMiss n else d
  let d := match x.expect with | some e => if e < g then d.primMiss n else d | none => d
  let d := d.flushPrims n frame
  d.setPrim n { (d.primSt n).mark g d.trg.complete with count := 0, expect := some (g + 1) }

/-- A complete RESYNC group: the records that stand before it take effect, then all 64 bits are set from its slice (R123, R232). -/
def Dc.resyncDone (d : Dc) (n : Nat) (r : ResyncSt) : Dc :=
  let d := d.flushPrims n r.frame
  (d.setPrim n { d.primSt n with resync := none }).mapChange { slice := r.frame * frameSlices + r.slice, n := n, bit := none, word := r.word }

/-- A PRIM record: of the RESYNC group being collected when it fits, otherwise a change of its own (R232). -/
def Dc.prim (d : Dc) (n k slice : Nat) (state : Bool) : Dc :=
  let fits := match (d.primSt n).resync with | some r => state && r.slice == slice | none => false
  let d := if fits then d else d.cutResync n
  let x := d.primSt n
  match x.resync with
  | some r =>
    let r := { r with left := r.left - 1, word := r.word ||| 2 ^ k }
    let d := d.setPrim n { x with count := x.count + 1, resync := some r }
    if r.left = 0 then d.resyncDone n r else d
  | none => d.setPrim n { x with count := x.count + 1, prims := x.prims ++ [(slice, k, state)] }

/-- A RESYNC record (R123, R232, R234): cause 3 opens a span of RUN and restarts what is counted and expected. -/
def Dc.resync (d : Dc) (n pos cause slice frame ones : Nat) : Dc :=
  let d := d.cutResync n
  let x := d.primSt n
  let d := if cause = 3 then d.setPrim n { x with prims := [], count := 0, expect := some (frame * frameGroups + slice / groupSlices) } else d
  let r : ResyncSt := { slice := slice, frame := frame, left := ones, pos := pos }
  if ones = 0 then d.resyncDone n r else d.setPrim n { d.primSt n with resync := some r }

/-- A record of another kind stands on the control lane: it cuts a RESYNC group short (R123). FRAME and INJECT_SCHEDULE marks stand on
both positions, so such a mark counts only on the position that brought the RESYNC. -/
def Dc.otherMark (d : Dc) (n pos sub : Nat) : Dc :=
  match (d.primSt n).resync with
  | none => d
  | some r => if (sub = 0 ∨ sub = 4) ∧ r.pos ≠ pos then d else d.cutResync n

/-- The engine takes the PRIM, RESYNC and WATERMARK records of an accepted block of lane position `pos` (R232); it ignores words with a reserved code point
(R16, R195). -/
def Dc.trgTap (d : Dc) (n pos : Nat) (ws : List Rec) (arr : Nat) : Dc :=
  (readPayload 1 (payloadOf ws)).foldl (fun (d : Dc) x =>
    let w := x.2.1
    let k := kindOf w
    if badRecord w (x.1 == 30) then d
    else if k = 2 then d.prim n (rb w 54 6) (rb w 39 14) (rb w 53 1 == 1)
    else if k = 5 ∧ subOf w = 0 then d.resync n pos (rb w 54 2) (rb w 40 14) (headerFrame arr (rb w 16 24)) (rb w 8 7)
    else if k = 3 ∧ subOf w = 3 then d.watermark n (headerFrame arr (rb w 18 24)) (rb w 42 14) (rb w 4 14)
    else if k = 3 then d.otherMark n pos (subOf w)
    else if k = 4 then d.cutResync n
    else d) d

/-- Whether DF640 `n` takes part (R233). -/
def Dc.takesPart (d : Dc) (n : Nat) : Bool :=
  (if n < 32 then (d.fld DC.TRG.PART_LO.MASK).testBit n else (d.fld DC.TRG.PART_HI.MASK).testBit (n - 32)) && d.portRun n

/-- Participating DF640s whose WATERMARK for a group has not arrived (R233). -/
def Dc.missing (d : Dc) (g : Nat) : List Nat := (List.range 64).filter fun n => d.takesPart n && !(d.primSt n).delivered g

/-- The first group that is not complete: groups complete strictly in order, once they have ended and every participating DF640 has delivered its
WATERMARK (R233). -/
def Dc.completeTo (d : Dc) : Nat :=
  max d.trg.complete (((List.range 64).filter d.takesPart).foldl (fun (m : Nat) (n : Nat) => min m ((d.primSt n).firstMissing d.trg.complete)) (d.now / (groupSlices * sliceTicks)))

/-- Whether a group is complete (R233). -/
def Dc.groupDone (d : Dc) (g : Nat) : Bool := decide (g < d.completeTo)

/-- The last tick of the slices of group `g` plus 1: a group holds 64 slices of 4 ticks. -/
def groupEnd (g : Nat) : Nat := (g + 1) * (groupSlices * sliceTicks)

/-- WM_WAIT ticks have passed since the end of the group awaited (R233, R234). Groups complete whether or not the engine evaluates them. DEDUCED (log entry 46). -/
def Dc.wmWait (d : Dc) : Dc :=
  let g := d.completeTo
  let late := d.missing g
  if late.isEmpty then d
  else
    let d := d.until (groupEnd g + d.fld DC.TRG.WM_WAIT.TICKS)
    let d := late.foldl (fun (d : Dc) (n : Nat) => (d.staleNow n).inc (DC.TRG.WM_LATE.COUNT n)) d
    { d with trg := { d.trg with complete := g + 1 } }

/-- The map bit that selector entry `i` of pattern `j` names (R236). -/
def Dc.selector (d : Dc) (j i : Nat) : Nat := if i % 2 = 0 then d.fld (DC.TRG.SEL.E0 j (i / 2)) else d.fld (DC.TRG.SEL.E1 j (i / 2))

/-- A pattern's care and value words. -/
def Dc.care (d : Dc) (j : Nat) : Nat := d.fld (DC.TRG.CARE_LO.C j) + 2 ^ 32 * d.fld (DC.TRG.CARE_HI.C j)
def Dc.value (d : Dc) (j : Nat) : Nat := d.fld (DC.TRG.VALUE_LO.V j) + 2 ^ 32 * d.fld (DC.TRG.VALUE_HI.V j)

/-- Cared entries of a pattern as map bit and wanted state. -/
def Dc.cared (d : Dc) (j : Nat) : List (Nat × Bool) :=
  let c := d.care j
  let v := d.value j
  (List.range 64).filterMap fun i => if c.testBit i then some (d.selector j i, v.testBit i) else none

/-- The state of a map bit (R231). -/
def Dc.mapBit (d : Dc) (b : Nat) : Bool := (FMap.get 0 d.trg.map (b / 64)).testBit (b % 64)

/-- Whether DF640 `n` is STALE. -/
def Dc.stale (d : Dc) (n : Nat) : Bool := !d.trg.fresh.contains n

/-- Whether a cared bit of a pattern belongs to a STALE DF640. -/
def Dc.carefulStale (d : Dc) (j : Nat) : Bool := (d.cared j).any fun x => d.stale (x.1 / 64)

/-- Whether pattern `j` matches on the map as it stands (R237). -/
def Dc.matches (d : Dc) (j : Nat) : Bool :=
  !(d.fld (DC.TRG.PCTRL.STALE_BLOCK j) == 1 && d.carefulStale j) && (d.cared j).all fun x => d.mapBit x.1 == x.2

/-- The run of a pattern. -/
def Dc.run (d : Dc) (j : Nat) : PatRun := FMap.get {} d.trg.runs j
def Dc.setRun (d : Dc) (j : Nat) (x : PatRun) : Dc := { d with trg := { d.trg with runs := FMap.put {} d.trg.runs j x } }

/-- Enabled patterns. -/
def Dc.enabledPatterns (d : Dc) : List Nat := (List.range 512).filter fun j => d.fld (DC.TRG.PCTRL.EN j) == 1

/-- A firing: its slice, s₀, the pattern and whether its run met a STALE DF640 (R238 to R240). -/
abbrev Firing := Nat × Nat × Nat × Bool

/-- One pattern over the slices `a` to `b`, on which the map does not change (R238). -/
def Dc.patternOver (d : Dc) (j a b : Nat) : Dc × Option Firing :=
  let r := d.run j
  if !d.matches j then (d.setRun j { s0 := none, fired := false, stale := false, fresh := false }, none)
  else
    let s0 := r.s0.getD a
    let st := r.stale || d.carefulStale j
    let at' := s0 + d.fld (DC.TRG.PCTRL.PERSIST j)
    if !r.fired ∧ at' ≤ b then ((d.setRun j { s0 := some s0, fired := true, stale := st, fresh := false }).inc (DC.TRG.FIRED.COUNT j), some (at', s0, j, st))
    else (d.setRun j { s0 := some s0, fired := r.fired, stale := st, fresh := false }, none)

/-- Every enabled pattern over a span without changes. -/
def Dc.patternsOver (d : Dc) (a b : Nat) : Dc × List Firing :=
  d.enabledPatterns.foldl (fun (x : Dc × List Firing) (j : Nat) =>
    let y := x.1.patternOver j a b
    (y.1, match y.2 with | some f => x.2 ++ [f] | none => x.2)) (d, [])

/-- Evaluate the slices from `a` to the last slice `b` of a group, taking the changes due in slice order (R238). -/
def Dc.evalSlices (d : Dc) (b : Nat) : Nat → Nat → Dc × List Firing
  | 0, _ => (d, [])
  | fuel + 1, a =>
    let due := d.trg.changes.filter fun c => decide (c.slice ≤ a)
    let d := { d with trg := { d.trg with changes := d.trg.changes.filter fun c => decide (a < c.slice) } }
    let d := due.foldl Dc.mapApply d
    let next := match d.trg.changes with | c :: _ => if c.slice ≤ b then c.slice else b + 1 | [] => b + 1
    let x := d.patternsOver a (next - 1)
    if next ≤ b then
      let y := Dc.evalSlices x.1 b fuel next
      (y.1, x.2 ++ y.2)
    else x

/-- The order of decision of firings: by firing slice, then by s₀, then by pattern (R239). -/
def firingLt (a b : Firing) : Bool :=
  decide (a.1 < b.1) || (a.1 == b.1 && (decide (a.2.1 < b.2.1) || (a.2.1 == b.2.1 && decide (a.2.2.1 < b.2.2.1))))

/-- Insert in the order of decision. -/
def insFiring (f : Firing) : List Firing → List Firing
  | [] => [f]
  | x :: t => if firingLt f x then f :: x :: t else x :: insFiring f t

/-- PATTERN triggers from sorted firings: those of one slice and one T form one trigger (R239). -/
def mergeFirings : List Firing → List Trig
  | [] => []
  | f :: t =>
    match mergeFirings t with
    | g :: u =>
      if g.slice = f.1 ∧ g.tTick = sliceTicks * f.2.1 then
        { g with detail := f.2.2.1 * 2 ^ 23 + (g.detail / 2 ^ 13 % 1024 + 1) * 2 ^ 13, stale := g.stale || f.2.2.2 } :: u
      else { slice := f.1, source := srcPattern, tTick := sliceTicks * f.2.1, detail := f.2.2.1 * 2 ^ 23 + 2 ^ 13, stale := f.2.2.2 } :: g :: u
    | [] => [{ slice := f.1, source := srcPattern, tTick := sliceTicks * f.2.1, detail := f.2.2.1 * 2 ^ 23 + 2 ^ 13, stale := f.2.2.2 }]

/-- The scope of a source (R242). -/
def Dc.scope (d : Dc) (s : Nat) : Nat := d.fld (DC.TRG.SCOPE_LO.MASK s) + 2 ^ 32 * d.fld (DC.TRG.SCOPE_HI.MASK s)

/-- Whether a source is enabled. -/
def Dc.sourceOn (d : Dc) (s : Nat) : Bool := d.fld (DC.TRG.HOLDOFF.EN s) == 1

/-- D_cap (R251). -/
def Dc.dcap (d : Dc) : Nat := d.ringSlots * 25 / 48

/-- The window limit in ticks (R251), with D_cap as the register shows it. -/
def Dc.windowLimit (d : Dc) : Int :=
  min (frameTicks * d.fld DC.TRG.WIN_MAX.FRAMES : Nat) ((d.fld DC.TRG.DCAP.TICKS : Int) - 31744 - frameTicks * d.fld DC.TRG.GUARD.FRAMES)

/-- The header words of a record (R260); `gen` is the generation under which it was built. -/
def headerWords (kind : Nat) (x : Decision) (gen start stop hits w7 : Nat) : List Rec :=
  [BitVec.ofNat 64 (kind * 2 ^ 60 + 2 ^ 56 + x.source % 16 * 2 ^ 52 + x.seq % 2 ^ 48),
   BitVec.ofNat 64 (if x.source = srcWindow then 0 else x.tTick),
   BitVec.ofNat 64 (x.tFine % 1024 * 2 ^ 54 + gen % 65536 * 2 ^ 32 + x.epoch % 65536 * 2 ^ 16 + x.flags % 65536),
   BitVec.ofNat 64 x.start, BitVec.ofNat 64 start, BitVec.ofNat 64 stop,
   BitVec.ofNat 64 (x.detail % 2 ^ 32 * 2 ^ 32 + hits % 2 ^ 32), BitVec.ofNat 64 w7]

/-- A tombstone record (R260, R263). -/
def tombWords (x : Decision) (gen reason : Nat) : List Rec := headerWords 0xD x gen 0 0 0 (reason * 2 ^ 56 + 2 ^ 47)

/-- Queue a tombstone (R250, R263). -/
def Dc.queueTomb (d : Dc) (x : Decision) (reason : Nat) : Dc :=
  { d with trg := { d.trg with tombs := d.trg.tombs ++ [(x.frame, tombWords x (d.fld DC.CTX.GEN.GEN) reason)] } }.inc (DC.TRG.TOMB.COUNT reason)

/-- Time of the last admitted trigger of a source, in fine. -/
def Dc.tLast (d : Dc) (s : Nat) : Option Nat := (FMap.get none d.trg.tLast s).map fun t => 1024 * t.1 + t.2

/-- Whether a trigger of a source at T is refused in hold-off (R247). -/
def Dc.heldOff (d : Dc) (s t : Nat) : Bool :=
  match d.tLast s with
  | some l => decide (s ≠ srcWindow ∧ d.fld (DC.TRG.HOLDOFF.SLICES s) ≠ 0 ∧ t < l + 1024 * (sliceTicks * d.fld (DC.TRG.HOLDOFF.SLICES s)))
  | none => false

/-- An admitted trigger moves its source's T_last, and the wisp timer (R243, R247). -/
def Dc.takeTrig (d : Dc) (x : Decision) : Dc :=
  if x.source = srcWindow then d
  else
    let s := x.tTick / sliceTicks
    { d with trg := { d.trg with tLast := FMap.put none d.trg.tLast x.source (some (x.tTick, x.tFine)),
                                 sLast := some (match d.trg.sLast with | some l => max l s | none => s) } }

/-- Cut a window to the limit (R253): the end, and whether it was cut; none when less than one tick would be left. -/
def Dc.cutWindow (d : Dc) (start stop : Nat) : Option (Nat × Bool) :=
  if d.windowLimit < (stop : Int) - start then
    (if d.windowLimit < 1 then none else some (start + d.windowLimit.toNat, true))
  else some (stop, false)

/-- The frame whose copy takes a decision made now: while paired a copy takes at most 8,192, and further ones go into the next (R356). -/
def Dc.copyFrame (d : Dc) : Nat × Nat :=
  let base := max d.frame d.pair.decFrame
  let n := if base = d.pair.decFrame then d.pair.decCount else 0
  if d.paired ∧ 8192 ≤ n then (base + 1, 1) else (base, n + 1)

/-- A decided trigger (R247 to R250): its number, and what becomes of it. `win` is the window of a WINDOW request. DEDUCED (log entry 47). -/
def Dc.decideTrig (d : Dc) (t : Trig) (win : Option (Nat × Nat)) : Dc × Option Nat :=
  if 16384 ≤ d.trg.tombs.length then (((d.inc DC.TRG.UNNUMBERED.COUNT).set DC.TRG.STATUS.TQ_FULL 1).addTot totUnnumbered 1, none)
  else
    let seq := d.trg.next
    let d := ({ d with trg := { d.trg with next := (seq + 1) % 2 ^ 48 } }.addTot totIssued 1).addTot totPending 1
    let cf := d.copyFrame
    let d : Dc := { d with pair := { d.pair with decFrame := cf.1, decCount := cf.2 } }
    let start := match win with | some w => w.1 | none => t.tTick - sliceTicks * d.fld (DC.TRG.PRE.SLICES t.source)
    let stop := match win with | some w => w.2 | none => t.tTick + sliceTicks * d.fld (DC.TRG.POST.SLICES t.source)
    let x : Decision := { seq := seq, source := t.source, tTick := t.tTick, tFine := t.tFine, start := start, stop := stop,
                          flags := 4 * t.stale.toNat + 16 * (d.servo == svUnsync).toNat, detail := t.detail, epoch := d.epoch,
                          scope := d.scope t.source, frame := cf.1 }
    if d.heldOff t.source (1024 * t.tTick + t.tFine) then
      ((d.queueTomb x tombHoldoff).inc (DC.TRG.REFUSED.COUNT t.source), some seq)
    else
      let d := d.takeTrig x
      if 4096 ≤ d.trg.caps.length then ((d.queueTomb x tombFull).set DC.TRG.STATUS.IF_FULL 1, some seq)
      else
        match d.cutWindow start stop with
        | none => (d.queueTomb x tombNotHeld, some seq)
        | some (e, cut) =>
          let x := { x with stop := e, flags := x.flags + 2 * cut.toNat }
          let d := { d with trg := { d.trg with caps := d.trg.caps ++ [({ dec := x } : Cap)], period := d.trg.period.upd 0 t.source (· + 1) } }
          let d := if d.trg.caps.length = 4096 then d.set DC.TRG.STATUS.IF_FULL 1 else d
          ((d.inc (DC.TRG.ACCEPTED.COUNT t.source)).set DC.TRG.STATUS.IN_FLIGHT d.trg.caps.length, some seq)

/-- Whether the wisp source fires at a slice (R243). -/
def Dc.wispAt (d : Dc) (s : Nat) : Bool :=
  let n := d.fld DC.TRG.WISP.TIMEOUT
  let l := d.trg.sLast.getD d.trg.fromSlice
  decide (0 < n ∧ l + n ≤ s) && d.sourceOn srcWisp

/-- Decide what belongs to one slice: its PATTERN triggers, then the wisp source (R243, R248). -/
def Dc.decideSlice (d : Dc) (trigs : List Trig) (s : Nat) : Dc :=
  let d := (trigs.filter fun t => t.slice == s).foldl (fun (d : Dc) t => (d.decideTrig t none).1) d
  if d.wispAt s then (d.decideTrig ({ slice := s, source := srcWisp, tTick := sliceTicks * s } : Trig) none).1 else d

/-- Decide the triggers of a span of slices in order. -/
def Dc.decideSpan (d : Dc) (trigs : List Trig) (a n : Nat) : Dc := (List.range n).foldl (fun (d : Dc) (k : Nat) => d.decideSlice trigs (a + k)) d

/-- Words of the trigger memory (R334): words 0 to 63 are the map, one for each DF640, and 18 words follow for each pattern. -/
def patWords : Nat := 18

/-- Poisoned words of the trigger memory bite when the engine reads them (R334): the DF640 of a map word becomes STALE, an enabled pattern
is disabled with a notice. -/
def Dc.trgBites (d : Dc) : Dc :=
  let ws := (d.mem.sram.filter fun x => decide (x.1 / 2 ^ 24 = arrTrigger)).map fun x => x.1 % 2 ^ 24
  ws.foldl (fun (d : Dc) (w : Nat) =>
    if w < 64 then (if d.stale w then d else (d.staleNow w).bite logSram arrTrigger w)
    else
      let j := (w - 64) / patWords
      if j < 512 ∧ d.fld (DC.TRG.PCTRL.EN j) = 1 then
        ((((d.setRun j {}).set (DC.TRG.PCTRL.EN j) 0).set (DC.TRG.PCTRL.MATCH j) 0).bite logSram arrTrigger w).notify 0x0103 j
      else d) d

/-- The completed group is evaluated (R233, R238 to R240, R243): the active unit decides; a standby keeps what it finds (R235, R365). -/
def Dc.groupEval (d : Dc) : Dc :=
  let g := d.trg.group
  if d.fld DC.TRG.CTRL.EN = 0 ∨ !d.groupDone g then d
  else
    let d := d.trgBites
    let a := groupSlices * g
    let x := d.evalSlices (a + 63) 65 a
    let d := x.1
    let trigs := if d.sourceOn srcPattern then mergeFirings (x.2.foldl (fun l f => insFiring f l) []) else []
    let d := { d with trg := { d.trg with group := g + 1, complete := max d.trg.complete (g + 1) } }
    let d := d.enabledPatterns.foldl (fun (d : Dc) (j : Nat) => d.set (DC.TRG.PCTRL.MATCH j) (d.matches j).toNat) d
    if d.fld DC.TRG.CTRL.ISSUE = 1 then d.decideSpan trigs a 64
    else { d with trg := { d.trg with undecided := d.trg.undecided ++ trigs } }

/-- The first group not yet complete at the present DT (R233, R241): a group whose WM_WAIT has passed counts as complete. -/
def Dc.firstGroup (d : Dc) : Nat := max d.completeTo ((d.now - d.fld DC.TRG.WM_WAIT.TICKS) / (groupSlices * sliceTicks))

/-- The engine starts afresh from group `g` (R166, R241, R243, R265, R445). -/
def Dc.engineStart (d : Dc) (g : Nat) : Dc :=
  let t := { d.trg with group := g, complete := max d.trg.complete g, runs := [], sLast := none, fromSlice := groupSlices * g, tLast := [], undecided := [],
                        period := [], periodFrom := some d.frame }
  let old := t.changes.filter fun c => decide (c.slice < groupSlices * g)
  let d := { d with trg := { t with changes := t.changes.filter fun c => decide (groupSlices * g ≤ c.slice) } }
  let d := old.foldl Dc.mapApply d
  [1, 2, 3, 4, 5].foldl (fun (d : Dc) (s : Nat) => d.set (DC.TRG.RATE.HZ s) 0xFFFFFFFF) d

/-- `DC.TRG.CTRL.EN` is written (R241). -/
def Dc.engineEn (d : Dc) (en : Bool) : Dc :=
  let was := d.fld DC.TRG.CTRL.EN
  let d := d.set DC.TRG.CTRL.EN en.toNat
  if was = en.toNat then d
  else if en then d.engineStart d.firstGroup
  else { d with trg := { d.trg with runs := [] } }

/-- The status of a write to `PCTRL[j]` (R241); `m` holds every value of the change. -/
def Dc.patternStatus (d m : Dc) (j : Nat) (v : Word) : Nat :=
  let on := d.fld (DC.TRG.PCTRL.EN j) == 1
  if on ∧ (fieldOf v 0 8 ≠ d.fld (DC.TRG.PCTRL.PERSIST j) ∨ fieldOf v 9 1 ≠ d.fld (DC.TRG.PCTRL.STALE_BLOCK j)) then 1
  else if !on ∧ fieldOf v 8 1 = 1 ∧ m.care j = 0 then 3
  else 0

/-- A write to `PCTRL[j]` that is not refused (R241). -/
def Dc.patternEn (d : Dc) (j : Nat) (v : Word) : Dc :=
  let was := d.fld (DC.TRG.PCTRL.EN j)
  let d := ((d.set (DC.TRG.PCTRL.PERSIST j) (fieldOf v 0 8)).set (DC.TRG.PCTRL.EN j) (fieldOf v 8 1)).set (DC.TRG.PCTRL.STALE_BLOCK j) (fieldOf v 9 1)
  if was = fieldOf v 8 1 then d
  else if was = 0 then d.setRun j { fresh := true }
  else (d.setRun j {}).set (DC.TRG.PCTRL.MATCH j) 0

/-- An edge of a TRIG_IN pin (R167, R244). -/
def Dc.trigIn (d : Dc) (pin : Nat) (rising : Bool) (t fine : Nat) : Dc :=
  let d := d.until t
  if (d.fld DC.TRG.EXT.EN).testBit pin ∧ rising ≠ (d.fld DC.TRG.EXT.FALL).testBit pin ∧ d.sourceOn srcExt then
    let x : Trig := { slice := t / sliceTicks, source := srcExt, tTick := t, tFine := fine, detail := pin }
    if d.fld DC.TRG.CTRL.ISSUE = 1 then (d.decideTrig x none).1 else { d with trg := { d.trg with undecided := d.trg.undecided ++ [x] } }
  else d

/-- A SOFT trigger (R245, R411): a status, and the sequence number. -/
def Dc.softTrig (d : Dc) (tag : Nat) : Dc × Nat × Nat :=
  if d.fld DC.TRG.CTRL.ISSUE = 0 then (d, 7, 0)
  else if !d.sourceOn srcSoft then (d, 3, 0)
  else
    match d.decideTrig { slice := d.now / sliceTicks, source := srcSoft, tTick := d.now, detail := tag } none with
    | (d, some q) => (d, 0, q)
    | (d, none) => (d, 1, 0)

/-- A WINDOW request (R245): a status, and the sequence number. -/
def Dc.windowTrig (d : Dc) (start stop tag : Nat) : Dc × Nat × Nat :=
  if d.fld DC.TRG.CTRL.ISSUE = 0 then (d, 7, 0)
  else if stop ≤ start ∨ !d.sourceOn srcWindow then (d, 3, 0)
  else if d.windowLimit < (stop : Int) - start then (d, 8, 0)
  else if d.now + 1024 * frameTicks < stop then (d, 8, 0)
  else
    match d.decideTrig { slice := d.now / sliceTicks, source := srcWindow, detail := tag } (some (start, stop)) with
    | (d, some q) => (d, 0, q)
    | (d, none) => (d, 1, 0)

/-- A period of 1,024 frames ends (R265): accepted triggers per second, rounded down. -/
def Dc.ratePeriod (d : Dc) : Dc :=
  match d.trg.periodFrom with
  | none => d
  | some f =>
    let d := d.until ((f + 1024) * frameTicks)
    let d := [1, 2, 3, 4, 5].foldl (fun (d : Dc) (s : Nat) => d.set (DC.TRG.RATE.HZ s) (FMap.get 0 d.trg.period s * 10000000 / 2097152)) d
    { d with trg := { d.trg with period := [], periodFrom := some (f + 1024) } }

/-- The largest pre- and post-window together of any source, in ticks (R252, R253). -/
def Dc.longestWindow (d : Dc) : Nat :=
  ([1, 2, 4, 5].map fun s => sliceTicks * (d.fld (DC.TRG.PRE.SLICES s) + d.fld (DC.TRG.POST.SLICES s))).foldl max 0

/-- D_cap is set from the ring; a configured window above the new limit sets SHRUNK (R251, R253). -/
def Dc.resizeRing (d : Dc) : Dc :=
  let d := d.set DC.TRG.DCAP.TICKS d.dcap
  if d.windowLimit < (d.longestWindow : Int) then d.set DC.TRG.STATUS.SHRUNK 1 else d

end Sys2Proof.Machine
end

