-- ==== Sys2Proof/Machine/Memory.lean ====
section
/-! DEFINITION. Memory integrity of the DC64: the SRAM walker and buckets (R328 to R330), the scrubber
(R340), MEM_HEAL and MEM_RETIRE (R341 to R344), self-test and fill (R346 to R348). -/
namespace Sys2Proof.Machine

/-- The bucket of an array leaks one unit (R330): it falls by 1 every LEAK frames while it is above 0. -/
def Dc.bucketLeak (d : Dc) (a : Nat) : Dc :=
  let l := d.fld (DC.MEM.BUCKET.LEVEL a)
  if l = 0 then d
  else
    let due := FMap.get 0 d.mem.leakFrom a + d.fld (DC.MEM.BUCKET.LEAK a) * frameTicks
    let d := (d.until due).set (DC.MEM.BUCKET.LEVEL a) (l - 1)
    { d with mem := { d.mem with leakFrom := FMap.put 0 d.mem.leakFrom a due } }

/-- A correctable SRAM error (R330). -/
def Dc.bucketAdd (d : Dc) (a word syndrome bit : Nat) : Dc :=
  let l := d.fld (DC.MEM.BUCKET.LEVEL a)
  if d.fld (DC.MEM.BUCKET.DEPTH a) ≤ l then
    ((((d.set (DC.MEM.BUCKET.OVF a) 1).set DC.MEM.STATUS.OVF_ANY 1).log logSram kindBucket a bit word syndrome).notify 0x0201 a).set
      (DC.MEM.BUCKET.LEVEL a) 0
  else
    let d := if l = 0 then { d with mem := { d.mem with leakFrom := FMap.put 0 d.mem.leakFrom a d.now } } else d
    d.set (DC.MEM.BUCKET.LEVEL a) (l + 1)

/-- A slot with its `STATE` raised (R196). -/
def Slot.raise (s : Slot) (state : Nat) : Slot :=
  let w := s.words.getD 31 0
  if state ≤ rb w 5 2 then s else { s with words := s.words.set 31 (BitVec.ofNat 64 (w.toNat - rb w 5 2 * 32 + state * 32)) }

/-- The staged block that holds a word of the ingress staging array goes on with `STATE` 1 for a word corrected, or with `STATE` 2 and
the word poisoned (R196, R330). Word w of the array is word w mod 32 of the block at place (w / 32) mod 64 of the queue of channel
w / 2,048 (log entry 61). -/
def Dc.stageMark (d : Dc) (w state : Nat) : Dc :=
  let c := w / 2048
  let q := FMap.get [] d.mire.staged c
  match q[w / 32 % 64]? with
  | some (k, s) =>
    let s := s.raise state
    let s := if state = 2 then { s with bad := s.bad ++ [w % 32] } else s
    { d with mire := { d.mire with staged := FMap.put [] d.mire.staged c (q.set (w / 32 % 64) (k, s)) } }
  | none => d

/-- The core has used a poisoned word: it is down until its restart completes (R334). -/
def Dc.coreBitten (d : Dc) : Dc := { d with mem := { d.mem with coreDown := true } }

/-- The walker reads a word of an SRAM array (R328, R329), whose mark copies may have changed (R325). A double error sets POISON, also in a word marked TORN; a word that is
POISON already logs nothing further. The effect of a poisoned word comes when its unit uses it; the core's memories and the staging array are in use all the time
(R334). DESIGN CHOICE (log entry 59). -/
def Dc.sramScrub (d : Dc) (a word : Nat) (f : SramFind) : Dc :=
  let d := if f.marks = 0 then d else d.setCopies a word (FMap.get 0 d.mem.sram (2 ^ 24 * a + word) ^^^ f.marks.toNat)
  match sramResult f with
  | .clean => d
  | .single bit => (if a = arrStaging then d.stageMark word 1 else d).bucketAdd a word f.syndrome bit
  | .double =>
    if d.sramMark a word = markPoison then d
    else
      let d := ((d.inc DC.MEM.SRAM_UE.COUNT).setSram a word markPoison).log logSram kindUe a noPos word f.syndrome
      if a = arrCore then (d.bite logSram a word).coreBitten
      else if a = arrStaging then d.stageMark word 2
      else d

/-- Whether a line lies in the core's area of a channel (R200). -/
def Dc.coreLine (d : Dc) (line : Nat) : Bool := decide (d.coreFrom ≤ line ∧ line < d.coreFrom + coreLines)

/-- A poisoned codeword in the core's area is the firmware's own data, which it uses all the time: the core is restarted (R334). DESIGN CHOICE (log entry 59). -/
def Dc.coreUse (d : Dc) (c cw : Nat) : Dc :=
  if d.coreLine (cw / 2) ∧ (dramResult (d.dramAt c cw)).poisons then
    (d.bite logDram c (32 * cw)).coreBitten
  else d

/-- The restart of the core completes (R334): its memories and its area of DRAM are written anew, and the host is told. -/
def Dc.coreRestarted (d : Dc) : Dc :=
  if d.mem.coreDown then
    let d := d.sramClean arrCore 0 (2 ^ 24)
    let bad := (d.mem.dram.map (·.1)).filter fun k => d.coreLine (k % 2 ^ 40 / 2)
    let d := bad.foldl (fun (d : Dc) (k : Nat) => d.codewordClean (k / 2 ^ 40) (k % 2 ^ 40)) d
    ({ d with mem := { d.mem with coreDown := false } } : Dc).notify 0x0203 0
  else d

/-- The codeword after codeword `cw` of channel `c` in a pass of the scrubber (R340, R350): the channels one after the other, from address 0 of channel 0. -/
def Dc.scrubNext (d : Dc) (c cw : Nat) : Nat × Nat := if cw + 1 < 2 * d.chanLines then (c, cw + 1) else ((c + 1) % 8, 0)

/-- The scrubber passes over codewords of retired ring pages (R340): to the start of the next page that is not retired. -/
def Dc.scrubSkip (d : Dc) : Nat → Nat × Nat → Nat × Nat
  | 0, x => x
  | fuel + 1, x =>
    if x.2 / 2 < d.ringLines ∧ d.mire.retired.contains (x.1, x.2 / 2048) then Dc.scrubSkip d fuel (d.scrubNext x.1 (2048 * (x.2 / 2048) + 2047)) else x

/-- The scrubber reads its next codeword (R340): `found` is how it is stored by now. It waits while the line is locked, and never writes. -/
def Dc.scrubRead (d : Dc) (c addr : Nat) (f : DramFind) : Dc :=
  let at' := d.scrubSkip (d.mire.retired.length + 1) d.mem.scrubAt
  if d.fld DC.MEM.CTRL.SCRUB_EN = 0 ∨ d.state < dcCore ∨ d.state = dcLimp ∨ addr % 32 ≠ 0 ∨ (c, addr / 32) ≠ at' ∨ d.heldFrom 8 c (addr / 64) then d
  else
    let d := d.setDram c (addr / 32) f
    let d := ((d.dramRead c (addr / 32)).1.coreUse c (addr / 32)).granted 8 c (d.prioOf 8)
    let next := d.scrubNext c (addr / 32)
    let d := { d with mem := { d.mem with scrubAt := next } }
    if next = (0, 0) then d.set DC.MEM.SCRUB_PASS.COUNT ((d.fld DC.MEM.SCRUB_PASS.COUNT + 1) % 2 ^ 32) else d

/-- MEM_HEAL is asked for (R341, R342): a status; the reply to an accepted one comes when the range is done. -/
def Dc.healStart (d : Dc) (ask : Reply) (c start len : Nat) : Dc × Nat :=
  if d.mem.heal.isSome then (d, 1)
  else if 8 ≤ c ∨ start % 32 ≠ 0 ∨ len % 32 ≠ 0 ∨ 2 ^ 30 < len ∨ 64 * d.chanLines < start + len then (d, 3)
  else ({ d with mem := { d.mem with heal := some { ask := ask, c := c, start := start, len := len } } }.set DC.MEM.STATUS.HEAL_BUSY 1, 0)

/-- One codeword of a MEM_HEAL (R341): read, corrected and written back; healed and skipped codewords are counted. -/
def Dc.healOne (x : Dc × Nat × Nat) (key : Nat) : Dc × Nat × Nat :=
  let c := key / 2 ^ 40
  let cw := key % 2 ^ 40
  match dramResult (x.1.dramAt c cw) with
  | .clean => x
  | .correctable _ => (x.1.codewordClean c cw, x.2.1 + 1, x.2.2)
  | _ => (x.1, x.2.1, x.2.2 + 1)

/-- The running MEM_HEAL ends (R341): the reply with its counts. -/
def Dc.healEnd (d : Dc) : Dc × Option Reply :=
  match d.mem.heal with
  | none => (d, none)
  | some h =>
    let lo := dramKey h.c (h.start / 32)
    let x := ((d.mem.dram.map (·.1)).filter fun k => decide (lo ≤ k ∧ k < lo + h.len / 32)).foldl Dc.healOne (d, 0, 0)
    let d := ((x.1.add DC.MEM.HEAL_DONE.COUNT x.2.1).add DC.MEM.HEAL_SKIPPED.COUNT x.2.2).set DC.MEM.STATUS.HEAL_BUSY 0
    ({ d with mem := { d.mem with heal := none } }, some { h.ask with payload := bytesBE 4 x.2.1 ++ bytesBE 4 x.2.2 })

/-- MEM_RETIRE (R342, R343): a status. -/
def Dc.memRetire (d : Dc) (c page : Nat) : Dc × Nat :=
  let ring := decide (page * 1024 < d.ringLines)
  let staging := decide (d.stagingFrom ≤ page * 1024 ∧ (page + 1) * 1024 ≤ d.chanLines)
  if 8 ≤ c ∨ (!ring ∧ !staging) ∨ d.mire.retired.contains (c, page) then (d, 3)
  else if ring ∧ ringPositions d.cap / pageSlots < 64 * (d.ringRetired c + 1) then (d, 3)
  else
    let d := { d with mire := { d.mire with retired := d.mire.retired ++ [(c, page)] } }.set DC.MIRE.RETIRED.PAGES (d.mire.retired.length + 1)
    (if ring then d.resizeRing else d, 0)

/-- `DC.MEM.LOG_ACK` is written (R339). -/
def Dc.logAck (d : Dc) (i : Nat) : Dc :=
  match d.logAt i with
  | some e => d.setLog i { e with acked := true }
  | none => d

/-- The self-test ends (R347, R348). -/
def Dc.selfTest (d : Dc) (fail : Nat) : Dc :=
  if d.state ≠ dcSelftest then d
  else
    let fail := fail % 2 ^ 27
    let d := d.set DC.MEM.SELFTEST.FAIL fail
    if fail = 0 then (d.set DC.MEM.STATUS.SELFTEST_PASS 1).enter dcTrain
    else
      let d := (List.range 27).foldl (fun (d : Dc) (b : Nat) =>
        if fail.testBit b then
          (if b < 8 then d.log logDram kindSelftest b noPos 0 b
           else if b < 18 then d.log logSram kindSelftest (b - 8) noPos 0 b
           else if b < 26 then d.log logFlash kindSelftest ((b - 18) * 32) noPos 0 b
           else d.log logSram kindSelftest 0 noPos 0 b)
        else d) d
      (d.set DC.MEM.STATUS.LIMP 1).enter dcLimp

/-- The power-on fill ends (R346). DEDUCED (log entry 77). -/
def Dc.fillEnd (d : Dc) (ms : Nat) : Dc :=
  if d.state ≠ dcFill then d
  else
    let d := { d with mem := { d.mem with sram := [], dram := [] } }
    (((d.set DC.MEM.STATUS.FILL_DONE 1).set DC.MEM.FILL_MS.MS (min ms 65535)).resizeRing).enter dcCore

/-- The hold area of the qualifier and the buffers of the coder (R272, R291): the place of a fragment in the staging area, in lines of 64 B, its header in the first of
them. DESIGN CHOICE (log entry 115). -/
def holdLine (seq frag : Nat) : Nat := (seq + frag) % 8159 * 514

/-- The commit buffer of 512 MiB (R304): the staging line of a byte of the log. DESIGN CHOICE (log entry 115). -/
def commitLine (off : Nat) : Nat := 2 ^ 22 + off / 64 % 2 ^ 23

/-- Lines of the staging area are written whole, from line `k` on. -/
def Dc.stagingWrite (d : Dc) (k n : Nat) : Dc :=
  if d.mem.dram.isEmpty ∧ d.mem.log.isEmpty then d
  else (List.range n).foldl (fun (d : Dc) (i : Nat) => let l := d.stagingLine (k + i); d.lineClean l.1 l.2) d

/-- Bytes of the log from `lo` up to `hi` are written in the commit buffer: whole codewords are clean, partial ones merged (R336). -/
def Dc.commitWrite (d : Dc) (lo hi : Nat) : Dc :=
  if d.mem.dram.isEmpty ∧ d.mem.log.isEmpty then d
  else
    (List.range ((hi + 31) / 32 - lo / 32)).foldl (fun (d : Dc) (i : Nat) =>
      let o := 32 * (lo / 32 + i)
      let l := d.stagingLine (commitLine o)
      let cw := 2 * l.2 + o / 32 % 2
      if lo ≤ o ∧ o + 32 ≤ hi then d.codewordClean l.1 cw else d.dramPartial l.1 cw) d

/-- A line of the staging area is read: its poison bits. -/
def Dc.stagingPoison (d : Dc) (k : Nat) : Dc × Nat := let l := d.stagingLine k; d.lineRead l.1 l.2

/-- Words are read from the staging area from line `k` on: as they are seen, and the first codeword that reads poisoned, as its channel and number (R326, R327). -/
def Dc.stagedRead (d : Dc) (k : Nat) (ws : List Rec) : Dc × List Rec × Option (Nat × Nat) :=
  if d.mem.dram.isEmpty then (d, ws, none)
  else
    (List.range ((ws.length + 7) / 8)).foldl (fun (x : Dc × List Rec × Option (Nat × Nat)) (i : Nat) =>
      let l := d.stagingLine (k + i)
      let y := x.1.lineRead l.1 l.2
      let part := (ws.drop (8 * i)).take 8
      (y.1, x.2.1 ++ (y.1.lineSeen l.1 l.2 part).take part.length,
        x.2.2.or (if y.2 = 0 then none else some (l.1, 2 * l.2 + (if y.2 % 16 = 0 then 1 else 0))))) (d, [], none)

end Sys2Proof.Machine
end

