-- ==== Sys2Proof/Machine/Sluice.lean ====
section
/-! DEFINITION. The Sluice's locked sequences (R210 to R217): RDL, WR, WRU, UNL, leases and torn releases. -/
namespace Sys2Proof.Machine

/-- Whether a requester reaches a target with locked sequences (R210): ingress locks nothing. -/
def sluiceReaches (r target : Nat) : Bool :=
  if r = 0 then false
  else if r = 9 then target == 8
  else if r = 3 ∨ r = 4 ∨ r = 5 ∨ r = 8 then decide (target ≤ 7)
  else decide (target ≤ 8)

/-- Whether a line of a target exists. -/
def Dc.lineExists (d : Dc) (target line : Nat) : Bool :=
  if target = 8 then decide (line < 40960) else decide (target < 8 ∧ line < d.chanLines)

/-- Lines that no sequence may lock: ring, index and staging addresses (R215). -/
def Dc.unlockable (d : Dc) (target line : Nat) : Bool :=
  decide (target < 8) && (decide (line < d.ringLines + indexLines) || decide (d.stagingFrom ≤ line))

/-- Pages of 64 KiB in a channel (R200). -/
def Dc.chanPages (d : Dc) : Nat := d.chanLines / 1024

/-- Line `a` of the retirement map: a bit for each page installed, page p of channel c being bit c × pages + p, the first bit of a word highest (R197, R200).
DESIGN CHOICE (log entry 118). -/
def Dc.retMapWord (d : Dc) (a i : Nat) : Rec :=
  BitVec.ofNat 64 ((List.range 64).foldl (fun v k =>
    let b := 512 * a + 64 * i + k
    2 * v + (d.mire.retired.contains (b / d.chanPages, b % d.chanPages)).toNat) 0)

/-- A line of the retirement map is written: the pages it names are retired, and no others of those it covers. -/
def Dc.putRetMap (d : Dc) (a : Nat) (w : Nat → Rec) : Dc :=
  let pages := (List.range 512).filterMap fun k =>
    if (w (k / 64)).toNat.testBit (63 - k % 64) then some ((512 * a + k) / d.chanPages, (512 * a + k) % d.chanPages) else none
  let keep := d.mire.retired.filter fun x => (x.1 * d.chanPages + x.2) / 512 != a
  ({ d with mire := { d.mire with retired := keep ++ pages } }.set DC.MIRE.RETIRED.PAGES (keep ++ pages).length).resizeRing

/-- What a line holds: a context, 512 bits of the retirement map, four entries of the calibration log, eight entries of the Peat map, or data (R200, R218). -/
def Dc.lineData (d : Dc) (target line : Nat) : List Rec :=
  if target = 8 then d.ctxLine line
  else if d.retMapFrom ≤ line ∧ line < d.calLogFrom then (List.range 8).map (d.retMapWord (8 * (line - d.retMapFrom) + target))
  else if d.calLogFrom ≤ line ∧ line < d.peatMapFrom then
    let k := 4 * (8 * (line - d.calLogFrom) + target)
    (List.range 4).flatMap fun i => let e := FMap.get (0, 0) d.ctx.log (k + i); [e.1, e.2]
  else if d.peatMapFrom ≤ line ∧ line < d.coreFrom then
    let k := 8 * (8 * (line - d.peatMapFrom) + target)
    (List.range 8).map fun i => BitVec.ofNat 64 (FMap.get 0 d.peat.flash.map (k + i))
  else FMap.get (List.replicate 8 0) d.slu.data (2 ^ 40 * target + line)

/-- Write the words of a line. -/
def Dc.putWords (d : Dc) (target line : Nat) (ws : List Rec) : Dc :=
  let w (i : Nat) : Rec := ws.getD i 0
  let l := (List.range 8).map w
  if target = 8 then ({ d with ctx := { d.ctx with points := FMap.put [] d.ctx.points line [] } } : Dc).setCtx line l
  else if d.retMapFrom ≤ line ∧ line < d.calLogFrom then d.putRetMap (8 * (line - d.retMapFrom) + target) w
  else if d.calLogFrom ≤ line ∧ line < d.peatMapFrom then
    let k := 4 * (8 * (line - d.calLogFrom) + target)
    { d with ctx := { d.ctx with log := (List.range 4).foldl (fun m i => FMap.put (0, 0) m (k + i) (w (2 * i), w (2 * i + 1))) d.ctx.log } }
  else if d.peatMapFrom ≤ line ∧ line < d.coreFrom then
    let k := 8 * (8 * (line - d.peatMapFrom) + target)
    let m := (List.range 8).foldl (fun m i => FMap.put 0 m (k + i) (w i).toNat) d.peat.flash.map
    { d with peat := { d.peat with flash := { d.peat.flash with map := m } } }
  else { d with slu := { d.slu with data := FMap.put (List.replicate 8 0) d.slu.data (2 ^ 40 * target + line) l } }

/-- The mark that a codeword takes from four words written: that of the first word that carries one (R326). DEDUCED (log entry 119). -/
def codewordMark (marks : List Nat) : Nat := (marks.find? (· != markClean)).getD markClean

/-- Write a whole line, whose words may carry marks (R215, R326, R336). -/
def Dc.putLine (d : Dc) (target line : Nat) (ws : List Rec) (marks : List Nat) : Dc :=
  let d := d.putWords target line ws
  let marks := (List.range 8).map fun i => marks.getD i markClean
  if target = 8 then
    let d := (d.sramClean arrContext (8 * line) (8 * line + 8)).tornClose 8 line
    (List.range 8).foldl (fun (d : Dc) (i : Nat) => if marks.getD i 0 = markClean then d else d.setSram arrContext (8 * line + i) (marks.getD i 0)) d
  else
    let d := d.lineClean target line
    let a := codewordMark (marks.take 4)
    let b := codewordMark (marks.drop 4)
    let d := if a = markClean then d else (d.setDram target (2 * line) (dramMarked a)).coreUse target (2 * line)
    if b = markClean then d else (d.setDram target (2 * line + 1) (dramMarked b)).coreUse target (2 * line + 1)

/-- The poison bits with which a line is read, bit i for word i, and what the read finds (R326 to R328). -/
def Dc.readMarks (d : Dc) (target line : Nat) : Dc × Nat :=
  if target = 8 then (d, (List.range 8).foldl (fun v i => v + (if d.sramMark arrContext (8 * line + i) = markClean then 0 else 2 ^ i)) 0)
  else d.lineRead target line

/-- A requester's sequence. -/
def Dc.seqOf (d : Dc) (r : Nat) : Option SluSeq := FMap.get none d.slu.seqs r
def Dc.setSeq (d : Dc) (r : Nat) (x : Option SluSeq) : Dc := { d with slu := { d.slu with seqs := FMap.put none d.slu.seqs r x } }

/-- A requester's effective priority at a target: age counts FABRIC cycles, two for each tick (R212). -/
def Dc.effective (d : Dc) (w : SluWait) : Nat :=
  min 7 (d.fld (DC.SLU.PRIO.PRIO w.r) + 2 * (d.now - w.since) / d.fld DC.SLU.CTRL.AGE_STEP)

/-- Distance of a requester after the one last granted at a target and level, in cyclic order of ID (R212). -/
def Dc.turnOf (d : Dc) (w : SluWait) : Nat := (w.r + 9 - FMap.get 0 d.slu.lastGrant (8 * w.target + d.effective w)) % 10

/-- Whether request `a` wins over request `b` (R212). -/
def Dc.wins (d : Dc) (a b : SluWait) : Bool :=
  decide (d.effective b < d.effective a) || (d.effective a == d.effective b && decide (d.turnOf a < d.turnOf b))

/-- Grant an RDL: the line is locked and read, with its poison bits (R215, R326). -/
def Dc.grantRdl (d : Dc) (w : SluWait) : Dc :=
  let q := (d.seqOf w.r).getD { since := d.now }
  let held := q.lines.any fun l => l.1 == w.target && l.2.1 == w.line
  let q := { q with lines := if held then q.lines else q.lines ++ [(w.target, w.line, false)], rdls := q.rdls + 1 }
  let x := (d.granted w.r w.target (d.effective w)).readMarks w.target w.line
  let d := x.1.setSeq w.r (some q)
  let data := if w.target = 8 then d.lineData 8 w.line else d.lineSeen w.target w.line (d.lineData w.target w.line)
  { d with slu := { d.slu with wait := d.slu.wait.filter (fun v => v.r != w.r || v.job.isSome), read := FMap.put [] d.slu.read w.r data,
                               readPoison := FMap.put 0 d.slu.readPoison w.r x.2 } }

/-- A waiting request is granted: an RDL, or what the requester does with the line (R216, R218). -/
def Dc.grant (d : Dc) (w : SluWait) : Dc :=
  match w.job with
  | none => d.grantRdl w
  | some j =>
    let d : Dc := { d with slu := { d.slu with wait := d.slu.wait.erase w } }
    (d.granted w.r w.target (d.effective w)).runJob j

/-- The best of the waiting requests that no lock holds back any more (R212, R216). -/
def Dc.bestWaiting (d : Dc) : Option SluWait :=
  (d.slu.wait.filter fun w => !d.heldFrom w.r w.target w.line).foldl (fun (b : Option SluWait) w =>
    match b with | none => some w | some v => if d.wins w v then some w else b) none

/-- Grant the requests that no lock holds back any more, best first. -/
def Dc.grantWaiting (d : Dc) : Nat → Dc
  | 0 => d
  | fuel + 1 =>
    match d.bestWaiting with
    | none => d
    | some w => Dc.grantWaiting (d.grant w) fuel

/-- Grant until every request left waits for a lock. -/
def Dc.grantAll (d : Dc) : Dc := d.grantWaiting (2 * d.slu.wait.length + 1)

/-- Release a requester's sequence; every line it has written with WR takes the TORN mark (R217). -/
def Dc.tornRelease (d : Dc) (r : Nat) : Dc :=
  let lines := ((d.seqOf r).map (·.lines)).getD []
  let torn := lines.filter (·.2.2)
  let d := d.setSeq r none
  let d := { d with slu := { d.slu with wait := d.slu.wait.filter fun w => w.r != r || w.job.isSome } }
  let d := torn.foldl (fun (d : Dc) (l : Nat × Nat × Bool) =>
    let d := if l.1 = 8 then (List.range 8).foldl (fun (d : Dc) (w : Nat) => d.setSram arrContext (8 * l.2.1 + w) markTorn) d
      else ((d.setDram l.1 (2 * l.2.1) (dramMarked markTorn)).setDram l.1 (2 * l.2.1 + 1) (dramMarked markTorn)).coreUse l.1 (2 * l.2.1)
    (d.inc DC.SLU.TORN.COUNT).log logSluice kindTorn r noPos (tornAddr l.1 l.2.1) 0) d
  d.grantAll

/-- A sequence ends with its locks released (R215). -/
def Dc.endSeq (d : Dc) (r : Nat) : Dc := (d.setSeq r none).grantAll

/-- RDL (R215, R216): a status, 0 when it is granted or waits. DESIGN CHOICE (log entry 79). -/
def Dc.rdl (d : Dc) (r target line : Nat) : Dc × Nat :=
  if !sluiceReaches r target ∨ !d.lineExists target line ∨ d.slu.wait.any (fun w => w.r == r && w.job.isNone) then (d, 0)
  else
    let q := (d.seqOf r).getD {}
    let lines := q.lines
    let below := lines.any fun l => decide (target < l.1) || (target == l.1 && decide (line < l.2.1))
    if below ∨ 4 ≤ q.rdls ∨ d.unlockable target line then ((d.tornRelease r).inc DC.SLU.LOCK_REFUSED.COUNT, 6)
    else
      let w : SluWait := { r := r, target := target, line := line, since := d.now }
      if d.heldFrom r target line then ({ d with slu := { d.slu with wait := d.slu.wait ++ [w] } }, 0) else (d.grantRdl w, 0)

/-- WR of a line the sequence has locked (R215). -/
def Dc.wr (d : Dc) (r target line : Nat) (data : List Rec) (marks : List Nat) : Dc :=
  match d.seqOf r with
  | none => d
  | some q =>
    if q.lines.any fun l => l.1 == target && l.2.1 == line then
      let q := { q with lines := q.lines.map fun l => if l.1 = target ∧ l.2.1 = line then (l.1, l.2.1, true) else l }
      ((d.setSeq r (some q)).granted r target (d.prioOf r)).putLine target line data marks
    else d

/-- WRU of a line the sequence has locked (R215): written, and the sequence ends. -/
def Dc.wru (d : Dc) (r target line : Nat) (data : List Rec) (marks : List Nat) : Dc :=
  match d.seqOf r with
  | none => d
  | some q => if q.lines.any fun l => l.1 == target && l.2.1 == line then (d.wr r target line data marks).endSeq r else d

/-- UNL (R215). -/
def Dc.unl (d : Dc) (r : Nat) : Dc := if (d.seqOf r).isSome then d.endSeq r else d

/-- The lease of a sequence runs out LOCK_MAX FABRIC cycles after its first grant (R216). -/
def Dc.leaseEnd (d : Dc) (r : Nat) : Dc :=
  match d.seqOf r with
  | none => d
  | some q => ((d.until (q.since + d.fld DC.SLU.CTRL.LOCK_MAX / 2 + 1)).tornRelease r).inc DC.SLU.LEASE.COUNT

end Sys2Proof.Machine
end

