-- ==== Sys2Proof/Machine/Extract.lean ====
section
/-! DEFINITION. The capture extractor (R221, R254 to R263): slots read, hits corrected, fragments closed and handed on. -/
namespace Sys2Proof.Machine

/-- Pixel identity of a channel whose context is POISONED (R221). -/
def noPixel : Nat := 0xFFFFFFFF

/-- Body words a fragment holds, and hits after one CHAN word (R257, R258). -/
def fragWords : Nat := 4096
def runHits : Nat := 4095

/-- A slot with its ring position, for the DRAM codewords it lies in (R197, R322). -/
def Dc.positionOf (d : Dc) (k : Nat) : Option Nat := (d.mire.ring.find? fun x => x.2 == k + 1).map fun x => x.1 / 8

/-- The words of a slot that read poisoned (R326, R327). DEDUCED (log entry 80). -/
def Dc.poisonWords (d : Dc) (k : Nat) : Dc × List Nat :=
  match d.positionOf k with
  | none => (d, [])
  | some p =>
    (List.range 8).foldl (fun (x : Dc × List Nat) (i : Nat) =>
      let y := x.1.dramRead (k % 8) (8 * p + i)
      (y.1, if y.2 then x.2 ++ [4 * i, 4 * i + 1, 4 * i + 2, 4 * i + 3] else x.2)) (d, [])

/-- A POISONED body word (R262). -/
def poisonedWord (recv word arrTick : Nat) : Rec := BitVec.ofNat 64 (0xB * 2 ^ 60 + recv % 128 * 2 ^ 53 + word % 32 * 2 ^ 48 + arrTick % 2 ^ 48)

/-- A HIT record of DF640 `n` as the extractor takes it (R107, R221, R256). -/
def Dc.extHit (d : Dc) (n arr : Nat) (w : Rec) : Dc × ExtHit :=
  let i := 640 * n + rb w 50 10
  let frame := hitFrame (arr / 1024) (rb w 34 16)
  let t : Int := (1024 * (frame * frameTicks + rb w 34 16) + rb w 24 10 : Nat)
  let x := d.ctxUse i
  let l := x.1.ctxLine i
  let ofs : Int := if x.2 then 0 else cint l cOffset
  let chip := signed 16 (d.fld (DC.CTX.CHIP.CHIP_OFF n))
  (x.1, { time := (16 * t - ofs - chip + 8) / 16, ctx := i, pixel := if x.2 then noPixel else cget l cPixel, tot := rb w 8 16,
          flags := rb w 0 7 + (if x.2 then 128 else 0), gen := d.fld DC.CTX.GEN.GEN, masked := !x.2 && cget l cMasked == 1 })

/-- The word of a slot that names its receiver and arrival (R196). -/
def dcWordAt : Nat := 31

/-- The extractor reads one slot for a capture (R256, R257, R334, R335). -/
def Dc.readSlot (d : Dc) (x : Cap) (k : Nat) (s : Slot) : Dc × Cap :=
  let y := d.poisonWords k
  let lost := y.2.contains dcWordAt
  let bad := if lost then (List.range 31).drop 1 else y.2.filter fun w => decide (1 ≤ w ∧ w ≤ 30)
  let d := if bad.isEmpty then y.1 else y.1.bite logDram (k % 8) (256 * (d.positionOf k).getD 0)
  let d := d.granted 1 (k % 8) (d.prioOf 1)
  let tick := if lost then 2 ^ 48 - 1 else s.arr / 1024
  let x := { x with readSlots := x.readSlots ++ [k], poisoned := x.poisoned ++ bad.map fun w => poisonedWord s.recv w tick }
  (readPayload 1 (payloadOf s.words)).foldl (fun (a : Dc × Cap) r =>
    if kindOf r.2.1 = 1 ∧ rb r.2.1 50 10 < 640 ∧ !bad.contains r.1 then
      let h := a.1.extHit (s.recv / 2) s.arr r.2.1
      (h.1, { a.2 with hits := a.2.hits ++ [h.2] })
    else a) (d, x)

/-- Whether a slot holds a hit whose context another requester has locked: the extractor's read of it waits (R216). -/
def Dc.slotWaits (d : Dc) (s : Slot) : Bool :=
  (readPayload 1 (payloadOf s.words)).any fun r =>
    kindOf r.2.1 == 1 && decide (rb r.2.1 50 10 < 640) && d.heldFrom 1 8 (640 * (s.recv / 2) + rb r.2.1 50 10)

/-- Whether word 31 of a slot reads poisoned (R335). -/
def Dc.slotLost (d : Dc) (k : Nat) : Bool :=
  match d.positionOf k with
  | some p => (dramResult (d.dramAt (k % 8) (8 * p + 7))).poisons
  | none => false

/-- Slots that a capture needs and has not read (R254): by their arrival, or, where that is poisoned, all that the frame index places in the frames of the window
(R204, R335). -/
def Dc.slotsOf (d : Dc) (x : Cap) : List (Nat × Slot) :=
  let a : Int := (x.dec.start : Int) - 8
  let b := x.dec.stop + 31752
  d.validSlots.filter fun y =>
    x.dec.scope.testBit (y.2.recv / 2) && !x.readSlots.contains y.1 &&
      (if d.slotLost y.1 then decide (a / frameTicks ≤ (y.2.arr / 1024 / frameTicks : Nat) ∧ y.2.arr / 1024 / frameTicks ≤ (b - 1) / frameTicks)
       else decide (1024 * a ≤ y.2.arr ∧ y.2.arr < 1024 * b))

/-- Read slots for a capture. -/
def Dc.readSlots (d : Dc) (x : Cap) (l : List (Nat × Slot)) : Dc × Cap := l.foldl (fun (a : Dc × Cap) y => a.1.readSlot a.2 y.1 y.2) (d, x)

/-- Replace a capture in flight. -/
def Dc.setCap (d : Dc) (x : Cap) : Dc :=
  { d with trg := { d.trg with caps := d.trg.caps.map fun y => if y.dec.seq = x.dec.seq then x else y } }

/-- A capture in flight. -/
def Dc.capOf (d : Dc) (seq : Nat) : Option Cap := d.trg.caps.find? fun x => x.dec.seq == seq

/-- A capture leaves its in-flight place (R250). -/
def Dc.dropCap (d : Dc) (seq : Nat) : Dc :=
  let d := { d with trg := { d.trg with caps := d.trg.caps.filter fun x => x.dec.seq != seq } }
  d.set DC.TRG.STATUS.IN_FLIGHT d.trg.caps.length

/-- The tombstone queue holds 16,384 entries (R250). -/
def Dc.tombRoom (d : Dc) : Bool := decide (d.trg.tombs.length < 16384)

/-- A capture becomes a tombstone (R255, R263). -/
def Dc.capTomb (d : Dc) (x : Cap) (reason : Nat) : Dc := (d.dropCap x.dec.seq).queueTomb x.dec reason

/-- The extractor begins with a capture and reads that many slots of it (R255). -/
def Dc.beginCapture (d : Dc) (x : Cap) (slots : Nat) : Dc :=
  let y := d.readSlots { x with begun := true, held := d.oldestArr.isSome } (((d.slotsOf x).take slots).takeWhile fun y => !d.slotWaits y.2)
  y.1.setCap y.2

/-- DT reaches end + 31,744 ticks: the extractor starts, and reads the first slots (R254, R255). A WINDOW request that was accepted before a
shrink of the limit is cut here (R253). DEDUCED (log entry 48). -/
def Dc.captureReady (d : Dc) (seq slots : Nat) : Dc :=
  match d.capOf seq with
  | none => d
  | some x =>
    if x.begun ∨ !d.extracts then d
    else
      let d := d.until (x.dec.stop + 31744)
      if x.dec.source ≠ srcWindow then d.beginCapture x slots
      else
        match d.cutWindow x.dec.start x.dec.stop with
        | none => if d.tombRoom then d.capTomb x tombNotHeld else d
        | some (e, cut) => d.beginCapture { x with dec := { x.dec with stop := e, flags := x.dec.flags ||| (2 * cut.toNat) } } slots

/-- The 17 lines of the index record of a frame (R200, R203). -/
def Dc.indexLinesOf (d : Dc) (f : Nat) : List (Nat × Nat) := (List.range 17).map fun i => d.regionLine (17 * (f % 2 ^ 20) + i)

/-- The extractor reads the index record of a frame (R203, R327): the place of its first poisoned codeword, if it has one (R263). -/
def Dc.indexRead (d : Dc) (f : Nat) : Dc × Option (Nat × Nat) :=
  if (d.indexOf f).isNone then (d, none)
  else
    (d.indexLinesOf f).foldl (fun (x : Dc × Option (Nat × Nat)) (l : Nat × Nat) =>
      [2 * l.2, 2 * l.2 + 1].foldl (fun (x : Dc × Option (Nat × Nat)) (cw : Nat) =>
        let y := x.1.dramRead l.1 cw
        (y.1, if x.2.isNone ∧ y.2 then some (l.1, cw) else x.2)) x) (d, none)

/-- The extractor reads the index records of a capture's window: the first poisoned codeword (R204, R254, R263). -/
def Dc.windowIndex (d : Dc) (x : Cap) : Dc × Option (Nat × Nat) :=
  let a := (x.dec.start - 8) / frameTicks
  let b := (x.dec.stop + 31751) / frameTicks
  (List.range (b + 1 - a)).foldl (fun (y : Dc × Option (Nat × Nat)) (i : Nat) =>
    let z := y.1.indexRead (a + i)
    (z.1, y.2.or z.2)) (d, none)

/-- A CHAN word and an EHIT word (R262). -/
def chanWord (ctx pixel hits : Nat) : Rec := BitVec.ofNat 64 (8 * 2 ^ 60 + ctx % 65536 * 2 ^ 44 + pixel % 2 ^ 32 * 2 ^ 12 + hits % 4096)
def ehitWord (t tot flags : Nat) : Rec := BitVec.ofNat 64 (9 * 2 ^ 60 + t % 2 ^ 36 * 2 ^ 24 + tot % 65536 * 2 ^ 8 + flags % 256)

/-- Put one channel's hits into fragments: the closed ones and the open one (R257, R258). -/
def packRun (ctx pixel : Nat) : Nat → List Rec → List (List Rec) → List Rec → List (List Rec) × List Rec
  | 0, _, done, cur => (done, cur)
  | fuel + 1, hits, done, cur =>
    if hits.isEmpty then (done, cur)
    else if fragWords < cur.length + 2 then packRun ctx pixel fuel hits (done ++ [cur]) []
    else
      let m := min (min hits.length runHits) (fragWords - cur.length - 1)
      packRun ctx pixel fuel (hits.drop m) done (cur ++ chanWord ctx pixel m :: hits.take m)

/-- Put POISONED words into fragments. -/
def packPoison : List Rec → List (List Rec) → List Rec → List (List Rec) × List Rec
  | [], done, cur => (done, cur)
  | w :: t, done, cur => if fragWords ≤ cur.length then packPoison t (done ++ [cur]) [w] else packPoison t done (cur ++ [w])

/-- Order of hits in a body: ascending context, then ascending corrected time (R257). -/
def hitLt (a b : ExtHit) : Bool := decide (a.ctx < b.ctx) || (a.ctx == b.ctx && decide (a.time < b.time))

/-- Insert a hit in order; equal hits stay in order of reading. -/
def insHit (h : ExtHit) : List ExtHit → List ExtHit
  | [] => [h]
  | x :: t => if hitLt h x then h :: x :: t else x :: insHit h t

/-- Hits in body order. -/
def sortHits (l : List ExtHit) : List ExtHit := l.foldl (fun a h => insHit h a) []

/-- The runs of one channel each, with the EHIT words. -/
def hitRuns (start : Nat) : List ExtHit → List (Nat × Nat × List Rec)
  | [] => []
  | h :: t =>
    let w := ehitWord (h.time - 1024 * (start : Int)).toNat h.tot h.flags
    match hitRuns start t with
    | (c, p, ws) :: u => if c = h.ctx ∧ p = h.pixel then (c, p, w :: ws) :: u else (h.ctx, h.pixel, [w]) :: (c, p, ws) :: u
    | [] => [(h.ctx, h.pixel, [w])]

/-- The bodies of one generation's hits. -/
def packHits (start : Nat) (hits : List ExtHit) : List (List Rec) × List Rec :=
  (hitRuns start (sortHits hits)).foldl (fun a r => packRun r.1 r.2.1 (2 * r.2.2.length + 2) r.2.2 a.1 a.2) ([], [])

/-- The generations of a list of hits, in the order of reading. DEDUCED (log entry 51). -/
def hitGens (l : List ExtHit) : List Nat := l.foldl (fun g h => if g.contains h.gen then g else g ++ [h.gen]) []

/-- The bodies of a capture with the generation of each (R257, R258); POISONED words stand last. -/
def capBodies (start gen : Nat) (hits : List ExtHit) (poisoned : List Rec) : List (Nat × List Rec) :=
  let gens := hitGens hits
  let all := gens.flatMap fun g =>
    let b := packHits start (hits.filter fun h => h.gen == g)
    (b.1 ++ [b.2]).map fun x => (g, x)
  match all.getLast? with
  | none => let b := packPoison poisoned [] []; (b.1 ++ [b.2]).map fun x => (gen, x)
  | some (g, cur) => let b := packPoison poisoned [] cur; all.dropLast ++ (b.1 ++ [b.2]).map fun x => (g, x)

/-- The closed fragments of a capture (R258, R260, R261). -/
def Dc.capFragments (d : Dc) (x : Cap) (start : Nat) : List (List Rec) :=
  let lo : Int := 1024 * (start : Int)
  let hi : Int := 1024 * (x.dec.stop : Int)
  let inside := x.hits.filter fun h => decide (lo ≤ h.time ∧ h.time < hi)
  let hits := inside.filter fun h => !h.masked
  let masked := (inside.filter (·.masked)).length
  let poison := !x.poisoned.isEmpty || hits.any fun h => decide (128 ≤ h.flags)
  let flags := x.dec.flags + (if start = x.dec.start then 0 else 1) + (if poison then 8 else 0) + (if hits.isEmpty ∧ x.poisoned.isEmpty then 32 else 0)
  let bodies := capBodies start (d.fld DC.CTX.GEN.GEN) hits x.poisoned
  (List.range bodies.length).map fun i =>
    let b := bodies.getD i (0, [])
    let w7 := i % 65536 * 2 ^ 48 + (if i + 1 = bodies.length then 2 ^ 47 else 0) + b.2.length % 8192 * 2 ^ 32 + min 65535 masked * 2 ^ 16 + min 65535 x.poisoned.length
    headerWords 0xE { x.dec with flags := flags } b.1 start x.dec.stop hits.length w7 ++ b.2

/-- What becomes of a capture whose last slot has been read (R255 to R258). -/
def Dc.captureClosed (d : Dc) (x : Cap) : Dc :=
  let w := d.windowIndex x
  match w.2 with
  | some p => (w.1.bite logDram p.1 (32 * p.2)).capTomb x tombIndexPoison
  | none =>
    let y := w.1.readSlots x (w.1.slotsOf x)
    let d := y.1
    let x := y.2
    match d.oldestArr with
    | none => d.capTomb x tombNotHeld
    | some a =>
      if !x.held ∨ 1024 * x.dec.stop ≤ a then d.capTomb x tombNotHeld
      else
        let start := if a ≤ 1024 * x.dec.start then x.dec.start else (a + 1023) / 1024
        d.setCap { x with frags := d.capFragments x start, done := true, hits := [], poisoned := [], readSlots := [] }

/-- The extractor has read the last slot of a capture (R255 to R258). A capture that becomes a tombstone while the tombstone queue is full stays in flight until
an entry is free (R250). DESIGN CHOICE (log entry 112). -/
def Dc.extractionComplete (d : Dc) (seq : Nat) : Dc :=
  match d.capOf seq with
  | none => d
  | some x =>
    if !x.begun ∨ x.done ∨ !d.extracts ∨ (d.slotsOf x).any (fun y => d.slotWaits y.2) then d
    else
      let y := d.captureClosed x
      if y.trg.tombs.length = d.trg.tombs.length ∨ d.tombRoom then y else d

/-- The extractor hands on the next closed fragment of a capture (R258, R360, R463). -/
def Dc.fragmentClose (d : Dc) (seq : Nat) : Dc :=
  match d.capOf seq with
  | none => d
  | some x =>
    match x.frags with
    | [] => d
    | f :: t =>
      if d.withheld x.dec.frame ∨ !d.extracts then d
      else
        let d := ({ d with qlf := { d.qlf with inq := d.qlf.inq ++ [f] } } : Dc).addTot totFragments 1
        let d := d.stagingWrite (holdLine (rb (f.getD 0 0) 0 48) (rb (f.getD 7 0) 48 16)) ((f.length + 7) / 8)
        if t.isEmpty then
          let d := d.dropCap seq
          let d : Dc := { d with trg := { d.trg with away := d.trg.away ++ [({ dec := x.dec } : Cap)] } }
          if x.again then d else (d.addTot totRelCap 1).subTot totPending 1
        else d.setCap { x with frags := t }

/-- The oldest tombstone is handed to the qualifier (R250, R360, R463). DESIGN CHOICE (log entry 81). -/
def Dc.handTomb (d : Dc) : Dc :=
  match d.trg.tombs with
  | [] => d
  | (f, ws) :: t =>
    if d.withheld f ∨ !d.extracts then d
    else
      let d : Dc := { d with trg := { d.trg with tombs := t }, qlf := { d.qlf with inq := d.qlf.inq ++ [ws] } }
      ((d.addTot totFragments 1).addTot totRelTomb 1).subTot totPending 1

end Sys2Proof.Machine
end

