-- ==== Sys2Proof/Machine/Qualify.lean ====
section
/-! DEFINITION. The record qualifier (R270 to R281). -/
namespace Sys2Proof.Machine

/-- Paths of qualifier word A (R280) and causes (R273). -/
def pathMask : Nat := 0
def pathMeasure : Nat := 1
def pathNone : Nat := 2
def causeOff : Nat := 4
def causeHold : Nat := 5
def causeFull : Nat := 6
def causeTomb : Nat := 7

/-- Header fields of a record (R260). -/
def recSeq (h : List Rec) : Nat := rb (h.getD 0 0) 0 48
def recSource (h : List Rec) : Nat := rb (h.getD 0 0) 52 4
def recTomb (h : List Rec) : Bool := rb (h.getD 0 0) 60 4 == 0xD
def recFragment (h : List Rec) : Nat := if recTomb h then 0 else rb (h.getD 7 0) 48 16
def recLast (h : List Rec) : Bool := rb (h.getD 7 0) 47 1 == 1

/-- A record's header with flags added (R270). -/
def addFlags (h : List Rec) (f : Nat) : List Rec := h.set 2 (h.getD 2 0 ||| BitVec.ofNat 64 f)

/-- The integer square root, bit by bit from bit `k - 1`. -/
def isqrtFrom (v : Nat) : Nat → Nat → Nat
  | 0, r => r
  | k + 1, r => if (r + 2 ^ k) * (r + 2 ^ k) ≤ v then isqrtFrom v k (r + 2 ^ k) else isqrtFrom v k r

/-- floor(√v) for v below 2⁸⁰. -/
def isqrt (v : Nat) : Nat := isqrtFrom v 40 0

/-- Mean, rms and span of a capture's hits in fine (R279). -/
def QlfCap.mean (x : QlfCap) : Nat := if x.n = 0 then 0 else x.sumT.toNat / x.n
def QlfCap.rms (x : QlfCap) : Nat := if x.n = 0 then 0 else isqrt (((x.n : Int) * x.sumT2 - x.sumT * x.sumT).toNat / (x.n * x.n))
def QlfCap.span (x : QlfCap) : Nat := if x.n = 0 then 0 else (x.maxT - x.minT).toNat

/-- The words A to D of a judged capture (R280). -/
def QlfCap.words' (x : QlfCap) (path cause viol action : Nat) (violated : Bool) : List Rec :=
  [BitVec.ofNat 64 (path * 2 ^ 62 + x.mask % 8 * 2 ^ 59 + violated.toNat * 2 ^ 58 + action % 4 * 2 ^ 56 + cause % 16 * 2 ^ 52
      + min 65535 viol * 2 ^ 32 + min (2 ^ 32 - 1) x.ctxs.length),
   BitVec.ofNat 64 (x.tot % 2 ^ 48 * 2 ^ 16), BitVec.ofNat 64 (x.mean / 16 % 2 ^ 32 * 2 ^ 32 + min (2 ^ 32 - 1) x.rms), BitVec.ofNat 64 (x.span % 2 ^ 36 * 2 ^ 28)]

/-- The words A to D of path NONE (R280). -/
def noneWords (mask cause : Nat) : List Rec := [BitVec.ofNat 64 (pathNone * 2 ^ 62 + mask % 8 * 2 ^ 59 + cause % 16 * 2 ^ 52), 0, 0, 0]

/-- Whether a record goes through the LZD engine of its stream (R271, R282): the coder on, the mode LZD, a body, and no POISON. -/
def QRec.lzd (r : QRec) : Bool :=
  fieldOf r.ctrl 0 1 == 1 && fieldOf r.ctrl (if r.stream = 1 then 3 else 1) 2 == 3 && !r.body.isEmpty && rb (r.head.getD 2 0) 3 1 == 0

/-- Bytes of the bodies in the input queue of a stream's LZD engine, and the size of the queue (R290). -/
def Dc.queued (d : Dc) (stream : Nat) : Nat :=
  8 * total ((d.qlf.out.filter fun r => r.stream == stream && r.lzd && !r.backlog).map fun r => r.body.length)
def lzdQueue : Nat := 8388608

/-- The sample of `DC.CMP.CTRL` for a record: that of its capture's first fragment (R296). -/
def Dc.cmpSample (d : Dc) (head : List Rec) : Word :=
  match d.cmp.samples.find? fun s => s.1 == recSeq head with
  | some s => s.2
  | none => d.word DC.CMP.CTRL.addr

/-- A record leaves the qualifier and reaches the coder: the sample of its capture is taken or used (R296), and a body for the LZD engine queues where it has room
(R290). -/
def Dc.qlfRelease (d : Dc) (r : QRec) : Dc :=
  let ctrl := d.cmpSample r.head
  let r := { r with ctrl := ctrl }
  let r := { r with backlog := r.lzd && decide (lzdQueue < d.queued r.stream + 8 * r.body.length) }
  let others := d.cmp.samples.filter fun s => s.1 != recSeq r.head
  let samples := if recTomb r.head then d.cmp.samples else if recLast r.head then others else others ++ [(recSeq r.head, ctrl)]
  { d with qlf := { d.qlf with out := d.qlf.out ++ [r] }, cmp := { d.cmp with samples := samples } }

/-- A fragment or tombstone that is not judged is released (R270, R272, R273). -/
def Dc.releaseNone (d : Dc) (ws : List Rec) (mask cause : Nat) : Dc :=
  d.qlfRelease { head := addFlags (ws.take 8) 0x4000, qual := noneWords mask cause, body := ws.drop 8 }

/-- A capture takes the figures of one body word (R275, R279). -/
def QlfCap.take (x : QlfCap) (w : Rec) : QlfCap :=
  let k := rb w 60 4
  if k = 8 then { x with ctxs := if x.ctxs.contains (rb w 44 16) then x.ctxs else x.ctxs ++ [rb w 44 16] }
  else if k = 9 then
    let t : Int := rb w 24 36
    { x with n := x.n + 1, sumT := x.sumT + t, sumT2 := x.sumT2 + t * t, minT := if x.n = 0 then t else min x.minT t,
             maxT := if x.n = 0 then t else max x.maxT t, tot := (x.tot + rb w 8 16) % 2 ^ 48 }
  else x

/-- Bits of the 32 contexts of mask word `k` that violate mask `m`, hits given as a word (R275). -/
def Dc.maskWord (d : Dc) (m k hits : Nat) : Nat := d.fld (DC.QLF.CARE.C m k) &&& (d.fld (DC.QLF.VALUE.V m k) ^^^ hits)

/-- Ones in a 32-bit word. -/
def ones32 (v : Nat) : Nat := ((List.range 32).filter fun i => v.testBit i).length

/-- The number of contexts that violate mask `m` (R275). -/
def Dc.maskViolations (d : Dc) (m : Nat) (ctxs : List Nat) : Nat :=
  let hits : FMap Nat := ctxs.foldl (fun (h : FMap Nat) i => h.upd 0 (i / 32) (· + 2 ^ (i % 32))) []
  total ((List.range 1280).map fun k => ones32 (d.maskWord m k (FMap.get 0 hits k)))

/-- Whether a capture violates the limits of its source, as sampled at its first fragment (R278, R296). -/
def QlfCap.limitsViolated (x : QlfCap) : Bool :=
  decide (x.n < x.hitsMin) || (decide (x.hitsMax ≠ 0) && decide (x.hitsMax < x.n))
    || (decide (x.spanMax ≠ 0) && decide (1024 * x.spanMax < x.span))

/-- The STOP action at the release of a capture (R281). -/
def Dc.qlfStop (d : Dc) (seq : Nat) : Dc :=
  let d := d.engineEn false
  let d := [1, 2, 3, 4, 5].foldl (fun (d : Dc) (s : Nat) => d.set (DC.TRG.HOLDOFF.EN s) 0) d
  (d.set DC.QLF.STATUS.STOPPED 1).notify 0x0101 (seq % 2 ^ 32)

/-- The words `lo` to `hi` of mask `m` are read: word k is word 1,280m + k of the mask array (R330). A poisoned one sets BAD (R276, R334). -/
def Dc.maskRead (d : Dc) (m lo hi : Nat) : Dc × Bool :=
  match d.marked arrMask (1280 * m + lo) (1280 * m + hi + 1) with
  | some w => ((d.set DC.QLF.MASK_CTRL.BAD (d.fld DC.QLF.MASK_CTRL.BAD ||| 2 ^ m)).bite logSram arrMask w, true)
  | none => (d, false)

/-- A fragment is compared with the mask as it arrives (R275): the words of the contexts up to its last CHAN run are read, and at the last fragment the remaining words;
where its first run lies before the word reached, its generation begins there anew. A capture that no longer goes by the MASK path is not compared. -/
def Dc.compareCap (d : Dc) (x : QlfCap) (ws : List Rec) : Dc × QlfCap :=
  if x.force ∨ x.cause2 ∨ x.cause3 then (d, x)
  else
    let runs := ((ws.drop 8).filter fun w => rb w 60 4 == 8).map fun w => rb w 44 16 / 32
    let lo := match runs.head? with | some k => min k x.at' | none => x.at'
    let hi := (runs.getLast?).getD x.at'
    let a := if runs.isEmpty then (d, false) else d.maskRead x.mask lo hi
    let b := if recLast ws ∧ !a.2 then a.1.maskRead x.mask hi 1279 else (a.1, false)
    (b.1, { x with at' := hi, cause3 := a.2 || b.2 })

/-- The last fragment of a held capture has arrived and been compared: judgement and release (R272, R276, R278, R281). -/
def Dc.judgeCap (d : Dc) (x : QlfCap) : Dc :=
  let cause := if x.force then 1 else if x.cause2 then 2 else if x.cause3 then 3 else 0
  let d := if x.cause2 ∨ x.cause3 then d.inc DC.QLF.MEASURE_FALLBACK.COUNT else d
  let viol := if cause = 0 then d.maskViolations x.mask x.ctxs else 0
  let bad := if cause = 0 then decide (0 < viol) else x.limitsViolated
  let act := if bad then x.action else 0
  let q := x.words' (if cause = 0 then pathMask else pathMeasure) cause viol act bad
  let flags := (if cause = 0 then 0 else 0x100) + (if bad then 0x200 else 0) + (if act = 2 then 0x400 else 0)
  let d := if bad then d.inc (DC.QLF.VIOL.COUNT x.source) else d
  let d := x.held.foldl (fun (d : Dc) ws =>
    d.qlfRelease { head := addFlags (ws.take 8) flags, qual := q, body := ws.drop 8, stream := if act = 2 then 1 else 0 }) d
  if act = 3 then d.qlfStop x.seq else d

/-- Replace a capture that the qualifier knows, or forget it. -/
def Dc.setQlf (d : Dc) (x : QlfCap) (keep : Bool) : Dc :=
  let l := d.qlf.caps.filter fun y => y.seq != x.seq
  let l := if keep then l ++ [x] else l
  ({ d with qlf := { d.qlf with caps := l } } : Dc).set DC.QLF.STATUS.HELD (l.filter fun y => y.none' == 0).length

/-- A capture at its first fragment: `EN`, the selection and the limits are sampled (R273, R274, R276, R296). DEDUCED (log entry 50). -/
def Dc.sampleCap (d : Dc) (ws : List Rec) : QlfCap :=
  let s := recSource ws
  let m := d.fld (DC.QLF.SRC.MASK s)
  { seq := recSeq ws, source := s, mask := m, force := d.fld (DC.QLF.SRC.FORCE_MEASURE s) == 1, action := d.fld (DC.QLF.SRC.ACTION s),
    hitsMin := d.fld (DC.QLF.HITS.HITS_MIN s), hitsMax := d.fld (DC.QLF.HITS.HITS_MAX s), spanMax := d.fld (DC.QLF.SPAN_MAX.TICKS s),
    none' := if d.fld DC.QLF.CTRL.EN = 1 then 0 else causeOff, cause2 := (d.fld DC.QLF.MASK_CTRL.LOAD).testBit m,
    cause3 := (d.fld DC.QLF.MASK_CTRL.BAD).testBit m }

/-- The hold area in words (R272). -/
def holdArea : Nat := 33554432

/-- Words held of all captures. -/
def Dc.heldWords (d : Dc) : Nat := total (d.qlf.caps.map fun x => total (x.held.map List.length))

/-- Holding ends early (R273): everything held and the fragment that has arrived are released unjudged. -/
def Dc.endHold (d : Dc) (x : QlfCap) (ws : List Rec) (cause : Nat) : Dc :=
  let d := (x.held ++ [ws]).foldl (fun (d : Dc) f => d.releaseNone f x.mask cause) d
  d.setQlf { x with none' := cause, held := [] } (!recLast ws)

/-- A fragment of a capture, or a tombstone, reaches the qualifier (R272 to R281). A tombstone's word A names the mask that its source
selects as it arrives (log 85). DEDUCED (log entry 85). -/
def Dc.qualify (d : Dc) (ws : List Rec) : Dc :=
  if recTomb ws then d.releaseNone ws (d.fld (DC.QLF.SRC.MASK (recSource ws))) causeTomb
  else
    let x := (d.qlf.caps.find? fun y => y.seq == recSeq ws).getD (d.sampleCap ws)
    if x.none' ≠ 0 then (d.releaseNone ws x.mask x.none').setQlf x (!recLast ws)
    else if d.fld DC.QLF.CTRL.HOLD_MAX * 8192 < x.words + (ws.length - 8) then (d.inc DC.QLF.NONE_HOLD.COUNT).endHold x ws causeHold
    else if holdArea < d.heldWords + ws.length then ((d.inc DC.QLF.NONE_FULL.COUNT).set DC.QLF.STATUS.HOLD_FULL 1).endHold x ws causeFull
    else
      let x := (ws.drop 8).foldl QlfCap.take { x with held := x.held ++ [ws], words := x.words + (ws.length - 8) }
      let y := d.compareCap { x with cause2 := x.cause2 || (d.fld DC.QLF.MASK_CTRL.LOAD).testBit x.mask } ws
      if recLast ws then (y.1.setQlf y.2 false).judgeCap y.2 else y.1.setQlf y.2 true

/-- The oldest fragment or tombstone handed on reaches the qualifier; where none waits, the oldest tombstone is handed on first. -/
def Dc.qualifierArrival (d : Dc) : Dc :=
  let d := if d.qlf.inq.isEmpty then d.handTomb else d
  match d.qlf.inq with
  | [] => d
  | ws :: t => ({ d with qlf := { d.qlf with inq := t } } : Dc).qualify ws

/-- A bit of `MASK_CTRL.LOAD` is written (R276, R277). -/
def Dc.maskLoad (d : Dc) (m : Nat) (open' : Bool) : Dc :=
  let l := d.fld DC.QLF.MASK_CTRL.LOAD
  if open' then
    let d := d.set DC.QLF.MASK_CTRL.LOAD (l ||| 2 ^ m)
    { d with qlf := { d.qlf with caps := d.qlf.caps.map fun x => if x.mask = m then { x with cause2 := true } else x } }
  else if l.testBit m then
    let d := d.set DC.QLF.MASK_CTRL.LOAD (l - 2 ^ m)
    d.set DC.QLF.MASK_CTRL.BAD (d.fld DC.QLF.MASK_CTRL.BAD - (d.fld DC.QLF.MASK_CTRL.BAD &&& 2 ^ m))
  else d

end Sys2Proof.Machine
end

