-- ==== Sys2Proof/Machine/Coder.lean ====
section
/-! DEFINITION. The Fold unit (R292 to R295) and the coder: FRB (R282 to R286), LZD (R287 to R290), verify (R291) and the coded
record (R269, R271). -/
namespace Sys2Proof.Machine

/-- Width and polynomial of a Fold context (R292). -/
def foldWidth (poly : Nat) : Nat := if poly = 0 then 16 else if poly = 3 then 64 else 32
def foldPoly (poly : Nat) : Nat := if poly = 0 then 0x1021 else if poly = 1 then 0x04C11DB7 else if poly = 2 then 0x1EDC6F41 else 0x42F0E1EBA9EA3693

/-- One bit into the shift register (R292). -/
def foldBit (w poly v : Nat) (b : Bool) : Nat :=
  let s := v * 2 % 2 ^ w
  if (v.testBit (w - 1)) ≠ b then s ^^^ poly else s

/-- One byte: most significant bit first, or least significant first when reflected. -/
def foldByte (w poly : Nat) (refIn : Bool) (v byte : Nat) : Nat :=
  (List.range 8).foldl (fun v i => foldBit w poly v (byte.testBit (if refIn then i else 7 - i))) v

/-- Bits of a number in reverse order over a width. -/
def reflect (w v : Nat) : Nat := (List.range w).foldl (fun r i => if v.testBit i then r + 2 ^ (w - 1 - i) else r) 0

/-- Configuration of a Fold context. -/
def Dc.foldW (d : Dc) (x : Nat) : Nat := foldWidth (d.fld (DC.FOLD.CFG.POLY x))
def Dc.foldInit (d : Dc) (x : Nat) : Nat := (d.fld (DC.FOLD.INIT_LO.INIT x) + 2 ^ 32 * d.fld (DC.FOLD.INIT_HI.INIT x)) % 2 ^ d.foldW x
def Dc.foldXor (d : Dc) (x : Nat) : Nat := (d.fld (DC.FOLD.XOR_LO.XOROUT x) + 2 ^ 32 * d.fld (DC.FOLD.XOR_HI.XOROUT x)) % 2 ^ d.foldW x
def Dc.foldValue (d : Dc) (x : Nat) : Nat := (d.fld (DC.FOLD.VALUE_LO.VALUE x) + 2 ^ 32 * d.fld (DC.FOLD.VALUE_HI.VALUE x)) % 2 ^ d.foldW x

/-- Set the running value; bits above the width read 0 (R292). -/
def Dc.setFold (d : Dc) (x v : Nat) : Dc :=
  let v := v % 2 ^ d.foldW x
  let d : Dc := if d.cmp.folded.contains x then d else { d with cmp := { d.cmp with folded := d.cmp.folded ++ [x] } }
  (d.set (DC.FOLD.VALUE_LO.VALUE x) v).set (DC.FOLD.VALUE_HI.VALUE x) (v / 2 ^ 32)

/-- Fold bytes into a context (R292). -/
def Dc.foldBytes (d : Dc) (x : Nat) (bytes : List Nat) : Dc :=
  let w := d.foldW x
  let p := foldPoly (d.fld (DC.FOLD.CFG.POLY x))
  let r := d.fld (DC.FOLD.CFG.REFIN x) == 1
  d.setFold x (bytes.foldl (foldByte w p r) (d.foldValue x))

/-- The result of a context (R292). -/
def Dc.foldResult (d : Dc) (x : Nat) : Nat :=
  let v := d.foldValue x
  (if d.fld (DC.FOLD.CFG.REFOUT x) = 1 then reflect (d.foldW x) v else v) ^^^ d.foldXor x

/-- The bytes of a 64-bit word in network order (R11). -/
def recBytes (w : Rec) : List Nat := bytesBE 8 w.toNat

/-- `RESULT` as it reads: its reset value until the context is first started, written or folded (R292, R296). DEDUCED (log entry 120). -/
def Dc.foldShown (d : Dc) (x : Nat) : Nat := if d.cmp.folded.contains x then d.foldResult x else 0

/-- Writing 1 to START (R293). -/
def Dc.foldStart (d : Dc) (x : Nat) : Dc :=
  let d := d.setFold x (d.foldInit x)
  let l := d.fld (DC.FOLD.CFG.FOLDLEN x)
  let lo := bytesBE 4 (d.fld (DC.FOLD.FOLD_LO.FOLD x))
  if l = 1 then d.foldBytes x lo
  else if l = 2 then d.foldBytes x (bytesBE 4 (d.fld (DC.FOLD.FOLD_HI.FOLD x)) ++ lo)
  else d

/-- Hardware starts a context with an 8-byte fold word and folds words (R293, R295); the result. -/
def Dc.foldHardware (d : Dc) (x : Nat) (word : Nat) (ws : List Rec) : Dc × Nat :=
  let d := (d.setFold x (d.foldInit x)).foldBytes x (bytesBE 8 word ++ ws.flatMap recBytes)
  (d, d.foldResult x)

/-- Whether a host write to a context is refused with BUSY (R294). -/
def Dc.foldBusy (d : Dc) (x : Nat) : Bool :=
  (decide (x < 2) && d.fld DC.CMP.CTRL.EN == 1) || (decide (2 ≤ x ∧ x < 4) && d.fld DC.PEAT.CTRL.EN == 1)

/-- The ToT level of code c from 144 to 1,021: 143 × 1.007^(c − 143) to the nearest whole number, halves up (R285). The exact value and
its IEEE 754 double lie on the same side of every half (log entry 62). -/
def totPower (k : Nat) : Nat := (2 * 143 * 1007 ^ k + 1000 ^ k) / (2 * 1000 ^ k)

/-- The decoded ToT of a code (R285). -/
def totLevel (c : Nat) : Nat :=
  if c ≤ 143 then c else if c ≤ 1021 then totPower (c - 143) else if c = 1022 then 65534 else 65535

/-- The largest code from `c` on whose level is not above `t`, by halving steps. -/
def totSearch (t : Nat) : Nat → Nat → Nat
  | 0, c => c
  | k + 1, c => if c + 2 ^ k ≤ 1023 ∧ totLevel (c + 2 ^ k) ≤ t then totSearch t k (c + 2 ^ k) else totSearch t k c

/-- The ToT code: the nearest level, the lower code on a tie (R285). -/
def totCode (t : Nat) : Nat :=
  let c := totSearch t 10 0
  if c < 1023 ∧ totLevel (c + 1) - t < t - totLevel c then c + 1 else c

/-- Modes of a stream (R271, R296). -/
def modeRaw : Nat := 0
def modeFrb48 : Nat := 1
def modeFrb40 : Nat := 2
def modeLzd : Nat := 3

/-- Flags of an EHIT in FRB order: COARSE_ONLY, INJ, TOT_SAT, PILEUP, CAL_AGED, CLAMP (R105, R284). -/
def frbFlags (f : Nat) : Nat := f % 32 + (if f.testBit 6 then 32 else 0)

/-- The code of one body word, without its header (R284). -/
def frbCode (mode : Nat) (w : Rec) : Nat :=
  if rb w 60 4 = 8 then
    if mode = modeFrb48 then 2 ^ 47 + rb w 44 16 * 2 ^ 31 + rb w 0 12 * 2 ^ 19 else 2 ^ 39 + rb w 44 16 * 2 ^ 23 + rb w 0 12 * 2 ^ 11
  else
    let c := totCode (rb w 8 16)
    if mode = modeFrb48 then rb w 24 36 % 2 ^ 30 * 2 ^ 17 + c * 2 ^ 7 + frbFlags (rb w 0 8) * 2
    else rb w 24 36 / 4 % 2 ^ 23 * 2 ^ 16 + c * 2 ^ 6 + frbFlags (rb w 0 8)

/-- Width of a code (R284). -/
def frbWidth (mode : Nat) : Nat := if mode = modeFrb48 then 48 else 40

/-- The bit string of a body as a number, and its length in bits (R283); `i` is the index of the first word. -/
def frbBits (mode total' : Nat) : Nat → List Rec → Nat × Nat → Nat × Nat
  | _, [], x => x
  | i, w :: t, x =>
    let x := if i % 64 = 0 then
        (x.1 * 2 ^ 64 + ((if mode = modeFrb48 then 1 else 2) * 2 ^ 62 + min 64 (total' - i) * 2 ^ 55 + i / 64 % 128 * 2 ^ 48 + i % 8192 * 2 ^ 35), x.2 + 64)
      else x
    frbBits mode total' (i + 1) t (x.1 * 2 ^ frbWidth mode + frbCode mode w, x.2 + frbWidth mode)

/-- The words of a bit string, padded with 0 (R283). -/
def bitWords (x : Nat × Nat) : List Rec :=
  let n := (x.2 + 63) / 64
  let v := x.1 * 2 ^ (64 * n - x.2)
  (List.range n).map fun i => BitVec.ofNat 64 (v / 2 ^ (64 * (n - 1 - i)))

/-- The FRB body and its coded length in bytes (R283). -/
def frbBody (mode : Nat) (body : List Rec) : List Rec × Nat :=
  let x := frbBits mode body.length 0 body (0, 0)
  (bitWords x, x.2 / 8)

/-- The words of a byte string, padded with 0 (R269). -/
def byteWords : Nat → List Nat → List Rec
  | 0, _ => []
  | k + 1, l => if l.isEmpty then [] else BitVec.ofNat 64 (((l ++ List.replicate 8 0).take 8).foldl (fun v b => 256 * v + b % 256) 0) :: byteWords k (l.drop 8)

/-- The flags of an EHIT as decoded: those of the code, and ANCHOR for contexts of anchor channels (R284). -/
def frbRestore (ctx f : Nat) : Nat := f % 32 + (if 632 ≤ ctx % 640 then 32 else 0) + (if f.testBit 5 then 64 else 0)

/-- A CHAN word and an EHIT word of the canonical form (R286). -/
def canonChan (ctx hits : Nat) : Rec := BitVec.ofNat 64 (8 * 2 ^ 60 + ctx % 65536 * 2 ^ 44 + hits % 4096)
def canonEhit (ctx t c f : Nat) : Rec := BitVec.ofNat 64 (9 * 2 ^ 60 + t * 2 ^ 24 + totLevel c * 2 ^ 8 + frbRestore ctx f)

/-- The time field of a code (R284), and the time that it decodes to: in FRB40 the middle of its step of 4 fine (R286). -/
def frbTime (mode t : Nat) : Nat := if mode = modeFrb48 then t % 2 ^ 30 else t / 4 % 2 ^ 23
def decodedTime (mode t : Nat) : Nat := if mode = modeFrb48 then t else 4 * t + 2

/-- The canonical form of a body under FRB (R286); `ctx` is the context of the run in progress. -/
def frbCanon (mode : Nat) : Nat → List Rec → List Rec
  | _, [] => []
  | ctx, w :: t =>
    if rb w 60 4 = 8 then canonChan (rb w 44 16) (rb w 0 12) :: frbCanon mode (rb w 44 16) t
    else canonEhit ctx (decodedTime mode (frbTime mode (rb w 24 36))) (totCode (rb w 8 16)) (frbFlags (rb w 0 8)) :: frbCanon mode ctx t

/-- A field of a bit string of a length, most significant bit first. -/
def strField (v len pos width : Nat) : Nat := v / 2 ^ (len - pos - width) % 2 ^ width

/-- The verify decoder of FRB (R291): the body words of a bit string, block by block; `left`: codes left in the block, `ctx`: the context of the run. -/
def frbDecode (mode v len : Nat) : Nat → Nat → Nat → Nat → List Rec
  | 0, _, _, _ => []
  | fuel + 1, pos, left, ctx =>
    if left = 0 then
      if pos + 64 ≤ len ∧ strField v len (pos + 2) 7 ≠ 0 then frbDecode mode v len fuel (pos + 64) (strField v len (pos + 2) 7) ctx else []
    else if len < pos + frbWidth mode then []
    else
      let f (o width : Nat) : Nat := strField v len (pos + o) width
      let next := frbDecode mode v len fuel (pos + frbWidth mode) (left - 1)
      if f 0 1 = 1 then canonChan (f 1 16) (f 17 12) :: next (f 1 16)
      else if mode = modeFrb48 then canonEhit ctx (f 1 30) (f 31 10) (f 41 6) :: next ctx
      else canonEhit ctx (decodedTime mode (f 1 23)) (f 24 10) (f 34 6) :: next ctx

/-- Bytes that differ on their way to the verify decoder: each an index and the bits that differ. -/
def changeBytes (bytes : List Nat) (fault : List (Nat × Nat)) : List Nat :=
  fault.foldl (fun l x => l.set x.1 (l.getD x.1 0 ^^^ x.2 % 256)) bytes

/-- A byte string as one number. -/
def byteString (l : List Nat) : Nat := l.foldl (fun v b => 256 * v + b % 256) 0

/-- The bytes of a coded body, without its padding. -/
def codedBytes (ws : List Rec) (n : Nat) : List Nat := (ws.flatMap recBytes).take n

/-- The verify loop of FRB finds no mismatch (R286, R291). -/
def frbVerified (mode : Nat) (body : List Rec) (coded : List Rec × Nat) (fault : List (Nat × Nat)) : Bool :=
  let bytes := changeBytes (codedBytes coded.1 coded.2) fault
  frbDecode mode (byteString bytes) (8 * bytes.length) (2 * body.length + 2) 0 0 0 == frbCanon mode 0 body

/-- The hash of three bytes (R288). -/
def lzdHash (a b c : Nat) : Nat := ((a * 2 ^ 10) ^^^ (b * 2 ^ 5) ^^^ c) % 2 ^ 15

/-- Chain depth of an effort level (R288). -/
def lzdDepth (e : Nat) : Nat := [1, 4, 8, 16, 32, 64, 128, 512].getD e 1

/-- The hash of the position at the head of the input, where three bytes follow in the record. DEDUCED (log entry 52). -/
def headHash : List Nat → Option Nat
  | a :: b :: c :: _ => some (lzdHash a b c)
  | _ => none

/-- Length of the common start of two byte strings, at most `n`. -/
def commonLen : Nat → List Nat → List Nat → Nat
  | 0, _, _ => 0
  | n + 1, a :: s, b :: t => if a = b then commonLen n s t + 1 else 0
  | _ + 1, _, _ => 0

/-- Positions of a chain, newest first, as distances back (R288). -/
def chainOf (h : Nat) : Nat → Nat → List (Nat × Option Nat) → List Nat
  | _, _, [] => []
  | 0, _, _ => []
  | depth + 1, i, (_, x) :: t => if x = some h then (i + 1) :: chainOf h depth (i + 1) t else chainOf h (depth + 1) (i + 1) t

/-- Length of the match at a distance (R287): the source may overlap its destination. -/
def matchAt (dict : List (Nat × Option Nat)) (input : List Nat) (dist : Nat) : Nat :=
  let src := ((dict.take dist).drop (dist - 130)).reverse.map (·.1)
  commonLen 130 input (src ++ input)

/-- The longest match, the nearest one on a tie, as length and distance (R288). -/
def bestMatch (dict : List (Nat × Option Nat)) (input : List Nat) (depth : Nat) : Nat × Nat :=
  match headHash input with
  | none => (0, 0)
  | some h => (chainOf h depth 0 dict).foldl (fun (b : Nat × Nat) dist => if b.1 < matchAt dict input dist then (matchAt dict input dist, dist) else b) (0, 0)

/-- Positions pass into the dictionary, each in its hash chain (R287, R288). -/
def enterDict : Nat → List Nat → List (Nat × Option Nat) → List Nat × List (Nat × Option Nat)
  | 0, input, dict => (input, dict)
  | _ + 1, [], dict => ([], dict)
  | n + 1, b :: t, dict => enterDict n t (((b, headHash (b :: t)) :: dict).take 65535)

/-- A literal run (R287). -/
def literalRun (l : List Nat) : List Nat := if l.isEmpty then [] else (l.length - 1) :: l

/-- The items of an LZD body without the end item, and the dictionary after it (R287, R288); `lit` is the literal run in progress. -/
def lzdItems (depth : Nat) : Nat → List Nat → List (Nat × Option Nat) → List Nat → List Nat × List (Nat × Option Nat)
  | 0, _, dict, lit => (literalRun lit, dict)
  | fuel + 1, input, dict, lit =>
    match input with
    | [] => (literalRun lit, dict)
    | b :: _ =>
      let m := bestMatch dict input depth
      if 3 ≤ m.1 then
        let e := enterDict m.1 input dict
        let r := lzdItems depth fuel e.1 e.2 []
        (literalRun lit ++ (128 + (m.1 - 3)) :: m.2 / 256 :: m.2 % 256 :: r.1, r.2)
      else
        let e := enterDict 1 input dict
        if lit.length = 127 then
          let r := lzdItems depth fuel e.1 e.2 []
          (literalRun (lit ++ [b]) ++ r.1, r.2)
        else lzdItems depth fuel e.1 e.2 (lit ++ [b])

/-- A match of the verify decoder (R287): bytes copied from a distance back, and the dictionary after them, newest byte first. -/
def copyBack (dist : Nat) : Nat → List Nat → List Nat × List Nat
  | 0, dict => ([], dict)
  | n + 1, dict =>
    let b := dict.getD (dist - 1) 0
    let r := copyBack dist n (b :: dict)
    (b :: r.1, r.2)

/-- The verify decoder of LZD (R287, R291), with the dictionary of its coder, newest byte first. -/
def lzdDecode : Nat → List Nat → List Nat → List Nat
  | 0, _, _ => []
  | _ + 1, [], _ => []
  | fuel + 1, c :: t, dict =>
    if c < 128 then t.take (c + 1) ++ lzdDecode fuel (t.drop (c + 1)) ((t.take (c + 1)).reverse ++ dict)
    else
      match t with
      | hi :: lo :: u =>
        if 256 * hi + lo = 0 then []
        else
          let r := copyBack (256 * hi + lo) (c - 125) dict
          r.1 ++ lzdDecode fuel u r.2
      | _ => []

/-- The verify loop of LZD finds no mismatch (R291). -/
def lzdVerified (input out : List Nat) (dict : List (Nat × Option Nat)) (fault : List (Nat × Nat)) : Bool :=
  lzdDecode (out.length + 1) (changeBytes out fault) (dict.map (·.1)) == input

/-- A stream's LZD engine. -/
def Dc.lzd (d : Dc) (s : Nat) : Lzd := FMap.get {} d.cmp.lzd s
def Dc.setLzd (d : Dc) (s : Nat) (x : Lzd) : Dc := { d with cmp := { d.cmp with lzd := FMap.put {} d.cmp.lzd s x } }

/-- The present block ends: the next record starts a new one (R289). -/
def Lzd.endBlock (x : Lzd) : Lzd := if x.fresh then x else { x with dict := [], used := 0, block := (x.block + 1) % 2 ^ 24, fresh := true }

/-- What the coder makes of one record: method, raw cause, body words, coded bytes, block start, effort, block number, overflow buffers,
and the engine after it. -/
structure Coding where
  method : Nat := 0
  cause : Nat := 0
  body : List Rec := []
  bytes : Nat := 0
  start : Bool := false
  effort : Nat := 0
  block : Nat := 0
  buffers : Nat := 0
  lzd : Lzd := {}
  deriving DecidableEq, Repr

/-- A raw body (R282). -/
def rawCoding (r : QRec) (cause : Nat) (x : Lzd) : Coding := { cause := cause, body := r.body, bytes := 8 * r.body.length, lzd := x }

/-- Overflow buffers a body of that many bytes needs (R290). -/
def Dc.spill (d : Dc) (bytes : Nat) : Nat := (bytes - 1024 * d.fld DC.CMP.LZD.PRIMARY + 4095) / 4096

/-- The longest window of FRB in ticks (R282). -/
def frbSpan (mode : Nat) : Nat := if mode = modeFrb48 then 1048576 else 32768

/-- Code a record under its sample of `DC.CMP.CTRL` (R271, R282, R289 to R291); `fault`: how the coded bytes reach the verify decoder. -/
def Dc.coding (d : Dc) (r : QRec) (fault : List (Nat × Nat)) : Coding :=
  let mode := fieldOf r.ctrl (if r.stream = 1 then 3 else 1) 2
  let effort := fieldOf r.ctrl (if r.stream = 1 then 8 else 5) 3
  let x0 := d.lzd r.stream
  let x0 := if x0.mode = some mode then x0 else { x0.endBlock with mode := some mode }
  if fieldOf r.ctrl 0 1 = 0 ∨ mode = modeRaw then rawCoding r 1 x0
  else if r.body.isEmpty then rawCoding r 5 x0
  else if rb (r.head.getD 2 0) 3 1 = 1 then rawCoding r 2 x0
  else if mode = modeLzd then
    if r.backlog then rawCoding r 6 x0
    else
      let input := r.body.flatMap recBytes
      let y := lzdItems (lzdDepth effort) (input.length + 1) input x0.dict []
      let out := y.1 ++ [0x80, 0, 0]
      let b := d.spill out.length
      if d.fld DC.CMP.POOL.FREE < b then rawCoding r 7 x0
      else if !lzdVerified input out x0.dict fault then rawCoding r 3 x0.endBlock
      else
        let x := { x0 with dict := y.2, used := x0.used + input.length, fresh := false }
        { method := modeLzd, body := byteWords out.length out, bytes := out.length, start := x0.fresh, effort := effort, block := x0.block, buffers := b,
          lzd := if 1024 * d.fld DC.CMP.LZD.BLOCK ≤ x.used then x.endBlock else x }
  else if frbSpan mode < (r.head.getD 5 0).toNat - (r.head.getD 4 0).toNat then rawCoding r 4 x0
  else
    let f := frbBody mode r.body
    if !frbVerified mode r.body f fault then rawCoding r 3 x0 else { method := mode, body := f.1, bytes := f.2, lzd := x0 }

/-- The coding word (R271). -/
def Coding.word (c : Coding) (stream : Nat) : Rec :=
  BitVec.ofNat 64 (c.method % 16 * 2 ^ 60 + c.cause % 16 * 2 ^ 56 + stream % 2 * 2 ^ 55 + c.start.toNat * 2 ^ 54 + c.effort % 8 * 2 ^ 51
    + c.bytes % 2 ^ 24 * 2 ^ 24 + c.block % 2 ^ 24)

/-- The coder reads a record's body from the staging area and passes it through its buffers: a poisoned word of either sets POISON in the record (R291, R326, R334). -/
def Dc.coderBite (d : Dc) (r : QRec) : Dc × QRec :=
  let x := if recTomb r.head then (d, r.body, none) else d.stagedRead (holdLine (recSeq r.head) (recFragment r.head) + 1) r.body
  let d := match x.2.2 with | some p => x.1.bite logDram p.1 (32 * p.2) | none => x.1
  let r := { r with body := x.2.1 }
  match d.marked arrCoder 0 (2 ^ 24) with
  | some w => (((d.bite logSram arrCoder w).sramClean arrCoder w (w + 1)), { r with head := addFlags r.head 8 })
  | none => (d, if x.2.2.isSome then { r with head := addFlags r.head 8 } else r)

/-- The oldest released record is coded, verified and given its check word (R269 to R271, R291, R295). -/
def Dc.codeRecord (d : Dc) (fault : List (Nat × Nat)) : Dc :=
  match d.qlf.out with
  | [] => d
  | r :: t =>
    let y := ({ d with qlf := { d.qlf with out := t } } : Dc).coderBite r
    let d := y.1
    let r := y.2
    let c : Coding := d.coding r fault
    let d : Dc := d.setLzd r.stream c.lzd
    let head := addFlags r.head (c.method * 2 ^ 12 + (if c.cause = 3 then 0x800 else 0))
    let ws := head ++ [c.word r.stream] ++ r.qual ++ c.body
    let f := d.foldHardware (r.stream % 2) (recFragment r.head * 2 ^ 48 + recSeq r.head) ws
    let d := f.1.inc DC.CMP.RECORDS.COUNT
    let d := if c.cause = 0 then d else d.inc (DC.CMP.RAW.COUNT c.cause)
    let d := if c.buffers = 0 then d else (d.inc DC.CMP.SPILLED.COUNT).set DC.CMP.POOL.FREE (d.fld DC.CMP.POOL.FREE - c.buffers)
    { d with cmp := { d.cmp with out := d.cmp.out ++ [{ words := ws ++ [BitVec.ofNat 64 f.2], stream := r.stream, buffers := c.buffers }] } }

/-- FLUSH0 or FLUSH1 is written (R289). -/
def Dc.lzdFlush (d : Dc) (s : Nat) : Dc := d.setLzd s (d.lzd s).endBlock

end Sys2Proof.Machine
end

