-- ==== Sys2Proof/Machine/Peat.lean ====
section
/-! DEFINITION. The Peat store (R298 to R321): log, commit and journal, checkpoints, power failure and replay, wear, drain. -/
namespace Sys2Proof.Machine

/-- Bytes of a logical page (R298). -/
def pageBytes : Nat := 16384

/-- Commit buffer and its last part, in bytes (R304, R305). -/
def commitBuffer : Nat := 536870912
def commitTail : Nat := 8388608

/-- Pages of the hard reserve (R305). -/
def hardPages : Nat := 4096

/-- Entries a journal page holds (R309). -/
def journalEntries : Nat := 511

/-- U for a number of good pages (R300). -/
def usablePages (g : Nat) : Nat :=
  let a := 98 * g / 100 - 524288
  let fits (u : Nat) : Bool := decide (u + 2 * ((u + 2047) / 2048) ≤ a)
  let c := a * 1024 / 1025
  min (2 ^ 27) (if fits c then c else if fits (c - 1) then c - 1 else if fits (c - 2) then c - 2 else c - 3)

/-- Replace the flash content. -/
def Dc.setFlash (d : Dc) (f : Flash) : Dc := { d with peat := { d.peat with flash := f } }

/-- The bits [58:40] of a map entry for block number `k` of a channel (R303). -/
def blockBits (g : FlashGeom) (k : Nat) : Nat :=
  let plane := k / g.blocks % (g.planes + 1)
  let lun := k / g.blocks / (g.planes + 1) % (g.luns + 1)
  let target := k / g.blocks / (g.planes + 1) / (g.luns + 1)
  target * 2 ^ 17 + lun * 2 ^ 16 + plane * 2 ^ 14 + k % g.blocks

/-- A flash block. -/
def Flash.block (f : Flash) (key : Nat) : FBlock := FMap.get {} f.blocks key
def Flash.setBlock (f : Flash) (key : Nat) (b : FBlock) : Flash := { f with blocks := FMap.put {} f.blocks key b }

/-- Good pages in use (R300). -/
def Flash.good (f : Flash) : Nat :=
  match f.geom with
  | none => 0
  | some g => f.perBlock * (8 * chanBlocks g - (f.blocks.filter fun b => b.2.state == 4).length)

/-- Logical pages from RELEASE on that a log whose head stands at `head` holds (R303, R318). -/
def PeatSt.usedTo (p : PeatSt) (head : Nat) : Nat := (head + pageBytes - 1) / pageBytes - p.log.release / pageBytes
def PeatSt.used (p : PeatSt) : Nat := p.usedTo p.head

/-- Free logical pages (R305, R315): the spare that retirement has used up lowers them. -/
def PeatSt.free (p : PeatSt) : Nat := min p.flash.u (usablePages p.flash.good) - p.used

/-- `FREE`, `SOFT` and `HARD` as they stand (R305). -/
def Dc.showFree (d : Dc) : Dc :=
  let free := d.peat.free
  ((d.set DC.PEAT.FREE.PAGES free).set DC.PEAT.STATUS.SOFT (decide (free < d.fld DC.PEAT.SOFT_RES.PAGES)).toNat).set DC.PEAT.STATUS.HARD (decide (free < hardPages)).toNat

/-- `FREE`, `SOFT` and `HARD` as they stand; at the fall below the hard reserve the engine stops (R305, R306). -/
def Dc.peatRefresh (d : Dc) : Dc :=
  let was := d.fld DC.PEAT.STATUS.HARD
  let d := d.showFree
  if d.fld DC.PEAT.STATUS.HARD = 1 ∧ was = 0 then
    let d := d.engineEn false
    let d := [1, 2, 3, 4, 5].foldl (fun (d : Dc) (s : Nat) => d.set (DC.TRG.HOLDOFF.EN s) 0) d
    d.notify 0x0102 d.peat.free
  else d

/-- The magic of a journal page and of a fence page (R309, R312). -/
def journalMagic : Nat := 0x4A50
def fenceMagic : Nat := 0x4A46

/-- The header of a journal or fence page (R309, R312): four words with the magic, the count and the CRC in the first, P in the second, a J in the third. How the fields
lie in the 32 B is the model's. DESIGN CHOICE (log entry 121). -/
def pageHeader (magic serial j count crc : Nat) : List Rec :=
  [BitVec.ofNat 64 (magic % 65536 * 2 ^ 48 + count % 65536 * 2 ^ 32 + crc % 2 ^ 32), BitVec.ofNat 64 serial, BitVec.ofNat 64 j, 0]

/-- The first J on a journal page, 0 where it has no RECORD entry. -/
def JPage.firstJ (j : JPage) : Nat :=
  match j.entries.find? fun e => rb (e.getD 0 0) 60 4 == 1 with
  | some e => rb (e.getD 0 0) 0 60
  | none => 0

/-- The words of a journal page (R309). -/
def JPage.words (j : JPage) : List Rec := pageHeader journalMagic j.serial j.firstJ j.entries.length j.crc ++ j.entries.flatten

/-- The open journal page closes (R309): its CRC comes from Fold context 3, started with P. -/
def Dc.closePage (d : Dc) : Dc :=
  let j := d.peat.jopen
  let f := d.foldHardware 3 j.serial j.entries.flatten
  { f.1 with peat := { f.1.peat with jwait := f.1.peat.jwait ++ [{ j with crc := f.2 }], jopen := { serial := j.serial + 1 } } }

/-- Place an entry in the journal (R309): a full page closes first. -/
def Dc.journal (d : Dc) (e : List Rec) : Dc :=
  let d := if d.peat.jopen.entries.length < journalEntries then d else d.closePage
  let p := d.peat
  let p := if p.jopen.entries.isEmpty then { p with jfrom := d.now } else p
  { d with peat := { p with jopen := { p.jopen with entries := p.jopen.entries ++ [e] } } }

/-- The serial of the journal page in which the next entry stands (R303, R309). -/
def PeatSt.nextSerial (p : PeatSt) : Nat := if p.jopen.entries.length < journalEntries then p.jopen.serial else p.jopen.serial + 1

/-- Journal entries (R309). In a BLOCK entry the two bits above the place hold the state (log entry 68). -/
def entryRecord (x : PItem) : List Rec :=
  let w := x.words.getD 0 0
  [BitVec.ofNat 64 (2 ^ 60 + x.j % 2 ^ 60), x.ident, BitVec.ofNat 64 x.off, BitVec.ofNat 64 (rb w 32 16 * 2 ^ 48 + rb w 54 1 * 2 ^ 47 + rb w 55 1 * 2 ^ 46)]
def entryBind (l e : Nat) : List Rec := [BitVec.ofNat 64 (2 * 2 ^ 60 + l % 2 ^ 27), BitVec.ofNat 64 e, 0, 0]
def entryRelease (release released : Nat) : List Rec := [BitVec.ofNat 64 (3 * 2 ^ 60), BitVec.ofNat 64 release, BitVec.ofNat 64 released, 0]
def entryCredit (id limit : Nat) : List Rec := [BitVec.ofNat 64 (4 * 2 ^ 60), BitVec.ofNat 64 (id % 2 ^ 32), BitVec.ofNat 64 limit, 0]
def entryBlock (state key erases : Nat) : List Rec :=
  [BitVec.ofNat 64 (5 * 2 ^ 60), BitVec.ofNat 64 (state % 4 * 2 ^ 62 + (key / 2 ^ 20 * 2 ^ 19 + key % 2 ^ 19) % 2 ^ 22 * 2 ^ 40), BitVec.ofNat 64 erases, 0]

/-- The erase count of a block (R314). -/
def Flash.erases (f : Flash) (b : FBlock) : Nat := if b.state = 4 then b.erases else b.erases + f.base

/-- `ERASE_MAX`, `ERASE_MEAN` and `RETIRED` from the block table (R314, R320). -/
def Dc.wearRefresh (d : Dc) : Dc :=
  let f := d.peat.flash
  let bs := f.blocks.map (·.2)
  let n := match f.geom with | some g => 8 * chanBlocks g | none => 0
  let all := total (bs.map f.erases) + (n - bs.length) * f.base
  ((d.set DC.PEAT.ERASE_MAX.COUNT ((bs.map f.erases).foldl max f.base)).set DC.PEAT.ERASE_MEAN.COUNT (if n = 0 then 0 else all / n)).set
    DC.PEAT.RETIRED.BLOCKS (bs.filter fun b => b.state == 4).length

/-- The lowest block number of a channel, from `k` on, that has never been used. -/
def freshBlock (f : Flash) (g : FlashGeom) (c : Nat) : Nat → Nat → Option Nat
  | 0, _ => none
  | fuel + 1, k =>
    if chanBlocks g ≤ k then none
    else if f.block (2 ^ 20 * c + blockBits g k) = {} then some (2 ^ 20 * c + blockBits g k) else freshBlock f g c fuel (k + 1)

/-- The next open block of a channel: the free good block with the lowest erase count, the lowest number on a tie (R314). -/
def Flash.choose (f : Flash) (c : Nat) : Option Nat :=
  match f.geom with
  | none => none
  | some g =>
    let used := f.blocks.filter fun b => b.1 / 2 ^ 20 == c && b.2.state == 0
    let best := used.foldl (fun (o : Option (Nat × Nat)) b => match o with | some (_, e) => if b.2.erases < e then some (b.1, b.2.erases) else o | none => some (b.1, b.2.erases)) none
    match best with
    | some (k, 0) => some k
    | _ => (freshBlock f g c (f.blocks.length + 1) 0).or (best.map (·.1))

/-- A channel without an open block allocates and erases one, unless a power failure has stopped the store (R312, R314). DESIGN CHOICE (log entry 54). -/
def Dc.allocBlock (d : Dc) (c : Nat) : Dc :=
  if (FMap.get none d.peat.open' c).isSome ∨ (FMap.get none d.peat.erasing c).isSome ∨ d.peat.stopped.isSome then d
  else
    match d.peat.flash.choose c with
    | none => d
    | some k =>
      let b := d.peat.flash.block k
      let d := d.setFlash (d.peat.flash.setBlock k { state := 1, erases := b.erases + 1 })
      ({ d with peat := { d.peat with erasing := FMap.put none d.peat.erasing c (some k) } } : Dc).wearRefresh

/-- Allocate in every channel. -/
def Dc.allocAll (d : Dc) : Dc := (List.range 8).foldl (fun (d : Dc) (c : Nat) => d.allocBlock c) d

/-- A block of a channel for journal or checkpoint pages (R311, R314), with its BLOCK entry; its erase ends with the allocation. DESIGN CHOICE (log entry 54). -/
def Dc.poolBlock (d : Dc) (c : Nat) : Dc × Option Nat :=
  match d.peat.flash.choose c with
  | none => (d, none)
  | some k =>
    let n := (d.peat.flash.block k).erases + 1
    let d := d.setFlash (d.peat.flash.setBlock k { state := 6, erases := n })
    ((d.journal (entryBlock 1 k (n + d.peat.flash.base))).wearRefresh, some k)

/-- Blocks of the pool that hold nothing any more (R311, R314). -/
def Flash.freeKeys (f : Flash) (keys : List Nat) : Flash :=
  keys.foldl (fun (f : Flash) k => if (f.block k).state = 6 then f.setBlock k { f.block k with state := 0 } else f) f

/-- Unit and address of a flash place in the correction log (R339). -/
def flashUnit (key : Nat) : Nat := key / 2 ^ 20 * 32 + key % 2 ^ 20 / 2 ^ 14
def flashAddr (key page : Nat) : Nat := key % 2 ^ 14 * 2 ^ 24 + page % 4096 * 2 ^ 12

/-- The erase of a newly allocated block ends (R314, R315, R333). -/
def Dc.eraseDone (d : Dc) (c : Nat) (ok : Bool) : Dc :=
  match FMap.get none d.peat.erasing c with
  | none => d
  | some k =>
    let d : Dc := { d with peat := { d.peat with erasing := FMap.put none d.peat.erasing c none } }
    let b := d.peat.flash.block k
    if ok then
      let d := d.setFlash (d.peat.flash.setBlock k { b with state := 2 })
      ({ d with peat := { d.peat with open' := FMap.put none d.peat.open' c (some (k, 0)) } } : Dc).journal (entryBlock 1 k (b.erases + d.peat.flash.base))
    else
      let d := d.setFlash (d.peat.flash.setBlock k { b with state := 5 })
      (((d.inc DC.PEAT.ERASE_FAIL.COUNT).log logFlash kindEraseFail (flashUnit k) noPos (flashAddr k 0) 0)).allocBlock c

/-- The next page of the open block of the next channel in turn (R308), as block and page; none while that channel has no open block. -/
def Dc.nextPlace (d : Dc) : Option (Nat × Nat) := FMap.get none d.peat.open' d.peat.turn

/-- A place is used: the turn goes on, and a full block gives way to a new one (R308, R314). -/
def Dc.usePlace (d : Dc) : Dc :=
  let c := d.peat.turn
  match d.nextPlace with
  | none => d
  | some (k, pg) =>
    let d : Dc := { d with peat := { d.peat with turn := (c + 1) % 8 } }
    if pg + 1 < d.peat.flash.perBlock then { d with peat := { d.peat with open' := FMap.put none d.peat.open' c (some (k, pg + 1)) } }
    else
      let d := d.setFlash (d.peat.flash.setBlock k { d.peat.flash.block k with state := 3 })
      ({ d with peat := { d.peat with open' := FMap.put none d.peat.open' c none } } : Dc).allocBlock c

/-- A map entry (R303). -/
def mapEntry (state key page serial : Nat) : Nat :=
  state * 2 ^ 62 + key / 2 ^ 20 * 2 ^ 59 + key % 2 ^ 19 * 2 ^ 40 + page % 4096 * 2 ^ 28 + serial % 2 ^ 28

/-- State and block key of a map entry. -/
def mapState (e : Nat) : Nat := bits e 62 2
def mapBlock (e : Nat) : Nat := bits e 59 3 * 2 ^ 20 + bits e 40 19

/-- Bind a logical page to the next place (R303, R308, R309): the Peat controller writes the map entry, as soon as no other requester holds its line. -/
def Dc.bindPage (d : Dc) (l : Nat) : Dc :=
  match d.nextPlace with
  | none => d
  | some (k, pg) =>
    let d := d.usePlace
    let e := mapEntry 1 k pg d.peat.nextSerial
    (d.request 4 (.mapEntry l e)).journal (entryBind l e)

/-- Bytes of an item, and where it ends (R302). -/
def PItem.bytes (x : PItem) : Nat := 8 * x.words.length
def PItem.stop (x : PItem) : Nat := x.off + x.bytes

/-- Whether a logical page is programmed: closed, and not waiting. -/
def PeatSt.programmed (p : PeatSt) (page : Nat) : Bool := decide (page < p.head / pageBytes) && !p.unprog.contains page

/-- Pad items that follow the committed records directly and are programmed count as committed (R307, R310; log entry 63). -/
def commitPads (p : PeatSt) (items : List PItem) (c : Nat) : Nat :=
  items.foldl (fun c x => if x.off = c ∧ x.j = 0 ∧ p.programmed (x.off / pageBytes) then x.stop else c) c

/-- COMMIT takes in the pads that follow it. -/
def Dc.peatPads (d : Dc) : Dc :=
  { d with peat := { d.peat with log := { d.peat.log with commit := commitPads d.peat d.peat.flash.items d.peat.log.commit } } }

/-- Flag the items that touch bytes in [lo, hi): they are sent as POISON items (R316, R332). -/
def Dc.poisonItems (d : Dc) (lo hi : Nat) : Dc :=
  d.setFlash { d.peat.flash with items := d.peat.flash.items.map fun x => if x.j ≠ 0 ∧ x.off < hi ∧ lo < x.stop then { x with poison := true } else x }

/-- Whether a page program may go on (R312): those started before a power failure do. -/
def PeatSt.goesOn (p : PeatSt) (page : Nat) : Bool := match p.stopped with | none => true | some s => s.1.contains page

/-- The Peat controller reads a page of the commit buffer for programming (R332): the lines that are poisoned, and where a word of its own buffers is poisoned the line
that it holds; the words of the array hold the lines of the page in turn, eight to a line. DESIGN CHOICE (log entry 122). -/
def Dc.pageLines (d : Dc) (page : Nat) : Dc × List Nat :=
  let x := if d.mem.dram.isEmpty then (d, []) else
    (List.range 256).foldl (fun (x : Dc × List Nat) (i : Nat) =>
      let y := x.1.stagingPoison (commitLine (pageBytes * page + 64 * i))
      (y.1, if y.2 = 0 then x.2 else x.2 ++ [i])) (d, [])
  match x.1.marked arrPeat 0 (2 ^ 24) with
  | none => x
  | some w => ((x.1.bite logSram arrPeat w).sramClean arrPeat w (w + 1), x.2 ++ [w / 8 % 256])

/-- The page poison map from the lines of a page that are poisoned (R331, R332). -/
def poisonMap (lines : List Nat) : Nat := lines.foldl (fun v i => if v.testBit i then v else v + 2 ^ i) 0

/-- Lines of a page are poisoned: the records with a byte in them are sent as POISON items (R332). -/
def Dc.poisonLines (d : Dc) (page : Nat) (lines : List Nat) : Dc :=
  lines.foldl (fun (d : Dc) (i : Nat) => d.poisonItems (page * pageBytes + 64 * i) (page * pageBytes + 64 * i + 64)) d

/-- The program of a logical page ends (R308, R312, R332): bound, with its poison map, or programmed again elsewhere; after a power failure not before programming
resumes. -/
def Dc.pageDone (d : Dc) (page : Nat) (ok : Bool) (t : Nat) : Dc :=
  if !d.peat.unprog.contains page ∨ !d.peat.goesOn page then d
  else
    match d.nextPlace with
    | none => d
    | some (k, pg) =>
      let d := d.until t
      if ok then
        let x := d.pageLines page
        let d := (x.1.bindPage (page % d.peat.flash.u)).poisonLines page x.2
        let d := d.setFlash { d.peat.flash with poison := FMap.put 0 d.peat.flash.poison page (poisonMap x.2) }
        ({ d with peat := { d.peat with unprog := d.peat.unprog.filter (· != page) } } : Dc).peatPads
      else
        let d : Dc := { d with peat := { d.peat with stopped := d.peat.stopped.map fun s => (s.1.filter (· != page), s.2) } }
        ((d.inc DC.PEAT.PROG_FAIL.COUNT).log logFlash kindProgFail (flashUnit k) noPos (flashAddr k pg) 0).usePlace

/-- BCH codewords of a flash page, the data and metadata bytes each covers and its parity in bytes (R322, R331). -/
def pageCodewords : Nat := 16
def codewordData : Nat := 1024
def codewordMeta : Nat := 4
def codewordParity : Nat := 126

/-- Bits that a BCH codeword corrects (R322). -/
def bchCorrects : Nat := 72

/-- The 64 metadata bytes of a flash page (R331): the page poison map, line 0 in bit 7 of byte 0, the log offset, the log identity, and 0. -/
def pageMeta (poison off id : Nat) : List Nat :=
  (List.range 32).map (fun k => (List.range 8).foldl (fun v i => 2 * v + (poison.testBit (8 * k + i)).toNat) 0)
    ++ bytesBE 8 off ++ bytesBE 4 id ++ List.replicate 20 0

/-- The 1,028 bytes that codeword `w` of a page covers (R331): data bytes 1,024w on and metadata bytes 4w on. -/
def codewordBytes (data about : List Nat) (w : Nat) : List Nat :=
  (data.drop (codewordData * w)).take codewordData ++ (about.drop (codewordMeta * w)).take codewordMeta

/-- The metadata of a programmed page of the log, and of journal, checkpoint and root pages (R331). -/
def Flash.metaOf (f : Flash) (page : Nat) : List Nat := pageMeta (FMap.get 0 f.poison page) (page * pageBytes) f.id
def otherMeta : List Nat := pageMeta 0 0 0

/-- A page of flash is read with these wrong bits in its codewords (R315, R332): codewords that fail BCH, each with its log entry; a corrected one above the threshold
is logged as a warning. A failing codeword shows no number of corrections, so its entry has 0. DESIGN CHOICE (log entry 123). -/
def Dc.flashRead (d : Dc) (key pg : Nat) (wrong : List Nat) : Dc × List Nat :=
  (List.range pageCodewords).foldl (fun (x : Dc × List Nat) (w : Nat) =>
    let n := wrong.getD w 0
    if bchCorrects < n then (((x.1.inc DC.MEM.FLASH_UE.COUNT).log logFlash kindFlashUe (flashUnit key) w (flashAddr key pg) 0), x.2 ++ [w])
    else if d.fld DC.PEAT.BCH_WARN.THRESH < n then (x.1.log logFlash kindFlashWarn (flashUnit key) w (flashAddr key pg) n, x.2)
    else x) (d, [])

/-- Append an item to the log (R304), in the commit buffer: pages that it fills close. -/
def Dc.appendItem (d : Dc) (x : PItem) : Dc :=
  let a := d.peat.head
  let b := a + x.bytes
  let closed := (List.range (b / pageBytes - a / pageBytes)).map (· + a / pageBytes)
  let p := d.peat
  let from' := if b % pageBytes = 0 then none else if closed.isEmpty ∧ a % pageBytes ≠ 0 then p.openFrom else some d.now
  ({ d with peat := { p with head := b, unprog := p.unprog ++ closed, openFrom := from', flash := { p.flash with items := p.flash.items ++ [x] } } } : Dc).commitWrite a b

/-- The peat word of an item (R302). -/
def peatWord (tag dropped stream poison cause words check : Nat) : Rec :=
  BitVec.ofNat 64 (tag * 2 ^ 56 + dropped % 2 * 2 ^ 55 + stream % 2 * 2 ^ 54 + poison % 2 * 2 ^ 53 + cause % 16 * 2 ^ 48 + words % 65536 * 2 ^ 32 + check % 2 ^ 32)

/-- Bytes of the log in the commit buffer that are not programmed (R304). -/
def PeatSt.waiting (p : PeatSt) : Nat := pageBytes * p.unprog.length + p.head % pageBytes

/-- The drop cause of a record of a size (R305); the most severe one that holds. DEDUCED (log entry 53). -/
def Dc.dropCause (d : Dc) (bytes : Nat) : Nat :=
  let free := d.peat.free
  if free < hardPages then 3
  else if commitBuffer - commitTail < d.peat.waiting + bytes then 2
  else if free < d.fld DC.PEAT.SOFT_RES.PAGES then 1
  else 0

/-- The oldest coded record is submitted (R25, R304, R305) by the active unit's store. One for which the log has no page left waits (R303). DESIGN CHOICE (log entry 124). -/
def Dc.recordSubmit (d : Dc) : Dc :=
  match d.cmp.out with
  | [] => d
  | r :: t =>
    let cause := d.dropCause (8 * (r.words.length + 1))
    let ws := if cause = 0 then r.words else r.words.take 13
    let off := d.peat.head
    if !d.active ∨ d.fld DC.PEAT.CTRL.EN = 0 ∨ d.fld DC.PEAT.STATUS.READY = 0 ∨ d.peat.flash.u < d.peat.usedTo (off + 8 * (ws.length + 1)) then d
    else
      let d : Dc := { d with cmp := { d.cmp with out := t } }
      let d := d.set DC.CMP.POOL.FREE (d.fld DC.CMP.POOL.FREE + r.buffers)
      let f := d.foldHardware 2 off ws
      let j := d.peat.submitted + 1
      let x : PItem := { off := off, j := j, ident := BitVec.ofNat 64 (recFragment r.words * 2 ^ 48 + recSeq r.words),
                         words := peatWord 0x50 (if cause = 0 then 0 else 1) r.stream 0 cause ws.length f.2 :: ws }
      let d := f.1.appendItem x
      let d : Dc := { d with peat := { d.peat with submitted := j, skeleton := d.peat.skeleton + (if cause = 0 then 0 else 1) } }
      (d.journal (entryRecord x)).peatRefresh

/-- The oldest byte of the open page has waited FLUSH frames: the page is padded (R308). -/
def Dc.pageFlush (d : Dc) : Dc :=
  match d.peat.openFrom with
  | none => d
  | some t =>
    if d.peat.stopped.isSome ∨ d.fld DC.PEAT.CTRL.EN = 0 then d
    else
      let d := d.until (t + d.fld DC.PEAT.CTRL.FLUSH * frameTicks)
      let ws := List.replicate ((pageBytes - d.peat.head % pageBytes) / 8 - 1) (0 : Rec)
      let f := d.foldHardware 2 d.peat.head ws
      (f.1.appendItem { off := d.peat.head, words := peatWord 0x5F 0 0 0 0 ws.length f.2 :: ws }).peatRefresh

/-- Whether every data page that holds a byte of a record the journal page names is programmed (R309). -/
def PeatSt.dataReady (p : PeatSt) (j : JPage) : Bool :=
  j.entries.all fun e =>
    if rb (e.getD 0 0) 60 4 = 1 then
      let off := (e.getD 2 0).toNat
      let stop := off + 8 + 8 * rb (e.getD 3 0) 48 16
      (List.range ((stop - 1) / pageBytes - off / pageBytes + 1)).all fun i => p.programmed (off / pageBytes + i)
    else true

/-- The open journal page is full, or FLUSH frames have passed since its first entry (R309). -/
def Dc.journalClose (d : Dc) : Dc :=
  if d.peat.jopen.entries.isEmpty ∨ d.peat.stopped.isSome then d
  else
    let d := if d.peat.jopen.entries.length = journalEntries then d else d.until (d.peat.jfrom + d.fld DC.PEAT.CTRL.FLUSH * frameTicks)
    d.closePage

/-- The records a journal page names are committed (R310). -/
def Dc.commitPage (d : Dc) (j : JPage) : Dc :=
  let recs := j.entries.filter fun e => rb (e.getD 0 0) 60 4 == 1
  let log := d.peat.log
  let stop := match recs.getLast? with | some e => (e.getD 2 0).toNat + 8 + 8 * rb (e.getD 3 0) 48 16 | none => log.commit
  let log := { log with commit := max log.commit stop, committed := log.committed + recs.length }
  let js := recs.map fun e => rb (e.getD 0 0) 0 60
  let done := (d.peat.flash.items.filter fun x => js.contains x.j && rb (x.words.getD 8 0) 47 1 == 1).map fun x => rb x.ident 0 48
  let d : Dc := { d with trg := { d.trg with away := d.trg.away.filter fun c => !done.contains c.dec.seq } }
  ({ d with peat := { d.peat with log := log } } : Dc).peatPads

/-- The channel of a journal page's even copy (R309); the pairs of channels take turns (log entry 64). -/
def journalChannel (serial : Nat) : Nat := 2 * (serial % 4)

/-- Pages of one copy of the journal ring: 4 GiB (R300, R309). -/
def journalRing : Nat := 262144

/-- P₀ of the oldest valid checkpoint, from which on no journal page is overwritten (R311). -/
def Flash.oldestP0 (f : Flash) : Nat := match f.cps.getLast? with | some c => c.p0 | none => 0

/-- One copy of a journal page is programmed on a channel, in the next page of its journal block, or a new one (R309, R314, R333). -/
def Dc.copyDone (d : Dc) (c serial : Nat) (ok : Bool) : Dc :=
  let x := match FMap.get none d.peat.flash.jopen c with
    | some p => (d, some p)
    | none => let y := d.poolBlock c; (y.1, y.2.map fun k => (k, 0))
  let d := x.1
  let d := match x.2 with
    | none => d
    | some (k, pg) =>
      let f := d.peat.flash
      let f := if pg + 1 < f.perBlock then { f with jopen := FMap.put none f.jopen c (some (k, pg + 1)) }
        else { f with jopen := FMap.put none f.jopen c none, jfull := f.jfull ++ [(k, serial)] }
      d.setFlash f
  if ok then d
  else
    let p := x.2.getD (c * 2 ^ 20, 0)
    (d.inc DC.PEAT.PROG_FAIL.COUNT).log logFlash kindProgFail (flashUnit p.1) noPos (flashAddr p.1 p.2) 0

/-- The programs of both copies of the oldest closed journal page end (R309, R310). A page that would overwrite one of the oldest valid checkpoint's waits (R311). -/
def Dc.journalDone (d : Dc) (okEven okOdd : Bool) : Dc :=
  match d.peat.jwait with
  | [] => d
  | j :: _ =>
    let late : Bool := match d.peat.stopped with | some s => decide (s.2 ≤ j.serial) | none => false
    if !d.peat.dataReady j ∨ late ∨ d.peat.flash.oldestP0 + journalRing ≤ j.serial then d
    else
      let c := journalChannel j.serial
      let d := if j.even then d else d.copyDone c j.serial okEven
      let d := if j.odd then d else d.copyDone (c + 1) j.serial okOdd
      let t := d.peat.jwait.drop 1
      let j := { j with even := j.even || okEven, odd := j.odd || okOdd }
      let f := d.peat.flash
      if j.even ∧ j.odd then
        let kept := f.journal.filter fun x => decide (j.serial < x.serial + journalRing)
        ({ d with peat := { d.peat with jwait := t, flash := { f with journal := kept ++ [j], half := none } } } : Dc).commitPage j
      else { d with peat := { d.peat with jwait := j :: t, flash := { f with half := if j.even ∨ j.odd then some j else f.half } } }

/-- The totals of R320 in order. -/
def PeatSt.totals (p : PeatSt) : List Nat := [p.submitted, p.log.committed, p.lostPf, p.partnerHeld, p.skeleton, p.log.released]

/-- Pages that a checkpoint writes: the map, the block table and one of positions and totals (R300, R311); 8 bytes for a block. DESIGN CHOICE (log entry 54). -/
def Flash.checkpointPages (f : Flash) : Nat :=
  (f.u + 2047) / 2048 + (8 * (match f.geom with | some g => chanBlocks g | none => 0) + 2047) / 2048 + 1

/-- A checkpoint starts (R311), in fresh blocks of the channels in turn. -/
def Dc.checkpoint (d : Dc) : Dc :=
  let f := d.peat.flash
  let n := if f.perBlock = 0 then 0 else (f.checkpointPages + f.perBlock - 1) / f.perBlock
  let x := (List.range n).foldl (fun (x : Dc × List Nat) (i : Nat) => let y := x.1.poolBlock (i % 8); (y.1, x.2 ++ y.2.toList)) (d, [])
  let d := x.1
  let p := d.peat
  let c : PCheck := { at' := x.2, p0 := p.jopen.serial, map := p.flash.map, blocks := p.flash.blocks, log := p.log, plog := p.plog, totals := p.totals,
                      nextJ := p.submitted + 1, nextP := p.jopen.serial }
  ({ d with peat := { p with cpRun := some c, cpFrom := d.now } } : Dc).set DC.PEAT.STATUS.CP_BUSY 1

/-- Ticks in a minute. -/
def minuteTicks : Nat := 19200000000

/-- 1 GiB of journal or CP_MIN minutes have passed since the last checkpoint (R311). -/
def Dc.checkpointStart (d : Dc) : Dc :=
  if d.peat.cpRun.isSome ∨ d.fld DC.PEAT.CTRL.EN = 0 ∨ d.fld DC.PEAT.STATUS.READY = 0 ∨ d.peat.stopped.isSome then d
  else
    let p0 := (d.peat.flash.cps.head?.map (·.p0)).getD 0
    let d := if p0 + 65536 ≤ d.peat.jopen.serial then d else d.until (d.peat.cpFrom + d.fld DC.PEAT.CTRL.CP_MIN * minuteTicks)
    d.checkpoint

/-- A root page is programmed in a root block of channel 0 and one of channel 1; the two blocks of a channel fill in turn, each erased before its first page (R311).
DESIGN CHOICE (log entry 54). -/
def Flash.rootPage (f : Flash) : Flash :=
  let pair := if f.perBlock = 0 then 0 else f.rootPages / f.perBlock % 2
  let fresh := f.perBlock = 0 ∨ f.rootPages % f.perBlock = 0
  let f := if fresh then
      [f.roots.getD pair 0, f.roots.getD (2 + pair) 0].foldl (fun (f : Flash) k => if f.roots.contains k then f.setBlock k { f.block k with erases := (f.block k).erases + 1 } else f) f
    else f
  { f with rootPages := f.rootPages + 1 }

/-- The root page of the running checkpoint is programmed (R311): the checkpoint is valid, and with the one before it the oldest that is kept; journal pages and blocks
that neither needs are free. -/
def Dc.checkpointDone (d : Dc) : Dc :=
  match d.peat.cpRun with
  | none => d
  | some c =>
    let f := d.peat.flash.rootPage
    let gone := (f.cps.drop 1).flatMap (·.at')
    let f := { f with cps := c :: f.cps.take 1 }
    let p0 := f.oldestP0
    let old := f.jfull.filter fun (x : Nat × Nat) => decide (x.2 < p0)
    let f := { f with journal := f.journal.filter fun (j : JPage) => decide (p0 ≤ j.serial), jfull := f.jfull.filter fun (x : Nat × Nat) => decide (p0 ≤ x.2) }
    let f := f.freeKeys (gone ++ old.map (·.1))
    (({ d with peat := { d.peat with cpRun := none, flash := f } } : Dc).set DC.PEAT.STATUS.CP_BUSY 0).wearRefresh

/-- Submitted records that are not committed, lowest J first, as identities. -/
def PeatSt.pendingIdents (p : PeatSt) : List Rec := (p.flash.items.filter fun x => x.j != 0 && decide (p.log.commit ≤ x.off)).map (·.ident)

/-- The words of a fence page (R312): the header of R309 with its own magic, the last J, the DT of the event, the identities. -/
def Fence.words (x : Fence) : List Rec :=
  pageHeader fenceMagic x.serial x.lastJ x.idents.length x.crc ++ [BitVec.ofNat 64 x.dt] ++ x.idents

/-- PFAIL_N falls, or the droop passes its level: programming stops and the fence is written (R312), by a store that is ready. Its page takes the serial of the open
journal page, on whose channels it stands. -/
def Dc.powerFail (d : Dc) : Dc :=
  let p := d.peat
  if p.stopped.isSome then d
  else if !p.flash.formatted ∨ d.fld DC.PEAT.STATUS.READY = 0 then { d with peat := { p with stopped := some ([], 0) } }
  else
    let started := (p.jwait.takeWhile p.dataReady).getLast?
    let upTo := match started with | some j => j.serial + 1 | none => 0
    let idents := p.pendingIdents.take 2040
    let f := d.foldHardware 3 p.jopen.serial (BitVec.ofNat 64 d.now :: idents)
    { f.1 with peat := { p with stopped := some (p.unprog, upTo),
                                flash := { p.flash with fence := some { serial := p.jopen.serial, crc := f.2, lastJ := p.submitted, dt := d.now, idents := idents } } } }

/-- Programming resumes from the commit buffer (R449); the fence of the event is not left for a later replay (log entry 65). A fence that is still to be replayed stays. -/
def Dc.peatResume (d : Dc) : Dc :=
  match d.peat.stopped with
  | none => d
  | some _ =>
    let d : Dc := { d with peat := { d.peat with stopped := none, flash := if d.fld DC.PEAT.STATUS.READY = 1 then { d.peat.flash with fence := none } else d.peat.flash } }
    if d.fld DC.PEAT.CTRL.EN = 1 ∧ d.peat.flash.formatted then d.allocAll else d

/-- What a reset leaves of the store (R321): the flash, whose LUNs are reset and whose geometry is found anew in training (R298, R299). -/
def PeatSt.afterReset (p : PeatSt) : PeatSt :=
  let f := p.flash
  let f : Flash := { f with geom := none, feature := none, blocks := f.blocks.map fun (b : Nat × FBlock) => (b.1, if b.2.state = 1 then { b.2 with state := 0 } else if b.2.state = 2 then { b.2 with state := 3 } else b.2) }
  let f := match f.half with | some j => { f with journal := f.journal ++ [j], half := none } | none => f
  { flash := f }

/-- Whether a copy of a journal page reads back with a valid CRC (R313, R332): it was programmed, and is not among those that do not read back. -/
def JPage.reads (j : JPage) (bad : List Nat) : Bool := (j.even && !bad.contains (2 * j.serial)) || (j.odd && !bad.contains (2 * j.serial + 1))

/-- The run of accepted journal pages from a serial on (R313): either copy of each reads back. -/
def acceptedPages (bad : List Nat) (p0 : Nat) : List JPage → List JPage
  | [] => []
  | j :: t => if j.serial < p0 then acceptedPages bad p0 t else if j.serial = p0 ∧ j.reads bad then j :: acceptedPages bad (p0 + 1) t else []

/-- What replay gathers from journal entries (R309, R313). -/
structure Replay where
  log : PeatPos := {}
  plog : PeatPos := {}
  lastJ : Nat := 0
  lost : Nat := 0
  skeleton : Nat := 0
  map : FMap Nat := []
  blocks : FMap FBlock := []
  deriving DecidableEq, Repr

/-- Replay one entry (R309, R313); `nextJ`: the next J of the checkpoint, `base`: the erases of formats. Entries hold absolute values. A RELEASE entry names no log and
is the own log's. -/
def replayEntry (base nextJ : Nat) (r : Replay) (e : List Rec) : Replay :=
  let w0 := e.getD 0 0
  let w1 := (e.getD 1 0).toNat
  let w2 := (e.getD 2 0).toNat
  let k := rb w0 60 4
  if k = 1 then
    let j := rb w0 0 60
    if j ≤ r.lastJ then r
    else
      { r with lastJ := j, lost := r.lost + (j - r.lastJ - 1), skeleton := r.skeleton + (if nextJ ≤ j then rb (e.getD 3 0) 46 1 else 0),
               log := { r.log with commit := w2 + 8 + 8 * rb (e.getD 3 0) 48 16, committed := r.log.committed + 1 } }
  else if k = 2 then { r with map := FMap.put 0 r.map (rb w0 0 27) w1 }
  else if k = 3 then { r with log := { r.log with release := w1, released := w2 } }
  else if k = 4 then
    if w1 % 2 ^ 32 = r.log.id then { r with log := { r.log with limit := w2 } }
    else if w1 % 2 ^ 32 = r.plog.id then { r with plog := { r.plog with limit := w2 } }
    else r
  else if k = 5 then
    let key := bits w1 59 3 * 2 ^ 20 + bits w1 40 19
    { r with blocks := FMap.put {} r.blocks key (if bits w1 62 2 = 2 then { state := 4, erases := w2 } else { state := 3, erases := w2 - base }) }
  else r

/-- `LOG_ID` and `CAP` of a formatted store (R300, R302). -/
def Dc.showStore (d : Dc) : Dc := (d.set DC.PEAT.LOG_ID.ID d.peat.flash.id).set DC.PEAT.CAP.PAGES d.peat.flash.u

/-- Blocks whose pages have all been released become free (R314). -/
def Flash.freeBlocks (f : Flash) : Flash :=
  let live := (f.map.filter fun x => mapState x.2 == 1).map fun x => mapBlock x.2
  { f with blocks := f.blocks.map fun b => (b.1, if b.2.state = 3 ∧ !live.contains b.1 then { b.2 with state := 0 } else b.2) }

/-- The blocks that hold the journal, the checkpoints and their roots (R311). -/
def Flash.systemKeys (f : Flash) : List Nat := f.roots ++ f.cps.flatMap (·.at') ++ f.jfull.map (·.1) ++ f.jopen.filterMap fun x => x.2.map (·.1)

/-- The newest checkpoint whose root reads back, and the age of that root (R313). -/
def Flash.checkpointOf (f : Flash) (badRoots : List Nat) : Option PCheck :=
  ((List.range f.cps.length).find? fun i => !badRoots.contains i).bind fun i => f.cps[i]?

/-- The firmware replays the store (R313, R469): in CORE, and only a store that has been formatted (R321). DEDUCED (log entry 69). -/
def Dc.replay (d : Dc) (ms : Nat) (badRoots badPages : List Nat) : Dc :=
  let f := d.peat.flash
  if d.state ≠ dcCore ∨ f.geom.isNone ∨ !f.formatted ∨ d.fld DC.PEAT.STATUS.READY = 1 then d
  else
    let c : PCheck := (f.checkpointOf badRoots).getD { log := { id := f.id }, totals := [0, 0, 0, 0, 0, 0] }
    let lost0 := c.totals.getD 2 0
    let r0 : Replay := { log := c.log, plog := c.plog, lastJ := c.log.committed + lost0, lost := lost0, skeleton := c.totals.getD 4 0, map := c.map, blocks := c.blocks }
    let pages := acceptedPages badPages c.p0 f.journal
    let r := (pages.flatMap (·.entries)).foldl (replayEntry f.base c.nextJ) r0
    let last := match f.fence with | some x => max x.lastJ r.lastJ | none => r.lastJ
    let stop := r.log.commit
    let pg := (stop + pageBytes - 1) / pageBytes
    let items := f.items.filter fun x => decide (x.off < stop ∧ r.log.release < x.stop)
    let live := (List.range (pg - r.log.release / pageBytes)).map fun i => (r.log.release / pageBytes + i) % f.u
    let map := r.map.filter fun x => mapState x.2 != 1 || live.contains x.1
    let serial := match pages.getLast? with | some j => j.serial + 1 | none => c.nextP
    let sys := f.systemKeys
    let blocks := r.blocks.map fun b =>
      (b.1, if b.2.state = 4 then b.2 else if sys.contains b.1 then { b.2 with state := 6 } else { b.2 with state := 3 })
    let log := { r.log with id := f.id, sent := r.log.release, sentMax := r.log.release }
    let flash := { f with items := items, map := map, fence := none, journal := pages, blocks := blocks }.freeBlocks
    let p : PeatSt := { flash := flash, head := stop, log := log, plog := r.plog, submitted := last, lostPf := r.lost + (last - r.lastJ),
                        partnerHeld := c.totals.getD 3 0, skeleton := r.skeleton, openFrom := if stop % pageBytes = 0 then none else some d.now,
                        jopen := { serial := serial }, cpFrom := d.now, relFrom := d.now, prelFrom := d.now, readFence := f.fence, bufFrom := stop,
                        stopped := d.peat.stopped }
    let d := ({ d with peat := p } : Dc).showStore
    let d := if f.fence.isSome then d.set DC.PEAT.STATUS.PFAIL 1 else d.set DC.PEAT.STATUS.FENCE_MISSING 1
    (((d.set DC.PEAT.REPLAY_MS.MS (min ms 65535)).set DC.PEAT.STATUS.READY 1).wearRefresh).peatRefresh

/-- An identity that is not among those drawn before (R302): the first from `x` on. -/
def freshId (ids : List Nat) : Nat → Nat → Nat
  | 0, x => x
  | fuel + 1, x => if ids.contains x then freshId ids fuel ((x + 1) % 2 ^ 32) else x

/-- A log identity, drawn from the die ID and the format counter, which differs at every format (R302). -/
def newLogId (die formats : Nat) (ids : List Nat) : Nat := freshId ids (ids.length + 1) (Config.logIdentity (die * 2 ^ 32 + formats) % 2 ^ 32)

/-- Pages per block in use: native pages, in pseudo-SLC divided by the bits per cell (R299). -/
def Dc.blockPages (d : Dc) (g : FlashGeom) : Nat :=
  if d.fld DC.PEAT.CTRL.PSLC = 1 then g.pagesPerBlock / (d.fld DC.PEAT.PSLC_FEAT.BPC + 1) else g.pagesPerBlock

/-- PEAT_FORMAT is asked for (R317, R321): a status; an accepted one is answered after the erases of all channels end. DESIGN CHOICE (log entry 125). -/
def Dc.peatFormat (d : Dc) (ask : Reply) (word : Nat) : Dc × Nat :=
  if word ≠ 0x50454154 then (d, 3)
  else if d.state ≠ dcHostwait ∨ d.fld DC.PEAT.CTRL.EN = 1 then (d, 6)
  else if d.peat.formatting.isSome then (d, 1)
  else
    match d.peat.flash.geom with
    | none => (d, 6)
    | some g =>
      if g.chanFail then (d, 6)
      else
        let f := d.peat.flash
        let d := (d.setFlash { f with formatted := false, items := [], journal := [], cps := [], map := [], fence := none, half := none }).set DC.PEAT.STATUS.READY 0
        ({ d with peat := { d.peat with formatting := some (ask, List.range 8) } }, 0)

/-- The flash after a format (R300, R302, R311, R315): factory bad blocks are read and every good block is erased once more; root blocks are set aside, and the new log
has its first checkpoint. -/
def Flash.formatted' (f : Flash) (g : FlashGeom) (die per : Nat) : Flash :=
  let kept := (f.blocks.map fun b => (b.1, if b.2.state = 4 then b.2 else { b.2 with state := 0 })).filter fun b => b.2 != {}
  let bs := g.factoryBad.foldl (fun m k => if (FMap.get {} m k).state = 4 then m else FMap.put {} m k { state := 4, erases := (FMap.get {} m k).erases + f.base }) kept
  let id := newLogId die f.formats f.ids
  let n : Flash := { geom := some g, formatted := true, formats := f.formats + 1, id := id, ids := f.ids ++ [id], perBlock := per, blocks := bs, base := f.base + 1 }
  let n := { n with u := usablePages n.good }
  let n := [0, 0, 1, 1].foldl (fun (n : Flash) c =>
    match n.choose c with
    | some k => { n.setBlock k { n.block k with state := 6 } with roots := n.roots ++ [k] }
    | none => n) n
  let cp : PCheck := { log := { id := id }, totals := [0, 0, 0, 0, 0, 0], blocks := n.blocks }
  { n with cps := [cp] }.rootPage

/-- The store is enabled (R299, R314): the LUNs are put into pseudo-SLC mode where it is chosen, pages per block follow it, and every channel allocates a block. -/
def Dc.storeStart (d : Dc) : Dc :=
  match d.peat.flash.geom with
  | none => d
  | some g =>
    let f := d.peat.flash
    let f := { f with perBlock := d.blockPages g,
                      feature := if d.fld DC.PEAT.CTRL.PSLC = 1 then some (d.fld DC.PEAT.PSLC_FEAT.FA, d.fld DC.PEAT.PSLC_FEAT.ON) else f.feature }
    if f.formatted then (d.setFlash f).allocAll else d.setFlash f

/-- The format ends (R317, R321): every position is 0, the next J is 1, the totals are 0. -/
def Dc.formatEnd (d : Dc) (die : Nat) : Dc :=
  match d.peat.flash.geom with
  | none => d
  | some g =>
    let f := d.peat.flash.formatted' g die (d.blockPages g)
    let d := ({ d with peat := { flash := f, log := { id := f.id }, plog := d.peat.plog, cpFrom := d.now, relFrom := d.now, prelFrom := d.now,
                                   stopped := d.peat.stopped } } : Dc).showStore
    let d := ((d.set DC.PEAT.STATUS.READY 1).wearRefresh).peatRefresh
    if d.fld DC.PEAT.CTRL.EN = 1 then d.storeStart else d

/-- The erases of a format end on one channel (R317), which a power failure holds back (R312); at an erase failure the lowest good block of the channel is the one that failed, and it is retired (R315, R333;
log entry 125). At the last channel the format ends, and its answer is due. -/
def Dc.formatErased (d : Dc) (c : Nat) (ok : Bool) (die : Nat) : Dc × Option Reply :=
  match d.peat.formatting with
  | none => (d, none)
  | some (ask, left) =>
    if !left.contains c ∨ d.peat.stopped.isSome then (d, none)
    else
      let d := if ok then d else
        match d.peat.flash.choose c with
        | none => d
        | some k =>
          let f := d.peat.flash
          let d := d.setFlash (f.setBlock k { state := 4, erases := (f.block k).erases + f.base + 1 })
          (d.inc DC.PEAT.ERASE_FAIL.COUNT).log logFlash kindEraseFail (flashUnit k) noPos (flashAddr k 0) 0
      let left := left.filter (· != c)
      if left.isEmpty then (d.formatEnd die, some ask) else ({ d with peat := { d.peat with formatting := some (ask, left) } }, none)

/-- `DC.PEAT.CTRL` is written (R299, R307, R320): a status. DEDUCED (log entry 72). -/
def Dc.storeEn (d : Dc) (v : Word) : Dc × Nat :=
  let en := fieldOf v 0 1
  let on := d.fld DC.PEAT.CTRL.EN
  if fieldOf v 4 6 = 0 ∨ fieldOf v 16 6 = 0 ∨ 60 < fieldOf v 16 6 then (d, 3)
  else if on = 1 ∧ fieldOf v 1 1 ≠ d.fld DC.PEAT.CTRL.PSLC then (d, 3)
  else if on = 1 ∧ en = 0 ∧ (d.fld DC.TRG.CTRL.EN = 1 ∨ d.peat.head ≠ d.peat.log.commit) then (d, 1)
  else if on = 0 ∧ en = 1 ∧ d.fld DC.PEAT.GEOM.CHAN_FAIL = 1 then (d, 6)
  else
    let d := ((((d.set DC.PEAT.CTRL.EN en).set DC.PEAT.CTRL.PSLC (fieldOf v 1 1)).set DC.PEAT.CTRL.DRAIN (fieldOf v 2 1)).set
      DC.PEAT.CTRL.FLUSH (fieldOf v 4 6)).set DC.PEAT.CTRL.CP_MIN (fieldOf v 16 6)
    (if en = 1 ∧ on = 0 then d.storeStart else d, 0)

/-- Which log an identity names: 0 own, 1 the partner's, none unknown (R317). -/
def Dc.logNamed (d : Dc) (id : Nat) : Option Nat :=
  if d.peat.flash.formatted ∧ d.fld DC.PEAT.STATUS.READY = 1 ∧ id = d.peat.flash.id then some 0
  else if d.peat.plog.id ≠ 0 ∧ id = d.peat.plog.id then some 1
  else none

/-- The refusals that the position commands share (R317): the log, or a status. -/
def Dc.logFor (d : Dc) (id : Nat) : Nat × Nat :=
  if !d.active then (0, 7)
  else
    match d.logNamed id with
    | none => (0, 3)
    | some 0 => (0, 0)
    | some k => if d.pstate = psSync then (k, 0) else (k, 1)

/-- Positions of a log, and setting them. -/
def Dc.posOf (d : Dc) (k : Nat) : PeatPos := if k = 0 then d.peat.log else d.peat.plog
def Dc.setPos (d : Dc) (k : Nat) (x : PeatPos) : Dc := if k = 0 then { d with peat := { d.peat with log := x } } else { d with peat := { d.peat with plog := x } }

/-- The reply of a position command (R317). -/
def PeatPos.payload (x : PeatPos) : List Nat := bytesBE 8 x.commit ++ bytesBE 8 x.sent ++ bytesBE 8 x.release ++ bytesBE 8 x.limit

/-- PEAT_CREDIT (R317, R468): a status, and the log named. -/
def Dc.peatCredit (d : Dc) (id limit : Nat) : Dc × Nat × Nat :=
  let k := d.logFor id
  if k.2 ≠ 0 then (d, k.2, k.1)
  else
    let x := d.posOf k.1
    if limit ≤ x.limit then (d, 0, k.1) else ((d.setPos k.1 { x with limit := limit }).journal (entryCredit id limit), 0, k.1)

/-- RELEASE of the own log moves (R314, R318). -/
def Dc.release (d : Dc) (pos : Nat) : Dc :=
  let p := d.peat
  let gone := p.flash.items.filter fun x => decide (x.stop ≤ pos)
  let old := p.log.release / pageBytes
  let log := { p.log with release := pos, released := p.log.released + (gone.filter fun x => x.j != 0).length }
  let f : Flash := { p.flash with items := p.flash.items.filter fun x => decide (pos < x.stop) }
  let d : Dc := { d with peat := { p with flash := f, log := log, relFrom := d.now } }
  let d := (List.range (pos / pageBytes - old)).foldl (fun (d : Dc) (i : Nat) =>
    let l := (old + i) % d.peat.flash.u
    let e := FMap.get 0 d.peat.flash.map l
    let d := d.setFlash { d.peat.flash with poison := FMap.put 0 d.peat.flash.poison (old + i) 0 }
    if mapState e = 1 then d.request 4 (.mapEntry l (e + 2 ^ 62)) else d) d
  ((d.setFlash d.peat.flash.freeBlocks).journal (entryRelease pos log.released)).peatRefresh

/-- The active unit sees the partner's log once the partner is in sync (R319): what it has committed, and all of a log that no copy has brought. DEDUCED (log entry 126). -/
def Dc.seePartner (d : Dc) (x : Option PeatPos) : Dc :=
  match x with
  | none => d
  | some x =>
    if !d.active ∨ d.pstate ≠ psSync then d
    else
      let own := d.peat.plog
      let now := if own.id = x.id then { own with commit := max own.commit x.commit, committed := max own.committed x.committed, limit := max own.limit x.limit } else x
      { d with peat := { d.peat with plog := now, partnerHeld := now.committed - now.released } }

/-- PEAT_ACK (R317, R318): a status, and the log named. `items` are the items of the partner's log. -/
def Dc.peatAck (d : Dc) (id pos : Nat) (items : List PItem) : Dc × Nat × Nat :=
  let k := d.logFor id
  if k.2 ≠ 0 then (d, k.2, k.1)
  else
    let x := d.posOf k.1
    if x.sent < pos then (d, 3, k.1)
    else if pos ≤ x.release then (d, 0, k.1)
    else if k.1 = 0 then (d.release pos, 0, 0)
    else
      let n := (items.filter fun y => y.j != 0 && decide (x.release < y.stop ∧ y.stop ≤ pos)).length
      let d := d.setPos 1 { x with release := pos, released := x.released + n }
      ({ d with peat := { d.peat with partnerHeld := d.peat.partnerHeld - n, prelFrom := d.now } }, 0, 1)

/-- PEAT_REWIND (R317): a status, and the log named. -/
def Dc.peatRewind (d : Dc) (id pos : Nat) : Dc × Nat × Nat :=
  let k := d.logFor id
  if k.2 ≠ 0 then (d, k.2, k.1)
  else
    let x := d.posOf k.1
    if pos < x.release ∨ x.sent < pos then (d, 3, k.1)
    else
      let d := d.setPos k.1 { x with sent := pos }
      (if k.1 = 0 then { d with peat := { d.peat with rewound := true } } else { d with peat := { d.peat with prewound := true } }, 0, k.1)

/-- PEAT_CHECKPOINT (R317): a status. -/
def Dc.peatCheckpoint (d : Dc) : Dc × Nat :=
  if d.peat.cpRun.isSome then (d, 1) else (d.checkpoint, 0)

/-- PEAT_FENCE (R317): a status, and the reply. -/
def Dc.peatFence (d : Dc) (i : Nat) : Nat × List Nat :=
  match d.peat.readFence with
  | none => (3, [])
  | some f => if f.idents.length ≤ i then (3, []) else (0, bytesBE 8 (f.idents.getD i 0).toNat ++ bytesBE 4 f.idents.length)

/-- The words of an item as the drain sends it: a POISON item keeps its place, and a pad item fills the rest of it (R302, R316; log entry 66). -/
def Dc.sentWords (d : Dc) (x : PItem) : List Rec :=
  if x.poison then
    let rest := x.words.length - 2
    let a := peatWord 0x50 0 (rb (x.words.getD 0 0) 54 1) 1 0 1 (d.foldHardware 2 x.off [x.ident]).2
    let zs := List.replicate (rest - 1) (0 : Rec)
    [a, x.ident] ++ (if rest = 0 then [] else peatWord 0x5F 0 0 0 0 zs.length (d.foldHardware 2 (x.off + 16) zs).2 :: zs)
  else x.words

/-- Log bytes in [lo, hi). -/
def Dc.logBytes (d : Dc) (items : List PItem) (lo hi : Nat) : List Nat :=
  items.flatMap fun x =>
    if x.stop ≤ lo ∨ hi ≤ x.off then []
    else (((d.sentWords x).flatMap recBytes).take (hi - x.off)).drop (lo - x.off)

/-- The port on which the bytes of a logical page leave: its number modulo 2 when both ports are up, otherwise the one that is up (R316). -/
def Dc.drainPort (d : Dc) (l : Nat) : Nat := if d.abs.up = 3 then l % 2 else if d.abs.up = 1 then 0 else 1

/-- Send the next datagram of log `k` from its items (R316); `u`: the pages of its store. It carries bytes of one logical page (log entry 67). One whose transmit buffer is
poisoned is not sent, and the drain goes on from its first byte (R334). -/
def Dc.sendDatagram (d : Dc) (k u : Nat) (items : List PItem) : Dc :=
  let x := d.posOf k
  let hi := min (min x.commit x.limit) (min (x.sent + d.fld DC.PEAT.DRAIN_CFG.DGRAM) ((x.sent / pageBytes + 1) * pageBytes))
  if hi ≤ x.sent then d
  else
    match d.transmitPoison with
    | some w => d.bufferBite w
    | none =>
      let rew := if k = 0 then d.peat.rewound else d.peat.prewound
      let head := bytesBE 2 0x7E47 ++ [1, k + 2 * rew.toNat] ++ bytesBE 2 d.epoch ++ bytesBE 2 (hi - x.sent) ++ bytesBE 4 x.id ++ bytesBE 4 0 ++ bytesBE 8 x.sent ++ bytesBE 8 x.limit
      let bad := items.filter fun y => y.poison && decide (x.sent ≤ y.off ∧ y.off < hi)
      let d := d.emit (.datagram (d.drainPort (x.sent / pageBytes % u)) (d.fld DC.ABS.SVC_IP.ADDR) (d.fld DC.PEAT.DRAIN_UDP.SRC) (d.fld DC.PEAT.DRAIN_IP.ADDR)
        (d.fld DC.PEAT.DRAIN_UDP.DST) (head ++ d.logBytes items x.sent hi))
      let d := d.add DC.PEAT.POISON_REC.COUNT bad.length
      let d := d.setPos k { x with sent := hi, sentMax := max x.sentMax hi }
      let first := decide (x.sent ≤ x.release)
      let d : Dc := if first ∧ k = 0 then { d with peat := { d.peat with relFrom := d.now } }
        else if first then { d with peat := { d.peat with prelFrom := d.now } } else d
      if k = 0 then { d with peat := { d.peat with rewound := false } } else { d with peat := { d.peat with prewound := false } }

/-- The page, counted from offset 0, whose bytes the drain of a log sends next (R316, R319, R320): enabled, a port up, the unit active, the partner's log only in sync, and
the drain not stopped before an unreadable page. -/
def Dc.drainPage (d : Dc) (partner : Bool) : Option Nat :=
  let x := d.posOf (if partner then 1 else 0)
  let stopped := if partner then d.peat.pbad else d.peat.bad
  if d.active ∧ d.fld DC.PEAT.CTRL.DRAIN = 1 ∧ d.fld DC.PEAT.STATUS.READY = 1 ∧ d.abs.up ≠ 0 ∧ stopped.isNone ∧ (!partner ∨ d.pstate = psSync) ∧ x.sent < min x.commit x.limit then
    some (x.sent / pageBytes)
  else none

/-- Whether a page is still held in the commit buffer (R304, R316, R321). -/
def PeatSt.buffered (p : PeatSt) (page : Nat) : Bool := decide (p.bufFrom ≤ page * pageBytes ∧ p.head ≤ page * pageBytes + commitBuffer)

/-- Whether a record that is not sent as a POISON item has a byte in a codeword's lines. -/
def PeatSt.needs (p : PeatSt) (page w : Nat) : Bool :=
  let lo := page * pageBytes + codewordData * w
  p.flash.items.any fun x => x.j != 0 && !x.poison && decide (x.off < lo + codewordData ∧ lo < x.stop)

/-- A page of the own log is read for the drain (R316, R327, R332, R334): from the commit buffer, where records with a byte in a poisoned line become POISON items, or
through its map entry from flash with these wrong bits; whether it can be read. -/
def Dc.pageRead (d : Dc) (page : Nat) (wrong : List Nat) : Dc × Bool :=
  if d.peat.buffered page then
    let x := d.pageLines page
    (x.1.poisonLines page x.2, true)
  else
    let l := page % d.peat.flash.u
    let at' := d.mapLine l
    let cw := 2 * at'.2 + l % 8 / 4
    let x := d.dramRead at'.1 cw
    if x.2 then (x.1.bite logDram at'.1 (32 * cw), false)
    else
      let e := FMap.get 0 d.peat.flash.map l
      let y := x.1.flashRead (mapBlock e) (bits e 28 12) wrong
      (y.1, !(y.2.any fun w => d.peat.needs page w))

/-- The drain takes its next step on a log whose page could, or could not, be read (R316, R319); `u` and `items` are those of the log's store. -/
def Dc.drain (d : Dc) (partner readable : Bool) (u : Nat) (items : List PItem) : Dc :=
  match d.drainPage partner with
  | none => d
  | some page =>
    if readable then d.sendDatagram (if partner then 1 else 0) u items
    else
      ({ d with peat := if partner then { d.peat with pbad := some page } else { d.peat with bad := some page } } : Dc).set DC.PEAT.STATUS.MAP_POISON 1

/-- The firmware rebuilds the map entry of a page of the own log (R316): its codeword is written whole, and the page is read again; records with a byte in a codeword that
still fails are sent as POISON items (R332). -/
def Dc.rebuildPage (d : Dc) (page : Nat) (wrong : List Nat) : Dc :=
  let l := page % d.peat.flash.u
  let at' := d.mapLine l
  let d := d.codewordClean at'.1 (2 * at'.2 + l % 8 / 4)
  let e := FMap.get 0 d.peat.flash.map l
  let y := d.flashRead (mapBlock e) (bits e 28 12) wrong
  y.1.poisonLines page (y.2.flatMap fun w => (List.range 16).map (16 * w + ·))

/-- Tick at which RELEASE of a log has stood still for ACK_WAIT frames, where it has to move (R318). -/
def Dc.ackDue (d : Dc) (k : Nat) : Option Nat :=
  let x := d.posOf k
  let n := d.fld DC.PEAT.DRAIN_CFG.ACK_WAIT
  if n = 0 ∨ x.sent ≤ x.release ∨ (k = 1 ∧ d.pstate ≠ psSync) then none
  else some ((if k = 0 then d.peat.relFrom else d.peat.prelFrom) + n * frameTicks)

/-- A log is sent again from RELEASE (R318). -/
def Dc.resend (d : Dc) (k due : Nat) : Dc :=
  let d := d.until due
  let d := d.setPos k { d.posOf k with sent := (d.posOf k).release }
  if k = 0 then { d with peat := { d.peat with rewound := true, relFrom := d.now } } else { d with peat := { d.peat with prewound := true, prelFrom := d.now } }

/-- RELEASE has not moved for ACK_WAIT frames (R318): of the own log or of the partner's that this unit drains, the one whose wait ends first. -/
def Dc.ackWait (d : Dc) : Dc :=
  match d.ackDue 0, d.ackDue 1 with
  | none, none => d
  | some a, none => d.resend 0 a
  | none, some b => d.resend 1 b
  | some a, some b => if a ≤ b then d.resend 0 a else d.resend 1 b

/-- What the correction log says of a block (R315): a program or erase failure, and a warning. -/
def Dc.blockLogged (d : Dc) (key : Nat) (kinds : List Nat) : Bool :=
  d.mem.log.any fun x =>
    match x.2 with
    | some e => e.source == logFlash && kinds.contains e.kind && e.unit == flashUnit key && e.addr / 2 ^ 24 == key % 2 ^ 14
    | none => false

/-- A block is retired (R315). -/
def Dc.retireBlock (d : Dc) (key : Nat) : Dc :=
  let f := d.peat.flash
  let b := f.block key
  let n := b.erases + f.base
  let f := { f.setBlock key { state := 4, erases := n } with jopen := f.jopen.filter fun x => x.2.map (·.1) != some key }
  ((((d.setFlash f).journal (entryBlock 2 key n)).allocBlock (key / 2 ^ 20)).wearRefresh).peatRefresh

/-- The firmware takes its next step on a block named in the correction log (R315): after a failure it retires the block at once; after a warning it copies one unreleased
page after the other, one block at a time, with `RELOCATING` at 1, and then retires the block. -/
def Dc.relocate (d : Dc) (key : Nat) : Dc :=
  let b := d.peat.flash.block key
  let c := key / 2 ^ 20
  if !d.peat.flash.formatted ∨ b.state = 4 ∨ b.state = 1 ∨ d.peat.stopped.isSome then d
  else if d.blockLogged key [kindProgFail, kindEraseFail] then
    let d : Dc := if (FMap.get none d.peat.open' c).map (·.1) = some key then { d with peat := { d.peat with open' := FMap.put none d.peat.open' c none } } else d
    d.retireBlock key
  else if d.blockLogged key [kindFlashWarn] ∧ (d.peat.reloc.isNone ∨ d.peat.reloc = some key) then
    let d : Dc := if (FMap.get none d.peat.open' c).map (·.1) = some key then
      (({ d with peat := { d.peat with open' := FMap.put none d.peat.open' c none } } : Dc).setFlash (d.peat.flash.setBlock key { b with state := 3 })).allocBlock c else d
    match (d.peat.flash.map.filter fun x => mapState x.2 == 1 && mapBlock x.2 == key).map (·.1) with
    | [] =>
      let d := d.retireBlock key
      ({ d with peat := { d.peat with reloc := none } } : Dc).set DC.PEAT.STATUS.RELOCATING 0
    | l :: _ => (({ d with peat := { d.peat with reloc := some key } } : Dc).set DC.PEAT.STATUS.RELOCATING 1).bindPage l
  else d

end Sys2Proof.Machine
end

