-- ==== Sys2Proof/Machine/DcLedger.lean ====
section
/-! DEFINITION. The ledger of a DC64 (R454 to R472): LEDGER records, settlement, resets of a DF640, the comparison of R459,
snapshots. -/
namespace Sys2Proof.Machine

/-- `PSTAT.STALE` as it reads: only while the port is in RUN (R22, R460). -/
def Dc.stalePort (d : Dc) (n : Nat) : Bool := d.portRun n && d.fld (DC.LDG.PSTAT.STALE n) == 1

/-- Note whether no LEDGER record has arrived for LEDGER_WAIT frames (R460). -/
def Dc.setStale (d : Dc) (n v : Nat) : Dc := if d.fld (DC.LDG.PSTAT.STALE n) = v then d else d.set (DC.LDG.PSTAT.STALE n) v

/-- `STALE_ANY`: the OR of all (R460, R471). -/
def Dc.staleAny (d : Dc) : Bool := (List.range 64).any d.stalePort

/-- The full frame of a LEDGER record: it matches the low 8 bits and lies within the 256 frames before the current one (R457). -/
def ledgerFrame (now low : Nat) : Nat :=
  let off := (now + 256 - low % 256) % 256
  now - (if off = 0 then 256 else off)

/-- A reset of DF640 `n` (R460): frames up to `upTo` that are not settled count as UNSETTLED, and totals of 0 are the baseline at it;
the copy of GATE takes its reset value (R222). Before the port's first settlement there is no baseline to replace (R472, log 86). DEDUCED (log entry 86). -/
def Dc.ledgerReset (d : Dc) (n upTo : Nat) : Dc :=
  let p := d.lport n
  let left := match p.settled with | some f => upTo - f | none => 0
  let d := ((d.inc (DC.LDG.PSTAT.RESETS n)).add (DC.LDG.UNSETTLED.COUNT n) left).noteGate n (upTo + 1) 7
  d.setLport n { p with settled := p.settled.map fun f => max f upTo, totals := [], recs := [], recvd := p.recvd.filter fun x => decide (upTo < x.1) }

/-- A FRAME mark of frame `f` with flag bit 3 set (R124, R460): the same mark on the other lane position is the same reset. -/
def Dc.resetMark (d : Dc) (n f : Nat) : Dc :=
  if (d.lport n).resetMark = some f then d
  else
    let d := d.ledgerReset n (f - 1)
    d.setLport n { d.lport n with resetMark := some f }

/-- The ledger takes an accepted block (R457, R459, R460). -/
def Dc.ldgTap (d : Dc) (n j : Nat) (ws : List Rec) (arr : Nat) : Dc :=
  let now := arr / 1024 / frameTicks
  let closed := headerFrame arr (rb (ws.getD 0 0) 8 24)
  let p := d.lport n
  let d := d.setLport n { p with header := FMap.put 0 p.header j (max (FMap.get 0 p.header j) (closed + 1)) }
  (readPayload 1 (payloadOf ws)).foldl (fun (d : Dc) x =>
    let w := x.2.1
    if kindOf w = 4 ∧ subOf w ≤ 5 then
      let f := ledgerFrame now (rb w 48 8)
      let p := d.lport n
      (d.setLport n { p with recs := FMap.put none p.recs (subOf w) (some (f, rb w 0 48)), lastRec := d.frame, lastFrame := max p.lastFrame f }).setStale n 0
    else if kindOf w = 3 ∧ subOf w = 0 ∧ w.toNat.testBit 3 then d.resetMark n (rb w 8 48)
    else if kindOf w = 5 ∧ subOf w = 0 ∧ rb w 54 2 = 3 then
      let p := d.lport n
      d.setLport n { p with span := some (now, d.acct n 9, d.acct n 7), restarted := false, lastFrame := 0 }
    else d) d

/-- The frame whose six LEDGER records a port holds, if it holds all of them for one frame (R457). -/
def LdgPort.ready (p : LdgPort) : Option Nat :=
  match FMap.get none p.recs 0 with
  | none => none
  | some (f, _) => if (List.range 6).all fun a => (match FMap.get none p.recs a with | some r => r.1 == f | none => false) then some f else none

/-- The total of an account in the records held. -/
def LdgPort.total (p : LdgPort) (a : Nat) : Nat := match FMap.get none p.recs a with | some r => r.2 | none => 0

/-- The increase of an account since the last settlement, modulo 2⁴⁸ (R458). -/
def LdgPort.delta (p : LdgPort) (a : Nat) : Nat := (p.total a + 2 ^ 48 - FMap.get 0 p.totals a % 2 ^ 48) % 2 ^ 48

/-- The totals held become those of the last settled frame. -/
def LdgPort.close (p : LdgPort) (f : Nat) : LdgPort :=
  { p with settled := some f, totals := (List.range 6).foldl (fun m a => FMap.put 0 m a (p.total a)) p.totals,
           recvd := p.recvd.filter fun x => decide (f < x.1) }

/-- The comparison of TR_HITS with LOST at the end of a span of RUN (R459). The span has ended with the last frame a LEDGER record
described, once the lane positions in RUN have delivered headers three frames further (log entry 49). -/
def Dc.crossCheck (d : Dc) (n : Nat) : Dc :=
  let p := d.lport n
  match p.span, p.settled with
  | some s, some f =>
    let ended := [0, 1].all fun j => !d.rxRun n j || decide (p.lastFrame + 4 ≤ FMap.get 0 p.header j)
    if p.lastFrame = 0 ∨ f < p.lastFrame ∨ !ended ∨ !d.portRun n then d
    else
      let d := d.setLport n { p with span := none, restarted := false }
      if p.restarted then d.inc (DC.LDG.XCHECK_SKIP.COUNT n)
      else if d.acct n 9 - s.2.1 = d.acct n 7 - s.2.2 then d
      else d.ledgerFault n
  | _, _ => d

/-- Settle frames up to `f` (R458). -/
def Dc.settleFrames (d : Dc) (n f : Nat) : Dc :=
  let p := d.lport n
  let got := total ((p.recvd.filter fun x => decide (x.1 ≤ f)).map (·.2))
  let d := (List.range 6).foldl (fun (d : Dc) (a : Nat) => d.addAcct n a (p.delta a)) d
  let d := if p.delta 0 = total ([1, 2, 3, 4, 5].map p.delta) then d else d.ledgerFault n
  let d := d.addAcct n 6 got
  let d := if got ≤ p.delta 1 then d.addAcct n 7 (p.delta 1 - got) else d.ledgerFault n
  d.setLport n (p.close f)

/-- Settlement of a port at tick 32,768 of the frame after the one settled (R457, R458, R460, R472). DEDUCED (log entry 55). -/
def Dc.settle (d : Dc) (n : Nat) : Dc :=
  let p := d.lport n
  match p.ready with
  | none => d
  | some f =>
    match p.settled with
    | none =>
      let d := d.until ((f + 1) * frameTicks + 32768)
      d.setLport n (p.close f)
    | some f0 =>
      if f ≤ f0 then d
      else
        let d := d.until ((f + 1) * frameTicks + 32768)
        let d := if 2 ^ 47 < p.delta 0 then
            let recs := p.recs
            let d := d.ledgerReset n (f - 1)
            d.setLport n { d.lport n with recs := recs }
          else d
        (d.settleFrames n f).crossCheck n

/-- No LEDGER record has arrived for LEDGER_WAIT frames while the port is in RUN (R460). -/
def Dc.ledgerStale (d : Dc) (n : Nat) : Dc :=
  if !d.portRun n then d
  else (d.until (((d.lport n).lastRec + d.fld DC.LDG.CTRL.LEDGER_WAIT) * frameTicks)).setStale n 1

/-- A total as it stands (R471). -/
def Dc.liveTot (d : Dc) (k : Nat) : Nat :=
  if k = 9 then d.peat.submitted
  else if k = 10 then d.peat.log.committed
  else if k = 11 then d.peat.lostPf
  else if k = 12 then d.peat.submitted - d.peat.log.committed - d.peat.lostPf
  else if k = 13 then d.peat.log.sentMax
  else if k = 14 then d.peat.plog.sentMax
  else d.tot k

/-- The snapshot at the boundary that begins a frame (R470). -/
def Dc.snapshot (d : Dc) (frame : Nat) : Dc :=
  if d.ldg.snap then
    let d : Dc := { d with ldg := { d.ldg with snap := false } }
    let d := ((d.set DC.LDG.STATUS.SNAP_VALID 1).set DC.LDG.SNAP_FRAME_LO.FRAME frame).set DC.LDG.SNAP_FRAME_HI.FRAME (frame / 2 ^ 32)
    let d := (List.range 15).foldl (fun (d : Dc) (k : Nat) =>
      let v := d.liveTot k % 2 ^ totWidth k
      (d.setWord (DC.LDG.TOT_LO.addr k) (BitVec.ofNat 32 v)).setWord (DC.LDG.TOT_HI.addr k) (BitVec.ofNat 32 (v / 2 ^ 32))) d
    (List.range 64).foldl (fun (d : Dc) (n : Nat) =>
      let d := (List.range 10).foldl (fun (d : Dc) (a : Nat) =>
        (d.setWord (DC.LDG.ACCT_LO.addr n a) (BitVec.ofNat 32 (d.acct n a))).setWord (DC.LDG.ACCT_HI.addr n a) (BitVec.ofNat 32 (d.acct n a / 2 ^ 32))) d
      d.setWord (DC.LDG.SETTLED.addr n) (BitVec.ofNat 32 ((d.lport n).settled.getD 0))) d
  else d

end Sys2Proof.Machine
end

