-- ==== Sys2Proof/Machine/DfBus.lean ====
section
/-! DEFINITION. Register reads and writes of the DF640 (R12 to R18, R41, R47, R48, R473 to R484): mapping, refusals,
computed fields, latches, clearing reads and what a write starts. -/
namespace Sys2Proof.Machine

/-- Status codes of R18 and R409. -/
def stOk : Nat := 0
def stBusy : Nat := 1
def stBadOpcode : Nat := 2
def stBadParam : Nat := 3
def stAuth : Nat := 4
def stStaleSeq : Nat := 5
def stLocked : Nat := 6
def stNotActive : Nat := 7
def stWindow : Nat := 8
def stPoison : Nat := 9
def stTimeout : Nat := 10
def stShadowFull : Nat := 0x10
def stNoLock : Nat := 0x11
def stState : Nat := 0x12
def stLinkDown : Nat := 0x13

/-- The blocks of the DF640 word space: base and size (R473). -/
def dfBlocks : List (Nat × Nat) :=
  [(0x0000, 0x40), (0x0040, 0x10), (0x0050, 0x10), (0x0060, 0x10), (0x0070, 0x10), (0x0080, 0x40), (0x00C0, 0x40), (0x0100, 0x100),
    (0x0200, 0x100), (0x0400, 0x200), (0x0800, 0x800), (0x1000, 0x1000), (0x2000, 0x2000)]

/-- Whether a range of addresses lies whole in one block (R475, R476). -/
def dfMapped (a n : Nat) : Bool := dfBlocks.any fun b => decide (b.1 ≤ a ∧ a + n ≤ b.1 + b.2)

/-- Whether some channel's sticky bit is set. -/
def Df.anyChan (d : Df) (f : Nat → Fd) (n : Nat) : Bool := (List.range n).any fun i => d.fld (f i) == 1

/-- Whether a channel that is not OFF exists in a list and all such are ready by a test (R91, R99). -/
def Df.allOn (d : Df) (l : List Nat) (ok : Nat → Bool) : Bool :=
  let on := l.filter fun ch => decide (d.mode ch ≠ modeOff)
  !on.isEmpty && on.all ok

/-- The condition bits of `DF.ID.SUMMARY` (R480, R483). -/
def Df.summary (d : Df) : Word :=
  let b (i : Nat) (x : Bool) : Nat := x.toNat * 2 ^ i
  BitVec.ofNat 32 (
    b 0 (d.fld DF.BOOT.STATE.FUSE_ERR == 1 || d.fld DF.BOOT.STATE.WAS_SAFE == 1)
    + b 1 (d.anyChan DF.AFE.CH.CLAMP 640 || d.anyChan DF.AFE.CH.BLC_LIM 640)
    + b 2 (d.anyChan DF.REED.CH.CALDEAD 632 || d.fld DF.REED.LOOP.LIMIT == 1 || d.anyChan DF.REED.ANCHOR.UNLOCK 8)
    + b 3 (d.fld DF.HIT.STATUS.RESYNC_PEND == 1)
    + b 4 (d.fld DF.LINK.TEST.SYNC_LOST != 0)
    + b 5 (d.fld DF.TIME.STATUS.SWITCHED == 1 || d.fld DF.TIME.STATUS.STEP_BIG == 1 || d.fld DF.TIME.STATUS.SLIP == 1)
    + b 6 (d.fld DF.HK.STATUS.CAL_FAIL == 1 || d.fld DF.HK.PORTS.OPEN != 0 || d.fld DF.HK.PORTS.CLAMP != 0)
    + b 7 (d.anyChan DF.BIAS.TRIM.UNCOMP 40 || d.anyChan DF.BIAS.TRIM.LIM 40)
    + b 8 ([0, 1].any fun m => d.fld (DF.HK.MON_CFG.FAULT m) == 1 && d.fld (DF.HK.MON_CFG.EN m) == 1)
    + b 9 (d.fld DF.CMD.LOCK.HELD == 1))

/-- The word a register shows: stored, with the fields that hardware computes (R65, R99, R131, R396, R397, R426, R480). While no position is up
`CTRL_POS` shows the one that served last, 0 before any. DESIGN CHOICE (log entry 99). -/
def Df.shown (d : Df) (a : Nat) : Word :=
  let w := d.word a
  let f (w : Word) (x : Fd) (b : Bool) : Word := withField w x.lo x.width b.toNat
  if a = DF.AFE.STATUS.addr then
    f (f (f w DF.AFE.STATUS.PEND d.pend) DF.AFE.STATUS.CLAMP_ANY (d.anyChan DF.AFE.CH.CLAMP 640)) DF.AFE.STATUS.BLC_ANY (d.anyChan DF.AFE.CH.BLC_LIM 640)
  else if a = DF.REED.STATUS.addr then
    f (f (f w DF.REED.STATUS.ALL_READY (d.allOn (List.range 640) fun ch => (d.chan ch).ready))
      DF.REED.STATUS.CALDEAD_ANY (d.anyChan DF.REED.CH.CALDEAD 632))
      DF.REED.STATUS.ANCHOR_READY (d.allOn ((List.range 8).map (632 + ·)) fun ch => d.fld (DF.REED.ANCHOR.LOCKED (ch - 632)) == 1)
  else if a = DF.HIT.STATUS.addr then
    let w := f (f w DF.HIT.STATUS.POS0_UP (d.posUp 0)) DF.HIT.STATUS.POS1_UP (d.posUp 1)
    let w := withField w DF.HIT.STATUS.CTRL_POS.lo DF.HIT.STATUS.CTRL_POS.width ((d.ctrlPos.orElse fun _ => d.hit.lastCtrl).getD 0)
    withField w DF.HIT.STATUS.CQ_FILL.lo DF.HIT.STATUS.CQ_FILL.width d.cqFill
  else if a = DF.TUS.STATE_LO.addr then BitVec.ofNat 32 d.tus.state
  else if a = DF.TUS.STATE_HI.addr then BitVec.ofNat 32 (d.tus.state / 2 ^ 32)
  else if a = DF.CMD.LOCK.addr then withField w DF.CMD.LOCK.SHADOW.lo DF.CMD.LOCK.SHADOW.width d.cmd.shadow.length
  else if a = DF.ID.SUMMARY.addr then d.summary
  else if a = DF.BIAS.STATUS.addr then
    f (f w DF.BIAS.STATUS.UNCOMP_ANY (d.anyChan DF.BIAS.TRIM.UNCOMP 40)) DF.BIAS.STATUS.LIM_ANY (d.anyChan DF.BIAS.TRIM.LIM 40)
  else if a = DF.HK.STATUS.addr then
    let busy := d.fld DF.HK.STATUS.CAL_BUSY == 0 && (!d.hk.queue.isEmpty || (d.fld DF.HK.CTRL.EN == 1 && d.nextEnabled.isSome))
    withField (f w DF.HK.STATUS.RUNNING busy) DF.HK.STATUS.INJ_PEND.lo DF.HK.STATUS.INJ_PEND.width d.hk.queue.length
  else if a = DF.HIT.CQ_PEAK.addr then withField w DF.HIT.CQ_PEAK.PEAK.lo DF.HIT.CQ_PEAK.PEAK.width (max (d.fld DF.HIT.CQ_PEAK.PEAK) d.cqFill)
  else w

/-- Reset value of a latch: a requester that has not read the `_LO` register reads 0 (R477). -/
def latchKey (owner a : Nat) : Nat := 65536 * owner + a

/-- The `_HI` registers that a read of a `_LO` register latches (R131, R477, R480). -/
def dfLatched (a : Nat) : Option Nat :=
  if a = DF.ID.DIE_LO.addr then some DF.ID.DIE_HI.addr
  else if a = DF.TUS.STATE_LO.addr then some DF.TUS.STATE_HI.addr
  else if (List.range 6).any fun i => a == DF.HIT.ACCT_LO.addr i then some (a + 1)
  else none

/-- Whether a register reads as its requester's latch (R477). -/
def dfIsLatched (a : Nat) : Bool :=
  a == DF.ID.DIE_HI.addr || a == DF.TUS.STATE_HI.addr || (List.range 6).any fun i => a == DF.HIT.ACCT_HI.addr i

/-- Read one register for an owner: the value, and the state after a latch is taken and RC fields clear (R14, R16, R17, R477); `CQ_PEAK` goes on
from the fill that stands at the read (R131).
`hostRead` is false for a read by a hardware agent, which clears nothing. -/
def Df.readReg (d : Df) (owner a : Nat) (hostRead : Bool) : Df × Word :=
  match findReg dfTable a with
  | none => (d, 0)
  | some r =>
    let v := if dfIsLatched a then FMap.get 0 d.latch (latchKey owner a) else r.readable (d.shown a)
    let d := match dfLatched a with
      | some h => { d with latch := d.latch.put 0 (latchKey owner h) (d.shown h) }
      | none => d
    let d := if hostRead then d.setWord a (r.cleared (d.word a)) else d
    let d := if hostRead ∧ a = DF.HIT.CQ_PEAK.addr then d.set DF.HIT.CQ_PEAK.PEAK d.cqFill else d
    (d, v)

/-- A read of consecutive registers, one after another in ascending order (R476). -/
def Df.readRegs (d : Df) (owner : Nat) : Nat → Nat → Df × List Word
  | _, 0 => (d, [])
  | a, n + 1 =>
    let x := d.readReg owner a true
    let y := Df.readRegs x.1 owner (a + 1) n
    (y.1, x.2 :: y.2)

/-- The index of the array element at an address, where the address is one of an array's. -/
def elemOf (base : Nat) (n stride : Nat) (a : Nat) : Option Nat :=
  if base ≤ a ∧ a < base + n * stride ∧ (a - base) % stride = 0 then some ((a - base) / stride) else none

/-- A written DROOP_CFG that is refused: L1 not above L2, L2 below a floor in mV, or HOLD 0 (R451, R452). -/
def droopBad (v : Word) (floor : Nat) : Bool :=
  decide (fieldOf v 0 10 ≤ fieldOf v 10 10) || decide (fieldOf v 10 10 < floor) || fieldOf v 20 8 == 0

/-- The status with which a write is refused, or 0 (R14, R52, R57, R115, R163, R170, R376 to R397, R439, R443). DEDUCED (log entry 30). A value
that the field refuses answers BAD_PARAM before an armed slot answers BUSY. DESIGN CHOICE (log entry 100). -/
def Df.writeStatus (d : Df) (a : Nat) (v : Word) : Nat :=
  match findReg dfTable a with
  | none => 0
  | some r =>
    if r.refuses v then stBadParam
    else if (elemOf (DF.AFE.INJ_A.addr 0) 8 1 a).any fun i => d.slotArmed (i / 2) then stBusy
    else if (elemOf (DF.TUS.MEMBER.addr 0) 640 1 a).isSome ∧ fieldOf v 6 1 = 1 ∧ fieldOf v 14 1 = 1 ∧ fieldOf v 0 6 = fieldOf v 8 6 then stBadParam
    else if a = DF.LINK.SLEEP.addr ∧ laneLimit (d.posRung ((d.ctrlPos).getD 0)) < fieldOf v 1 10 then stBadParam
    else if a = DF.LINK.TEST.addr ∧ fieldOf v 6 2 = 1 ∧ fieldOf v 0 4 ∉ [0, 1, 2, 4, 8] then stBadParam
    else if (elemOf (DF.TIME.ADJ.addr 0) 2 1 a).any (fun h => d.state == dfRun &&
        (fieldOf v 0 16 != d.fld (DF.TIME.ADJ.COARSE h) ||
          decide (32 < max (fieldOf v 16 10) (d.fld (DF.TIME.ADJ.PHASE h)) - min (fieldOf v 16 10) (d.fld (DF.TIME.ADJ.PHASE h))))) then stBadParam
    else if a = DF.BOOT.CTRL.addr ∧ fieldOf v 0 1 = 1 ∧ ¬(d.state = dfConfig ∧ d.bt.taken) then stState
    else if a = DF.BOOT.RESET.addr ∧ v ≠ 0xB007 then stBadParam
    else if a = DF.BOOT.DROOP_CFG.addr ∧ droopBad v 720 then stBadParam
    else if (elemOf (DF.HK.ENTRY_A.addr 0) 32 1 a).isSome ∧ entryABad v (d.fld DF.HK.CTRL.LP == 1) then stBadParam
    else if a = DF.HK.CTRL.addr ∧ fieldOf v 1 1 = 1 ∧ (List.range 32).any (fun e => d.entryOn e && decide (6 < d.fld (DF.HK.ENTRY_A.RATE e))) then stBadParam
    else if (elemOf (DF.HK.MON_SCALE.addr 0) 2 1 a).isSome ∧ fieldOf v 0 16 = fieldOf v 16 16 then stBadParam
    else 0

/-- A CLAMP or BLC_LIM bit that its condition still holds is set again (R38, R41, R478). -/
def Df.holdSticky (d : Df) (ch : Nat) : Df :=
  let c := d.chan ch
  let d := if c.clampOn ∧ d.mode ch ≠ modeOff then d.set (DF.AFE.CH.CLAMP ch) 1 else d
  if c.blcOn ∧ d.inForce DF.AFE.CONFIG.BLC_EN = 1 then d.set (DF.AFE.CH.BLC_LIM ch) 1 else d

/-- Port clamp bits whose clamp still conducts are set again (R375, R478). -/
def Df.holdPorts (d : Df) : Df :=
  (List.range 8).foldl (fun d p =>
    if FMap.get false d.hk.portClamp p then d.set DF.HK.PORTS.CLAMP (d.fld DF.HK.PORTS.CLAMP ||| 2 ^ p) else d) d

/-- What a write to the monitor configuration starts: a rising EN needs a new usable result (R395). -/
def Df.monRestart (d : Df) (m : Nat) (was : Bool) : Df :=
  if !was && d.fld (DF.HK.MON_CFG.EN m) == 1 then d.monFail m else d

/-- Effects of a write beside the stored word (R41, R85, R159, R378, R386, R395, R439, R443). `old` is the word before. -/
def Df.writeEffect (d : Df) (a : Nat) (v old : Word) : Df :=
  match elemOf (DF.AFE.CH.addr 0) 640 1 a with
  | some ch => d.holdSticky ch
  | none =>
    match elemOf (DF.REED.CH.addr 0) 632 1 a with
    | some ch => if fieldOf v 22 1 = 1 then d.retry ch else d
    | none =>
      if a = DF.LINK.TEST.addr then
        let d := (d.set DF.LINK.TEST.LANES (fieldOf old 0 4)).laneTest (fieldOf v 0 4)
        if fieldOf v 8 1 = 1 then d.invertBit else d
      else if a = DF.HK.CTRL.addr then
        let d := if fieldOf old 0 1 = 0 ∧ fieldOf v 0 1 = 1 ∧ d.fld DF.HK.STATUS.CAL_DONE = 0 then d.hkCalRequest else d
        let d := if fieldOf old 0 1 = 0 ∧ fieldOf v 0 1 = 1 then { d with hk := { d.hk with nextEntry := 0, loopAcc := 0 } } else d
        if fieldOf v 2 1 = 1 then d.hkCalRequest else d
      else if a = DF.HK.PORTS.addr then d.holdPorts
      else if a = DF.HK.MON_CFG.addr 0 then d.monRestart 0 (fieldOf old 0 1 == 1)
      else if a = DF.HK.MON_CFG.addr 1 then d.monRestart 1 (fieldOf old 0 1 == 1)
      else if a = DF.BOOT.CTRL.addr then
        if fieldOf v 0 1 = 1 then { d with cmd := { d.cmd with goTo := some dfAlign } } else d
      else if a = DF.BOOT.RESET.addr then { d with bt := { d.bt with softIn := some 2 } }
      else d

/-- Carry out a write that is not refused (R14, R16, R47). A write of a staged field waits for the next frame boundary. -/
def Df.putReg (d : Df) (a : Nat) (v : Word) : Df :=
  match findReg dfTable a with
  | none => d
  | some r =>
    let old := d.word a
    let d := d.setWord a (r.written old v)
    let d := if r.stages then { d with pend := true } else d
    d.writeEffect a v old

/-- One register write with its status (R14, R475). -/
def Df.writeReg (d : Df) (a : Nat) (v : Word) : Df × Nat :=
  if !dfMapped a 1 then (d, stBadParam)
  else
    let s := d.writeStatus a v
    if s = 0 then (d.putReg a v, 0) else (d, s)

/-- The index of the first refused value of a block write, with its status (R417). -/
def Df.blockStatus (d : Df) : Nat → Nat → List Word → Option (Nat × Nat)
  | _, _, [] => none
  | a, i, v :: t => if d.writeStatus a v = 0 then Df.blockStatus d (a + 1) (i + 1) t else some (i, d.writeStatus a v)

/-- Write consecutive registers (R476, R479). -/
def Df.putRegs (d : Df) : Nat → List Word → Df
  | _, [] => d
  | a, v :: t => Df.putRegs (d.putReg a v) (a + 1) t

end Sys2Proof.Machine
end

