-- ==== Sys2Proof/Machine/DfCommand.lean ====
section
/-! DEFINITION. The command interpreter of the DF640 (R362, R413 to R421), its frame boundary (R47, R49, R83, R119, R124 to
R127, R170, R419, R420, R440, R441), start-up, resets and droop stepping (R430, R439 to R447). -/
namespace Sys2Proof.Machine

/-- Ibast opcodes (R417). -/
def opRead : Nat := 1
def opWrite : Nat := 2
def opWriteBlock : Nat := 3
def opLock : Nat := 4
def opCommit : Nat := 5
def opAbandon : Nat := 6
def opTake : Nat := 7
def opSync : Nat := 8
def opArm : Nat := 9
def opDisarm : Nat := 10
def opInject : Nat := 11
def opHkInject : Nat := 12
def opLinkStep : Nat := 13
def opSleep : Nat := 14
def opDormant : Nat := 15
def opWake : Nat := 16
def opEcho : Nat := 17

/-- The header word of a command frame (R413). -/
def frameHeader (opcode k epoch identity owner : Nat) : Rec :=
  BitVec.ofNat 64 (opcode % 256 * 2 ^ 56 + k % 256 * 2 ^ 48 + epoch % 65536 * 2 ^ 32 + identity % 4096 * 2 ^ 20 + owner % 16 * 2 ^ 16)

/-- Whether the number of parameter words is right for an opcode (R416, R417). -/
def kOk (op k : Nat) (p : List Rec) : Bool :=
  if op = opWriteBlock then
    let n := rb (p.getD 0 0) 0 6
    decide (1 ≤ k) && (decide (n = 0 ∨ 32 < n) || k == 1 + (n + 1) / 2)
  else if op = opHkInject then k == 2
  else if op = opRead ∨ op = opWrite ∨ op = opInject ∨ op = opLinkStep then k == 1
  else k == 0

/-- An epoch is higher than another when it is 1 to 32,767 ahead modulo 65,536 (R362). -/
def epochHigher (e' e : Nat) : Bool :=
  let x := (e' + 65536 - e % 65536) % 65536
  decide (1 ≤ x ∧ x ≤ 32767)

/-- The values of a WRITE_BLOCK, two per word, the lower address in the upper half (R417). -/
def blockValues (n : Nat) (ws : List Rec) : List Word :=
  (ws.flatMap fun w => [BitVec.ofNat 32 (rb w 32 32), BitVec.ofNat 32 (rb w 0 32)]).take n

/-- Put one entry into a shadow; a later write to the same address replaces it (R418). -/
def shadowPut (l : List (Nat × Word)) (a : Nat) (v : Word) : List (Nat × Word) :=
  if l.any fun x => x.1 == a then l.map fun x => if x.1 = a then (a, v) else x else l ++ [(a, v)]

/-- Put values at consecutive addresses into a shadow. -/
def shadowPuts (l : List (Nat × Word)) : Nat → List Word → List (Nat × Word)
  | _, [] => l
  | a, v :: t => shadowPuts (shadowPut l a v) (a + 1) t

/-- Whether an owner holds the lock, and whether another does (R418). -/
def Df.holds (d : Df) (owner : Nat) : Bool := d.fld DF.CMD.LOCK.HELD == 1 && d.fld DF.CMD.LOCK.OWNER == owner
def Df.lockedOut (d : Df) (owner : Nat) : Bool := d.fld DF.CMD.LOCK.HELD == 1 && d.fld DF.CMD.LOCK.OWNER != owner

/-- Release the lock and discard the shadow (R420, R421). -/
def Df.unlock (d : Df) : Df :=
  let d := ((d.set DF.CMD.LOCK.HELD 0).set DF.CMD.LOCK.OWNER 0).set DF.CMD.LOCK.LEASE 0
  { d with cmd := { d.cmd with shadow := [] } }

/-- The lease is set to 16 frames (R420). -/
def Df.renew (d : Df) : Df :=
  { d.set DF.CMD.LOCK.LEASE 16 with cmd := { d.cmd with leaseAt := d.bt.boundary } }

/-- Write values for an owner: into the shadow while it holds the lock, else to the registers (R417, R418). Answers a status and
data. -/
def Df.cmdWrite (d : Df) (owner a : Nat) (vs : List Word) : Df × Nat × Nat :=
  if !dfMapped a vs.length ∨ vs.length = 0 then (d, stBadParam, 0)
  else
    match d.blockStatus a 0 vs with
    | some (i, s) => (d, s, if vs.length = 1 then 0 else i)
    | none =>
      if d.holds owner then
        let l := shadowPuts d.cmd.shadow a vs
        if 256 < l.length then (d, stShadowFull, 0) else ({ d with cmd := { d.cmd with shadow := l } }, 0, 0)
      else (d.putRegs a vs, 0, 0)

/-- Values read for an owner; a register in the shadow returns its shadow value (R417). -/
def Df.cmdRead (d : Df) (owner a n : Nat) : Df × List Word :=
  let x := d.readRegs owner a n
  (x.1, x.2.zipIdx.map fun v => match d.cmd.shadow.find? fun e => e.1 == a + v.2 with | some e => e.2 | none => v.1)

/-- TAKE (R176, R362, R421): status and data. -/
def Df.takeEpoch (d : Df) (e down : Nat) : Df × Nat × Nat :=
  let v := d.fld DF.PAIR.EPOCH.VALID
  let old := d.fld DF.PAIR.EPOCH.EPOCH
  if v = 0 ∨ epochHigher e old then
    let d := ((d.set DF.PAIR.EPOCH.EPOCH e).set DF.PAIR.EPOCH.VALID 1).inc DF.PAIR.TAKES.COUNT
    let d := d.unlock
    let d := { d with cmd := { d.cmd with commit := d.cmd.commit.map (fun (c : Nat × Bool) => (c.1, true)) }, bt := { d.bt with taken := true } }
    let d := if d.source = down then d else d.switchSource down
    (d, stOk, old + 65536 * v)
  else (d.inc DF.PAIR.REFUSED.COUNT, stNotActive, 0)

/-- INJECT: arm and stop slots (R57, R417). An armed slot first fires in the frame after this one. -/
def Df.injectCmd (d : Df) (armM stopM : Nat) : Df × Nat :=
  if armM &&& stopM ≠ 0 then (d, stBadParam)
  else
    let d := [0, 1, 2, 3].foldl (fun d s =>
      if armM.testBit s then
        let n := d.fld (DF.AFE.INJ_B.COUNT s)
        let x : InjSlot := { FMap.get {} d.slots s with next := d.frame + 1, left := if n = 0 then none else some n, stopReq := false }
        { d with slots := FMap.put {} d.slots s x }.set (DF.AFE.INJ_A.ARMED s) 1
      else if stopM.testBit s then { d with slots := FMap.put {} d.slots s { FMap.get {} d.slots s with stopReq := true } }
      else d) d
    (d, stOk)

/-- Lane positions that a LINK_STEP's lanes belong to (R158, R417). -/
def stepCoversBoth (lanes : Nat) : Bool := (lanes &&& 5) != 0 && (lanes &&& 10) != 0

/-- Carry out a command that is not a delayed one: status and data words (R417). -/
def Df.doCmd (d : Df) (owner op epoch down : Nat) (p : List Rec) : Df × Nat × List Word :=
  let p0 := p.getD 0 0
  let one (x : Df × Nat × Nat) : Df × Nat × List Word := (x.1, x.2.1, [BitVec.ofNat 32 x.2.2])
  let go (d : Df) (ok : Bool) (st : Nat) : Df × Nat × List Word :=
    if ok then ({ d with cmd := { d.cmd with goTo := some st } }, stOk, [0]) else (d, stState, [0])
  if op = opRead then
    let a := rb p0 32 16
    let n := rb p0 0 3 + 1
    if dfMapped a n then let x := d.cmdRead owner a n; (x.1, stOk, x.2) else (d, stBadParam, [0])
  else if op = opWrite then one (d.cmdWrite owner (rb p0 32 16) [BitVec.ofNat 32 (rb p0 0 32)])
  else if op = opWriteBlock then
    let n := rb p0 0 6
    if n = 0 ∨ 32 < n then (d, stBadParam, [0]) else one (d.cmdWrite owner (rb p0 32 16) (blockValues n (p.drop 1)))
  else if op = opLock then
    if d.lockedOut owner then (d, stLocked, [0])
    else ((((d.set DF.CMD.LOCK.HELD 1).set DF.CMD.LOCK.OWNER owner).renew), stOk, [0])
  else if op = opAbandon then
    if d.holds owner then (d.unlock, stOk, [BitVec.ofNat 32 d.cmd.shadow.length]) else (d, stNoLock, [0])
  else if op = opTake then one (d.takeEpoch epoch down)
  else if op = opArm then go d (d.state == dfAlign) dfRun
  else if op = opDisarm then go d (d.state == dfRun) dfAlign
  else if op = opInject then let x := d.injectCmd (rb p0 0 4) (rb p0 4 4); (x.1, x.2, [0])
  else if op = opHkInject then one (d.hkInject (BitVec.ofNat 32 (rb p0 0 32)) (BitVec.ofNat 32 (rb (p.getD 1 0) 0 32)))
  else if op = opLinkStep then
    if stepCoversBoth (rb p0 0 4) then (d, stBadParam, [0])
    else ({ d with cmd := { d.cmd with step := some (rb p0 0 4, rb p0 4 2, rb p0 8 1 == 1) } }, stOk, [0])
  else if op = opSleep then
    if d.state = dfDormant then ({ d with cmd := { d.cmd with sleepOk := true } }, stOk, [0]) else (d, stState, [0])
  else if op = opDormant then go d (d.state == dfAlign || d.state == dfRun) dfDormant
  else go d (d.state == dfDormant) d.bt.before

/-- Whether a kept reply still stands whole in the reply queue (R416). -/
def standsIn (ws : List Rec) : List Rec → Bool
  | [] => ws.isEmpty
  | x :: t => ws.isPrefixOf (x :: t) || standsIn ws t

/-- A command frame with the identity of the last one is not carried out again; its kept reply is sent once more (R416). -/
def Df.repeatReply (d : Df) (ws : List Rec) : Df :=
  if ws.isEmpty || standsIn ws (d.hit.replyQ.map (·.1)) then d else d.sendReply ws

/-- A command whose reply waits: COMMIT and SYNC for a boundary, ECHO for its stamps (R171, R417, R419). -/
def Df.delayed (d : Df) (owner op identity : Nat) : Df × Option Nat :=
  if op = opCommit then
    if d.holds owner then ({ d with cmd := { d.cmd with commit := some (identity, false) } }.renew, none) else (d, some stNoLock)
  else if op = opSync then ({ d with cmd := { d.cmd with sync := some identity } }, none)
  else
    let d := d.set DF.TIME.ECHO.VALID 0
    let want := match FMap.get none d.tim.probes d.source with | some x => x.2 + 1 | none => d.frame + 1
    ({ d with tim := { d.tim with echo := some { identity := identity, since := d.frame, want := want } } }, none)

/-- Commands that a held lock closes to other owners (R417). -/
def lockable (op : Nat) : Bool :=
  op == opWrite || op == opWriteBlock || op == opInject || op == opHkInject || op == opLinkStep

/-- Why a command frame is refused before it is carried out, in order: a reserved opcode or owner, wrong k, epoch, lock (R16, R362, R416, R417). DEDUCED (log entry 38). -/
def Df.refusal (d : Df) (owner op k epoch : Nat) (p : List Rec) : Option Nat :=
  if op = 0 ∨ opEcho < op ∨ (8 ≤ owner ∧ owner < 15) then some stBadOpcode
  else if !kOk op k p then some stBadParam
  else if op ≠ opRead ∧ op ≠ opEcho ∧ op ≠ opTake ∧ (d.fld DF.PAIR.EPOCH.VALID = 0 ∨ d.fld DF.PAIR.EPOCH.EPOCH ≠ epoch) then some stNotActive
  else if lockable op ∧ d.lockedOut owner then some stLocked
  else none

/-- Note a command that is carried out (R416, R426). -/
def Df.noteCmd (d : Df) (identity op : Nat) : Df :=
  let d := ((d.set DF.CMD.LAST.ID identity).set DF.CMD.LAST.OPCODE op).inc DF.CMD.ACCEPTED.COUNT
  { d with cmd := { d.cmd with last := some (identity, []) } }

/-- Carry out one command frame: its header word and parameter words, from downlink `down` (R413 to R421). -/
def Df.runFrame (d : Df) (down : Nat) (ws : List Rec) : Df :=
  let h := ws.getD 0 0
  let p := ws.drop 1
  let op := rb h 56 8
  let epoch := rb h 32 16
  let identity := rb h 20 12
  let owner := rb h 16 4
  match d.cmd.last.filter fun x => x.1 == identity with
  | some x => d.repeatReply x.2
  | none =>
    let d := d.noteCmd identity op
    match d.refusal owner op (rb h 48 8) epoch p with
    | some st =>
      let d := if st = stNotActive then d.inc DF.PAIR.REFUSED.COUNT else d
      d.reply identity st [0]
    | none =>
      let d := if d.holds owner then d.renew else d
      if op = opCommit ∨ op = opSync ∨ op = opEcho then
        match d.delayed owner op identity with
        | (d, none) => d.set DF.CMD.LAST.STATUS 0
        | (d, some st) => d.reply identity st [0]
      else
        let x := d.doCmd owner op epoch down p
        x.1.reply identity x.2.1 x.2.2

/-- Carry out waiting command frames until a reply has to wait (R416). -/
def Df.runHeld (d : Df) : List (Nat × List Rec) → Df
  | [] => { d with cmd := { d.cmd with held := [] } }
  | f :: t =>
    if d.cmd.waiting.isSome then { d with cmd := { d.cmd with held := f :: t } }
    else Df.runHeld (d.runFrame f.1 f.2).pump t

/-- Go on with the command frames that wait (R416). -/
def Df.resume (d : Df) : Df := d.pump.runHeld d.cmd.held

/-- Take one command frame (R416). -/
def Df.takeFrame (d : Df) (down : Nat) (ws : List Rec) : Df :=
  { d with cmd := { d.cmd with held := d.cmd.held ++ [(down, ws)] } }.resume

/-- Cut complete command frames off received words (R413): the frames and the rest. -/
def cutFrames : Nat → List Rec → List (List Rec) × List Rec
  | 0, l => ([], l)
  | n + 1, l =>
    match l with
    | [] => ([], [])
    | h :: t =>
      let k := rb h 48 8
      if k ≤ t.length then
        let x := cutFrames n (t.drop k)
        (((h :: t.take k) :: x.1), x.2)
      else ([], l)

/-- Command words taken from an accepted block of downlink `i` (R147, R413). -/
def Df.takeWords (d : Df) (i : Nat) (ws : List Rec) : Df :=
  let x := cutFrames 64 ((d.down i).rx ++ ws)
  let d := d.setDown i { d.down i with rx := x.2 }
  { d with cmd := { d.cmd with held := d.cmd.held ++ x.1.map fun f => (i, f) } }.resume

/-- A downlink block fails its CRC (R148, R158, R481). -/
def Df.badDownBlock (d : Df) (i : Nat) (ws : List Rec) : Df :=
  if d.fld DF.ID.INDEX.SET = 1 ∧ downCrcOk (rb (ws.getD 0 0) 58 6) ws then d.inc DF.ID.INDEX.MISMATCH
  else
    let x := d.down i
    let d := (d.setDown i { x with crcRun := x.crcRun + 1 }).inc (DF.LINK.DN.CRC_ERR i)
    if 16 ≤ x.crcRun + 1 then d.downTo i lLock (d.fld (DF.LINK.DN.RUNG i)) else d

/-- Downlink receiver `i` takes the `k`-th slot of a frame period (R147, R148, R481). -/
def Df.downSlot (d : Df) (i k : Nat) (line : List Bool) : Df :=
  if !d.downRun i then d
  else
    match downWords (d.fld (DF.LINK.DN.RUNG i)) k line with
    | none => d
    | some ws =>
      let h := ws.getD 0 0
      if h = idleWord ∨ rb h 48 16 = 0xA7E5 then d
      else
        let set := d.fld DF.ID.INDEX.SET = 1
        let index := if set then d.fld DF.ID.INDEX.N else rb h 58 6
        if !downCrcOk index ws then d.badDownBlock i ws
        else
          let seq := rb h 32 24
          let x := d.down i
          let gap := match x.lastSeq with | some q => (seq + 2 ^ 24 - q - 1) % 2 ^ 24 | none => 0
          if x.lastSeq.any fun q => !newer seq q then d.inc (DF.LINK.DN.SEQ_GAP i)
          else
            let d := d.add (DF.LINK.DN.SEQ_GAP i) gap
            let d := d.setDown i { x with lastSeq := some seq, rx := if gap = 0 then x.rx else [] }
            let d := if !set ∧ d.source = i then (d.set DF.ID.INDEX.N (rb h 58 6)).set DF.ID.INDEX.SET 1 else d
            let n := rb h 24 8
            if n ≤ 6 then d.takeWords i ((ws.drop 1).take n) else d

/-- The lease falls by 1 at boundary `b`; at 0 the shadow is discarded and the lock released (R420). -/
def Df.lowerLease (d : Df) (b : Nat) : Df :=
  if d.fld DF.CMD.LOCK.HELD = 1 ∧ d.cmd.leaseAt < b then
    let n := d.fld DF.CMD.LOCK.LEASE - 1
    let d := { d.set DF.CMD.LOCK.LEASE n with cmd := { d.cmd with leaseAt := b } }
    if n = 0 then d.unlock.inc DF.CMD.LEASE_EXP.COUNT else d
  else d

/-- The next frame boundary whose effects have not taken place. -/
def Df.nextBoundary (d : Df) : Nat := if d.bt.boundary < d.frame then d.frame else d.bt.boundary + 1

/-- The next frame boundary, for the lease alone (R420). -/
def Df.leaseExpiry (d : Df) : Df :=
  let b := d.nextBoundary
  (d.until (b * frameTicks)).lowerLease b

/-- The change category of R125 of a change `x` at address `a`. -/
def calCategory (a : Nat) (x : Word) : Nat :=
  let has (lo w : Nat) : Bool := fieldOf x lo w != 0
  if a = DF.AFE.GLOBAL.addr then 1
  else if a = DF.AFE.CONFIG.addr then (if has 0 4 then 1 else 0) + (if has 6 13 then 8 else 0)
  else if (elemOf (DF.AFE.CH.addr 0) 640 1 a).isSome then
    (if has 5 12 then 1 else 0) + (if has 0 2 then 2 else 0) + (if has 2 3 then 4 else 0)
  else if a = DF.REED.REFRESH.addr ∨ a = DF.REED.AGE.addr then 16
  else if (elemOf (DF.REED.ANCHOR.addr 0) 8 1 a).isSome then 32
  else if (elemOf (DF.TUS.RULE.addr 0) 64 1 a).isSome ∨ (elemOf (DF.TUS.MEMBER.addr 0) 640 1 a).isSome then 64
  else 0

/-- The staged mask of an address. -/
def stagedAt (a : Nat) : Word := match findReg dfTable a with | some r => r.stagedMask | none => 0

/-- The staged settings that change at a boundary: address, value in force, new value (R47, R125). -/
def Df.changes (d : Df) : List (Nat × Word × Word) :=
  ((d.eff.map (·.1) ++ d.regs.map (·.1)).eraseDups.map fun a =>
    (a, FMap.get (dfReset a) d.eff a &&& stagedAt a, d.word a &&& stagedAt a)).filter fun x => x.2.1 != x.2.2

/-- A changed channel setting starts blanking, powers the channel up or disarms it (R49, R94, R440). In DORMANT the stages are down. A hit or
candidate in progress when the mode goes OFF is kept and completes. DESIGN CHOICE (log entry 98). -/
def Df.changeChan (d : Df) (ch : Nat) (o n : Word) : Df :=
  let c := d.chan ch
  let m := fieldOf n 0 2
  if m = modeOff then (if fieldOf o 0 2 = modeOff then d else (d.setChan ch { c with blankEnd := none }).disarm ch)
  else if d.state = dfDormant then d
  else if fieldOf o 0 2 = modeOff then d.setChan ch { c with blankEnd := some (d.now + 640) }
  else if fieldOf (o ^^^ n) 2 3 ≠ 0 then d.setChan ch { c with blankEnd := some (max (c.blankEnd.getD 0) (d.now + 64)) }
  else d

/-- A tussock restarts at the slice that begins now (R119). -/
def Df.restartTussock (d : Df) (k : Nat) : Df :=
  { d with tus := { d.tus with restart := d.tus.restart.put 0 k (d.now / 4) } }

/-- The tussocks a MEMBER word names. -/
def namesOf (w : Word) : List Nat :=
  (if fieldOf w 6 1 = 1 then [fieldOf w 0 6] else []) ++ (if fieldOf w 14 1 = 1 then [fieldOf w 8 6] else [])

/-- What follows from one changed setting at the boundary (R49, R94, R119). -/
def Df.changeOne (d : Df) (x : Nat × Word × Word) : Df :=
  match elemOf (DF.AFE.CH.addr 0) 640 1 x.1 with
  | some ch => d.changeChan ch x.2.1 x.2.2
  | none =>
    match elemOf (DF.REED.ANCHOR.addr 0) 8 1 x.1 with
    | some k => d.setChan (632 + k) { d.chan (632 + k) with srcBlank := some (d.now + 8) }
    | none =>
      match elemOf (DF.TUS.RULE.addr 0) 64 1 x.1 with
      | some k => d.restartTussock k
      | none =>
        match elemOf (DF.TUS.MEMBER.addr 0) 640 1 x.1 with
        | some _ => ((namesOf x.2.1 ++ namesOf x.2.2).filter fun k => memberOf x.2.1 k != memberOf x.2.2 k).foldl (fun d k => d.restartTussock k) d
        | none => d

/-- Whether a change starts blanking (R49, R124). -/
def startsBlank (x : Nat × Word × Word) : Bool :=
  (elemOf (DF.AFE.CH.addr 0) 640 1 x.1).isSome && fieldOf x.2.2 0 2 != modeOff &&
    (fieldOf x.2.1 0 2 == modeOff || fieldOf (x.2.1 ^^^ x.2.2) 2 3 != 0)

/-- Every channel disarms (R440, R441). -/
def Df.disarmAll (d : Df) : Df := allChans.foldl (fun d ch => if (d.chan ch).armed then d.disarm ch else d) d

/-- RUN begins at boundary `b` (R121, R123, R440). -/
def Df.beginRun (d : Df) (b : Nat) : Df :=
  let d := { d with bt := { d.bt with runFrom := b },
                    tus := { d.tus with firstSlice := some (b * 16384), nextSlice := b * 16384, crossings := [], prims := 0 } }
  if d.tim.rootLocked then d.armAll else d

/-- RUN ends at boundary `b` (R440). -/
def Df.endRun (d : Df) (b : Nat) : Df := { d.disarmAll with bt := { d.bt with runTo := b } }

/-- On WAKE the channels that are not OFF pass through the power-up blanking again (R441). -/
def Df.powerChans (d : Df) : Df :=
  allChans.foldl (fun d ch => if d.mode ch ≠ modeOff then d.setChan ch { d.chan ch with blankEnd := some (d.now + 640) } else d) d

/-- The start-up state that a command asked for is taken at boundary `b` (R417, R439 to R441). -/
def Df.changeState (d : Df) (b : Nat) : Df :=
  match d.cmd.goTo with
  | none => d
  | some st =>
    let old := d.state
    let d := { d with cmd := { d.cmd with goTo := none } }
    let d := if old = dfRun ∧ st ≠ dfRun then d.endRun b else d
    let d := if st = dfDormant then
        let d := { d with bt := { d.bt with before := old }, cmd := { d.cmd with sleepOk := false } }
        allChans.foldl (fun d ch => if (d.chan ch).blankEnd.isSome then d.setChan ch { d.chan ch with blankEnd := none } else d) d
      else d
    let d := d.enter st
    let d := if old = dfDormant then d.powerChans else d
    if st = dfRun ∧ old ≠ dfRun then d.beginRun b else d

/-- LINK_STEP takes the named lanes and downlinks that are in RUN out of it (R158, R417). -/
def Df.linkStep (d : Df) : Df :=
  match d.cmd.step with
  | none => d
  | some (lanes, downs, restart) =>
    let d := { d with cmd := { d.cmd with step := none } }
    let d := d.withLanes fun d => [0, 1, 2, 3].foldl (fun d l =>
      if lanes.testBit l ∧ d.laneRun l then d.laneTo l lLock (if restart then 0 else d.fld (DF.LINK.LANE.RUNG l)) else d) d
    [0, 1].foldl (fun d i => if downs.testBit i ∧ d.downRun i then d.downTo i lLock (if restart then 0 else d.fld (DF.LINK.DN.RUNG i)) else d) d

/-- Slots that a command stopped disarm (R417). -/
def Df.stopSlots (d : Df) : Df :=
  [0, 1, 2, 3].foldl (fun d s =>
    let x := FMap.get {} d.slots s
    if x.stopReq then { d with slots := FMap.put {} d.slots s { x with stopReq := false } }.set (DF.AFE.INJ_A.ARMED s) 0 else d) d

/-- The two words of the INJECT_SCHEDULE mark of frame `b`, when a slot fires in it (R59, R124). -/
def Df.schedule (d : Df) (b : Nat) : Option (List Rec) :=
  let fires (s : Nat) : Bool := d.slotArmed s && (FMap.get {} d.slots s).next == b
  if [0, 1, 2, 3].any fires then
    let v (s x : Nat) : Nat := if fires s then x else 0
    let mask := total ([0, 1, 2, 3].map fun s => v s (2 ^ s))
    let range := total ([0, 1, 2, 3].map fun s => v s (d.fld (DF.AFE.INJ_A.RANGE s) * 2 ^ s))
    let charge := total ([0, 1, 2, 3].map fun s => v s (d.fld (DF.AFE.INJ_A.CHARGE s) * 2 ^ (8 + 10 * s)))
    let ticks := total ([0, 1, 2, 3].map fun s => v s (d.fld (DF.AFE.INJ_A.TICK s) * 2 ^ (16 * s)))
    some [markWord 4 (mask * 2 ^ 52 + range * 2 ^ 48 + charge), BitVec.ofNat 64 ticks]
  else none

/-- The marks of boundary `b` in the order of R124. -/
def Df.marks (d : Df) (b flags : Nat) (cal : Option (Nat × Nat)) (steps : List (Nat × Nat × Nat × Nat)) : Df :=
  let run := d.state = dfRun
  if !(run || !steps.isEmpty) then d
  else
    let up := d.posUp 0 || d.posUp 1
    let d := d.queueMark [frameMark b (flags + (if d.bt.firstMark then 8 else 0))]
    let d := if up then { d with bt := { d.bt with firstMark := false } } else d
    let d := match cal with | some (g, m) => if run then (d.queueCtl (calgenMark g m)).set DF.HIT.CALGEN.LAST_MASK m else d | none => d
    let d := steps.foldl (fun d x => d.queueCtl (biasMark x.1 x.2.1 x.2.2.1 x.2.2.2 (d.fld (DF.BIAS.TRIM.UNCOMP x.1)))) d
    match d.schedule b with | some ws => if run then d.queueMark ws else d | none => d

/-- Apply the shadow of a COMMIT, answering its entries (R419). -/
def Df.applyShadow (d : Df) : Df × Nat :=
  let n := d.cmd.shadow.length
  let d := d.cmd.shadow.foldl (fun d x => d.putReg x.1 x.2) d
  (d.unlock, n)

/-- The local time follows the adjustment set in force (R170). -/
def Df.adjust (d : Df) : Df :=
  if !d.tim.labelled then d
  else
    let d := d.applyCoarse (s16 (d.inForce (DF.TIME.ADJ.COARSE d.source)))
    let t := d.inForce (DF.TIME.ADJ.PHASE d.source)
    if t = d.tim.phase then d else d.startSlew t (max t d.tim.phase - min t d.tim.phase)

/-- Advance the calibration generation for a change mask (R125). -/
def Df.advanceGen (d : Df) (mask : Nat) : Df × Option (Nat × Nat) :=
  if mask = 0 then (d, none)
  else
    let g := (d.fld DF.HIT.CALGEN.GEN + 1) % 65536
    (d.set DF.HIT.CALGEN.GEN g, some (g, mask))

/-- The replies that waited for the boundary: COMMIT and SYNC (R417, R419, R421). -/
def Df.boundaryReplies (d : Df) (commit : Option (Nat × Bool)) (n b : Nat) : Df :=
  let d := match commit with
    | some (id, void) => if void then d.reply id stNotActive [0] else d.reply id stOk [BitVec.ofNat 32 n]
    | none => d
  match d.cmd.sync with
  | some id => { d with cmd := { d.cmd with sync := none } }.reply id stOk [BitVec.ofNat 32 b]
  | none => d

/-- A cause of reset (R443): bits of the CAUSE register. -/
def causePor : Nat := 1
def causeBor : Nat := 2
def causePin : Nat := 4
def causeSoft : Nat := 8

/-- A full reset: the chip returns to POWER, with the cause (R66, R100, R132, R165, R192, R398, R427, R443, R484). -/
def Df.resetBy (d : Df) (cause : Nat) : Df :=
  ({ out := d.out } : Df).setWord DF.BOOT.CAUSE.addr (BitVec.ofNat 32 cause) |>.set DF.BOOT.STATE.STATE dfPower

/-- Everything that takes effect at frame boundary `b` (R47, R49, R83, R119, R124 to R127, R170, R419, R420, R440). -/
def Df.atBoundary (d : Df) (b : Nat) : Df :=
  let d := { d.until (b * frameTicks) with bt := { d.bt with boundary := b } }
  let d := d.lowerLease b
  let commit := d.cmd.commit
  let d := { d with cmd := { d.cmd with commit := none } }
  let go := match commit with | some (_, void) => !void | none => false
  let staged := d.pend
  let wakes := d.state == dfDormant && d.cmd.goTo.isSome
  let x := if go then d.applyShadow else (d, 0)
  let d := x.1
  let ch := d.changes
  let d := { d with eff := d.regs, pend := false, tus := { d.tus with prevEff := d.eff, effFrom := b * 16384 } }
  let mask := ch.foldl (fun (m : Nat) (c : Nat × Word × Word) => m ||| calCategory c.1 (c.2.1 ^^^ c.2.2)) 0
  let d := ch.foldl (fun (d : Df) (c : Nat × Word × Word) => d.changeOne c) d
  let blank := if d.state = dfDormant then wakes && allChans.any (fun c => decide (d.mode c ≠ modeOff)) else ch.any startsBlank
  let g := d.advanceGen mask
  let d := (g.1.changeState b).stopSlots.linkStep
  let d := List.foldl (fun (d : Df) (c : Nat × Chan) => if c.2.clampOn then d.holdSticky c.1 else d) d.blcOff d.chans
  let y := d.applyBias
  let flags := staged.toNat + 2 * go.toNat + 4 * blank.toNat
  let d := y.1.marks b flags g.2 y.2
  (d.adjust.boundaryReplies commit x.2 b).resume

/-- The next frame boundary (R47, R69, R124); a soft reset falls at the second one after its write (R443). -/
def Df.frameBoundary (d : Df) (loopEnd : Bool) : Df :=
  let d := d.loopAct loopEnd
  match d.bt.softIn with
  | some 1 => d.resetBy causeSoft
  | some (n + 1) => d.atBoundary d.nextBoundary |> fun d => { d with bt := { d.bt with softIn := some n } }
  | _ => d.atBoundary d.nextBoundary

/-- 64 frames have passed since an ECHO (R417). -/
def Df.echoTimeout (d : Df) : Df :=
  match d.tim.echo with
  | none => d
  | some e => ((d.until ((e.since + 64) * frameTicks)).echoReply stTimeout).resume

/-- No downlink has been in RUN for 4,096 frames (R442). DEDUCED (log entry 27). -/
def Df.safeEntry (d : Df) : Df :=
  match d.bt.noDownSince with
  | none => d
  | some t =>
    if d.state = dfConfig ∨ d.state = dfAlign ∨ d.state = dfRun ∨ (d.state = dfDormant ∧ !d.cmd.sleepOk) then
      let d := d.until (t + 4096 * frameTicks)
      let d := if d.state = dfRun then d.endRun (d.frame + 1) else d
      let d := allChans.foldl (fun d c => if d.fld (DF.AFE.CH.MODE c) = 0 then d else { d.set (DF.AFE.CH.MODE c) 0 with pend := true }) d
      let d := [0, 1, 2, 3].foldl (fun d s => if d.slotArmed s then d.set (DF.AFE.INJ_A.ARMED s) 0 else d) d
      let d := { d.unlock with hk := { d.hk with steps := [] } }
      let d := { d with cmd := { d.cmd with commit := d.cmd.commit.map (fun (c : Nat × Bool) => (c.1, true)), goTo := none } }
      d.enter dfSafe
    else d

/-- The supplies have been valid for 10 µs and RESET_N is high (R439). -/
def Df.powerRelease (d : Df) : Df := if d.state = dfPower then d.enter dfFuse else d

/-- The fuse words are loaded (R189, R430, R439, R446, R480): a word that is uncorrectable on both reads sets FUSE_ERR. -/
def Df.fuseLoad (d : Df) (f : Fuses) : Df :=
  if d.state = dfFuse then
    let err := f.dieId.isNone || f.grade.isNone || f.trim.isNone || f.l1.isNone || f.l2.isNone || f.refinLat.isNone
    let d := (d.set DF.ID.DIE_LO.ID (f.dieId.getD 0)).set DF.ID.DIE_HI.ID (f.dieId.getD 0 / 2 ^ 32)
    let d := (d.set DF.ID.PART.GRADE (f.grade.getD 0)).set DF.TIME.REFIN_LAT.LAT (f.refinLat.getD 0)
    let d := (d.set DF.BOOT.DROOP_CFG.L1 (f.l1.getD 765)).set DF.BOOT.DROOP_CFG.L2 (f.l2.getD 740)
    let d := if err then d.set DF.BOOT.STATE.FUSE_ERR 1 else d
    (d.enter dfListen).set (DF.LINK.DN.STATE 0) lLock
  else d

/-- 4 ms have passed in LISTEN on one receiver: the other one is tried (R439). -/
def Df.listenTimeout (d : Df) : Df :=
  if d.state = dfListen ∧ d.fld (DF.LINK.DN.SOURCE 0) = 0 ∧ d.fld (DF.LINK.DN.SOURCE 1) = 0 then
    let i := d.bt.listen
    let d := { d with bt := { d.bt with listen := 1 - i } }
    (d.set (DF.LINK.DN.STATE i) lOff).set (DF.LINK.DN.STATE (1 - i)) lLock
  else d

/-- The level that ELASTIC leaves when it steps back (R446). -/
def Df.droopLevel (d : Df) : Nat := if d.fld DF.BOOT.DROOP_STAT.STEP = 2 then d.fld DF.BOOT.DROOP_CFG.L2 else d.fld DF.BOOT.DROOP_CFG.L1

/-- A droop reading in millivolts (R446). -/
def Df.droop (d : Df) (mv : Nat) : Df :=
  let from' := if d.bt.droopMv < d.droopLevel + 10 then d.now else d.bt.droopFrom
  let d := d.set DF.BOOT.DROOP_STAT.MIN (min (d.fld DF.BOOT.DROOP_STAT.MIN) mv)
  let d := { d with bt := { d.bt with droopMv := mv, droopFrom := from' } }
  let st := d.fld DF.BOOT.DROOP_STAT.STEP
  if mv < d.fld DF.BOOT.DROOP_CFG.L2 ∧ st < 2 then (d.set DF.BOOT.DROOP_STAT.STEP 2).inc DF.BOOT.DROOP_N.N4
  else if mv < d.fld DF.BOOT.DROOP_CFG.L1 ∧ st < 1 then (d.set DF.BOOT.DROOP_STAT.STEP 1).inc DF.BOOT.DROOP_N.N2
  else d

/-- HOLD µs have passed with the reading at least 10 mV above the level being left (R446): one step back, and the next one waits HOLD µs of its own. -/
def Df.droopBack (d : Df) : Df :=
  let st := d.fld DF.BOOT.DROOP_STAT.STEP
  if 0 < st ∧ d.droopLevel + 10 ≤ d.bt.droopMv then
    let d := (d.until (d.bt.droopFrom + d.fld DF.BOOT.DROOP_CFG.HOLD * 320)).set DF.BOOT.DROOP_STAT.STEP (st - 1)
    { d with bt := { d.bt with droopFrom := d.now } }
  else d

/-- A 1 written to `DF.BOOT.CTRL.DONE` (R439): status. -/
def Df.done (d : Df) : Df × Nat := d.writeReg DF.BOOT.CTRL.addr 1

end Sys2Proof.Machine
end

