-- ==== Sys2Proof/Machine/Pair.lean ====
section
/-! DEFINITION. The pair (R351 to R372): replies that wait, Causeway blocks, heartbeats, the state copy, hold and ownership,
takeover, handover, demotion. -/
namespace Sys2Proof.Machine

/-- An ISOLATED unit sends nothing on its Ethernet ports (R363). DEDUCED (log entry 57). -/
def Dc.emitEth (d : Dc) (x : DcSent) : Dc := if d.role = roleIsolated then d else d.frameOut x

/-- Bytes filled up to a multiple of 4 (R411). -/
def pad4 (l : List Nat) : List Nat := l ++ List.replicate ((4 - l.length % 4) % 4) 0

/-- Send a reply (R404), `again` when it is a kept one (R408). -/
def Dc.sendReply (d : Dc) (r : Reply) (again : Bool) : Dc :=
  d.emitEth (.packet r.dst r.ip r.udp
    (d.packet (1 + 8 * again.toNat) r.session r.sequence r.opcode r.target r.status (pad4 r.payload)))

/-- Answer a request: the reply is kept among the last 16 of its entry, and sent (R404, R408). -/
def Dc.answer (d : Dc) (r : Reply) : Dc :=
  let l := (FMap.get [] d.abs.kept r.host ++ [r])
  ({ d with abs := { d.abs with kept := FMap.put [] d.abs.kept r.host (l.drop (l.length - 16)) } } : Dc).sendReply r false

/-- Answer a request whose effect the copy of the present frame carries: the reply waits for its acknowledgement (R360, R361). DEDUCED (log entry 74). -/
def Dc.answerAfterCopy (d : Dc) (r : Reply) : Dc :=
  if d.withheld d.frame then { d with abs := { d.abs with held := d.abs.held ++ [(d.frame, r)] } } else d.answer r

/-- Answer a trigger request: its decision is in the copy that took the last decision (R356, R360). -/
def Dc.answerDecision (d : Dc) (r : Reply) : Dc :=
  if d.withheld d.pair.decFrame then { d with abs := { d.abs with held := d.abs.held ++ [(d.pair.decFrame, r)] } } else d.answer r

/-- Replies that no longer wait leave in order. -/
def Dc.releaseReplies (d : Dc) : Dc :=
  let out := d.abs.held.filter fun x => !d.withheld x.1
  let d : Dc := { d with abs := { d.abs with held := d.abs.held.filter fun x => d.withheld x.1 } }
  out.foldl (fun (d : Dc) (x : Nat × Reply) => d.answer x.2) d

/-- The higher of two epochs. -/
def epochMax (a b : Nat) : Nat := if epochHigher a b then a else b

/-- The fold word of a Causeway block (R354). -/
def causeFold (pref lane seq : Nat) : Rec := BitVec.ofNat 64 (pref % 2 * 2 ^ 63 + lane % 4 * 2 ^ 56 + seq % 2 ^ 24 * 2 ^ 32)

/-- Classes of Causeway blocks (R354). -/
def clsHeartbeat : Nat := 1
def clsCopy : Nat := 2
def clsTime : Nat := 3
def clsCatchup : Nat := 4
def clsImage : Nat := 6

/-- A Causeway block (R354). -/
def causeBlock (cls pref lane seq frame : Nat) (payload : List Rec) : List Rec :=
  let h : Nat := cls % 16 * 2 ^ 60 + pref % 2 * 2 ^ 59 + lane % 4 * 2 ^ 56 + seq % 2 ^ 24 * 2 ^ 32 + frame % 2 ^ 24 * 2 ^ 8 + payload.length % 32 * 2 ^ 3
  let body := BitVec.ofNat 64 h :: (payload ++ List.replicate (30 - payload.length) 0)
  body ++ [BitVec.ofNat 64 (blockCrc (causeFold pref lane seq) body 0)]

/-- Whether a received Causeway block passes its check: the sender's PREF is the complement of the receiver's, and the lane is the
receiver's (R354). -/
def causeOk (ownPref lane : Nat) (ws : List Rec) : Bool :=
  let t := ws.getD 31 0
  decide (rb t 0 32 = blockCrc (causeFold (1 - ownPref) lane (rb (ws.getD 0 0) 32 24)) (ws.take 31) t)

/-- The unit's PREF strap. -/
def Dc.pref (d : Dc) : Nat := d.fld DC.PAIR.CFG.PREF

/-- RETURN_READY (R367). -/
def Dc.returnReady (d : Dc) : Bool :=
  let need := ([1, 2, 4, 5].map fun s => if d.sourceOn s then sliceTicks * d.fld (DC.TRG.PRE.SLICES s) else 0).foldl max 0
  d.pref == 1 && d.role == roleStandby && d.fld DC.PAIR.CFG.RETURN_EN == 1 && d.pstate == psSync && decide (64 ≤ d.fld DC.PAIR.STATUS.SYNC_FRAMES)
    && decide (1024 * (need + frameTicks * d.fld DC.TRG.HORIZON.FRAMES) ≤ d.depth) && d.fld DC.PAIR.STATUS.PREF_CLASH == 0

/-- The payload of a heartbeat (R355). -/
def Dc.heartbeatWords (d : Dc) (ack : Bool) : List Rec :=
  [BitVec.ofNat 64 (d.epoch % 65536 * 2 ^ 48 + d.role % 4 * 2 ^ 46 + d.pstate % 4 * 2 ^ 44 + d.pref % 2 * 2 ^ 43 + d.returnReady.toNat * 2 ^ 42 + ack.toNat * 2 ^ 41),
   BitVec.ofNat 64 (d.frame % 2 ^ 48), BitVec.ofNat 64 ((d.pair.ackd - 1) % 2 ^ 48),
   BitVec.ofNat 64 (min (2 ^ 24 - 1) d.depthFrames * 2 ^ 16 + d.fld DC.PAIR.STATUS.SYNC_FRAMES % 65536), BitVec.ofNat 64 (d.trg.next % 2 ^ 48)]

/-- Put a block into the queue of a lane: after the blocks whose class has the same or a higher precedence, which is the order of the class codes 1, 3, 2, 4, 5, 6 (R354). -/
def causeRank (b : List Rec) : Nat := [9, 1, 3, 2, 4, 5, 6].getD (rb (b.getD 0 0) 60 4) 9
def causeQueue (b : List Rec) : List (List Rec) → List (List Rec)
  | [] => [b]
  | x :: t => if causeRank b < causeRank x then b :: x :: t else x :: causeQueue b t

/-- Queue a Causeway block for a lane in RUN. -/
def Dc.causeSend (d : Dc) (cls l : Nat) (payload : List Rec) : Dc :=
  let x := d.lane l
  if x.state = lRun then
    d.setLane l { x with seq := (x.seq + 1) % 2 ^ 24, tx := { x.tx with todo := causeQueue (causeBlock cls d.pref l x.seq d.frame payload) x.tx.todo } }
  else d

/-- A stamp in a TIME block: what it is of (0 a departure of a Causeway marker on lane `i`, 1 an arrival there, 2 an uplink marker of DF640 `i`), the
marker count, and the stamp. DESIGN CHOICE (log entry 110). -/
def stampWords (what i : Nat) (x : Nat × Nat) : List Rec :=
  [BitVec.ofNat 64 (what % 16 * 2 ^ 60 + i % 64 * 2 ^ 54 + x.2 % 2 ^ 24 * 2 ^ 30 + x.1 % 1024), BitVec.ofNat 64 (x.1 / 1024)]

/-- The stamps that a unit sends to its partner: its newest Causeway departures and arrivals, and of a standby its newest stamps of the lane of each
DF640 that starts its homing port (R175). -/
def Dc.stampsOut (d : Dc) : List (List Rec) :=
  let one (what i : Nat) (l : List (Nat × Nat)) : List (List Rec) := match l with | x :: _ => [stampWords what i x] | [] => []
  (List.range 4).flatMap (fun l => one 0 l (d.lane l).left ++ one 1 l (d.lane l).rx.marks)
    ++ (if d.role = roleStandby then (List.range 64).flatMap fun n => one 2 n (d.recv (2 * n)).marks else [])

/-- TIME blocks of up to 15 stamps each, on the lowest lane in RUN (R354). -/
def Dc.sendStamps (d : Dc) (l : Nat) : Nat → List (List Rec) → Dc
  | 0, _ => d
  | _ + 1, [] => d
  | k + 1, xs => Dc.sendStamps (d.causeSend clsTime l (xs.take 15).flatten) l k (xs.drop 15)

/-- Each unit of a pair sends its timing stamps once per frame (R175, R354). DESIGN CHOICE (log entry 110). -/
def Dc.timeBlocks (d : Dc) : Dc :=
  if !d.paired then d
  else match (List.range 4).find? fun l => (d.lane l).state == lRun with
    | some l => d.sendStamps l 8 d.stampsOut
    | none => d

/-- Stamps kept, newest first. -/
def keepStamp (l : List (Nat × Nat)) (x : Nat × Nat) : List (Nat × Nat) := if l.contains x then l else (x :: l).take 64

/-- One stamp of a TIME block is taken (R175). -/
def Dc.takeStamp (d : Dc) (w v : Rec) : Dc :=
  let i := rb w 54 6
  let x : Nat × Nat := (1024 * v.toNat + rb w 0 10, rb w 30 24)
  if rb w 60 4 = 0 then { d with tim := { d.tim with pLeft := d.tim.pLeft.upd [] i (keepStamp · x) } }
  else if rb w 60 4 = 1 then { d with tim := { d.tim with pCame := d.tim.pCame.upd [] i (keepStamp · x) } }
  else if rb w 60 4 = 2 then { d with tim := { d.tim with pMarks := d.tim.pMarks.upd [] i (keepStamp · x) } }
  else d

/-- The stamps of a TIME block, two words each. -/
def Dc.takeStamps (d : Dc) : List Rec → Dc
  | w :: v :: t => Dc.takeStamps (d.takeStamp w v) t
  | _ => d

/-- The two-way measurement over Causeway lane `l` (R172, R175): the newest of the partner's departures that this unit has stamped, and the newest of
its own departures that the partner has stamped. -/
def Dc.causeSample (d : Dc) (l : Nat) : Option EchoSample :=
  let down := (FMap.get [] d.tim.pLeft l).filterMap fun x => (stampOf (d.lane l).rx.marks x.2).map fun a => (x.1, a)
  let up := (FMap.get [] d.tim.pCame l).filterMap fun x => (stampOf (d.lane l).left x.2).map fun a => (a, x.1)
  match down, up with
  | a :: _, b :: _ => some { depart := a.1, lrx := a.2, ltx := b.1, arrive := b.2 }
  | _, _ => none

/-- A standby steers its root by the two-way rule (R33, R175): whole ticks that it is behind it takes at once, moving forward only, and the rest moves
the phase of its root. The stamps used are dropped. DESIGN CHOICE (log entry 110). -/
def Dc.rootSteer (d : Dc) (l : Nat) : Dc :=
  if d.role ≠ roleStandby then d
  else
    match d.causeSample l with
    | none => d
    | some x =>
      let th := echoTheta 0 x
      let ticks := if th < 0 then (-th).toNat / 1024 else 0
      { d.until (d.now + ticks) with tim := { d.tim with lead := th, root := d.tim.root - th - 1024 * ticks,
                                                         pLeft := FMap.put [] d.tim.pLeft l [], pCame := FMap.put [] d.tim.pCame l [] } }

/-- A TIME block of lane `l` (R175). -/
def Dc.hearTime (d : Dc) (l : Nat) (ws : List Rec) (used : Nat) : Dc := (d.takeStamps (ws.take used)).rootSteer l

/-- A HEARTBEAT on every Causeway lane in RUN (R355). -/
def Dc.heartbeat (d : Dc) (ack : Bool) : Dc :=
  if d.paired then (List.range 4).foldl (fun (d : Dc) (l : Nat) => d.causeSend clsHeartbeat l (d.heartbeatWords ack)) d else d

/-- The size of a copy in bytes, chunk included: the spec bounds it and gives no coding of its parts (R356; free value). DESIGN CHOICE (log entry 56). -/
def copyBytes (frame pref : Nat) : Nat := 1 + Config.free 30 [frame, pref] % 921600

/-- CATCHUP blocks of a full image: at most 4 MiB (R359; free value). -/
def imageBlocks (frame pref : Nat) : Nat := 1 + Config.free 31 [frame, pref] % 17477

/-- The marks of context words as they are voted (R325, R326). -/
def Dc.ctxMarks (d : Dc) : FMap Nat := (d.mem.sram.filter fun x => decide (x.1 < 2 ^ 24) && votedMark x.2 != 0).map fun x => (x.1, d.sramMark arrContext x.1)

/-- The copy of the frame that ended at the present boundary (R356). DEDUCED (log entry 78). -/
def Dc.makeCopy (d : Dc) (frame : Nat) : Copy :=
  let bytes := copyBytes frame d.pref
  { frame := frame, epoch := d.epoch, gen := d.fld DC.CTX.GEN.GEN, trg := d.trg, qlf := d.qlf, tim := d.tim, regs := d.regs, ctx := d.ctx, tot := d.ldg.tot,
    seen := d.abs.seen, log := d.peat.log, plog := d.peat.plog, bytes := bytes, blocks := (bytes + 239) / 240, marks := d.ctxMarks, final := d.pair.final }

/-- The poison bits of words in the Causeway buffers travel with the copy (R326, R330): word w of the array holds context word w modulo the number of these. DESIGN CHOICE
(log entry 129). -/
def Dc.bufferMarks (d : Dc) (m : FMap Nat) : FMap Nat :=
  (d.mem.sram.filter fun x => x.1 / 2 ^ 24 == arrCauseway && votedMark x.2 != 0).foldl (fun m x => FMap.put 0 m (x.1 % 2 ^ 24 % 327680) markPoison) m

/-- The active unit sends the copy of the frame before (R357); its buffers are then used anew. -/
def Dc.copySend (d : Dc) : Dc :=
  match d.pair.ready with
  | none => d
  | some c =>
    let c := { c with marks := d.bufferMarks c.marks }
    let d := d.sramClean arrCauseway 0 (2 ^ 24)
    let d : Dc := { d with pair := { d.pair with ready := none, sent := some c } }
    let d := (d.set DC.PAIR.COPY.BYTES c.bytes).set DC.PAIR.COPY_PEAK.BYTES (max c.bytes (d.fld DC.PAIR.COPY_PEAK.BYTES))
    d.emit (.copy c.frame c.blocks)

/-- Registers that a copy carries whole, and registers of which it carries what the host and the core write (R356, R359). -/
def copyWhole : List RegDesc := DC.TRG.table ++ DC.QLF.table ++ DC.CMP.table ++ DC.CTX.table ++ DC.TIME.table
def copyConfig : List RegDesc := DC.PTP.table ++ DC.IBR.table ++ DC.FOLD.table ++ DC.PEAT.table ++ DC.ABS.table ++ DC.LDG.table

/-- The RW bits of a register row. -/
def RegDesc.rwMask (r : RegDesc) : Word := r.fields.foldl (fun w f => if f.acc = .rw then w ||| maskW f.lo f.width else w) 0

/-- Registers that belong to the unit itself: the unit address, ring geometry and what follows from it, and the stamps of its own pins and ports (R180, R187). -/
def ownRegister (a : Nat) : Bool :=
  a == DC.ABS.UNIT_IP.addr || a == DC.ABS.UNIT_MAC_LO.addr || a == DC.ABS.UNIT_MAC_HI.addr || a == DC.TRG.DCAP.addr
    || a == DC.TIME.PPS_IN_LO.addr || a == DC.TIME.PPS_IN_HI.addr || a == DC.TIME.PPS_IN_FINE.addr || a == DC.TIME.PPS_IN_CNT.addr
    || a == DC.TIME.TXQ_LO.addr || a == DC.TIME.TXQ_HI.addr || a == DC.TIME.TXQ_FINE.addr || a == DC.TIME.TXQ_OVF.addr

/-- One register from a copy. -/
def Dc.takeReg (d : Dc) (c : RegFile) (a : Nat) : Dc :=
  let v := FMap.get (dcReset a) c a
  if ownRegister a then d
  else if (findReg copyWhole a).isSome then d.setWord a v
  else
    match findReg copyConfig a with
    | some r => d.setWord a ((d.word a &&& ~~~ r.rwMask) ||| (v &&& r.rwMask))
    | none => d

/-- Registers, sessions and highest sequences from a copy (R356). -/
def Dc.takeRegs (d : Dc) (c : RegFile) : Dc :=
  let issue := d.fld DC.TRG.CTRL.ISSUE
  let d := ((c.map (·.1)) ++ (d.regs.map (·.1))).foldl (fun (d : Dc) (a : Nat) => d.takeReg c a) d
  let d := (List.range 8).foldl (fun (d : Dc) (h : Nat) =>
    (d.setWord (DC.ABS.SESSION.addr h) (FMap.get 0 c (DC.ABS.SESSION.addr h))).setWord (DC.ABS.HIGHEST.addr h) (FMap.get 0 c (DC.ABS.HIGHEST.addr h))) d
  d.set DC.TRG.CTRL.ISSUE issue

/-- Contexts from a copy, with the marks of their words (R326). -/
def Dc.takeCtx (d : Dc) (c : CtxSt) (marks : FMap Nat) : Dc :=
  let keys := (c.ctxs.map (·.1)) ++ (d.ctx.ctxs.map (·.1)) ++ (marks.map (·.1 / 8)) ++ d.ctxMarks.map (·.1 / 8)
  let d := keys.foldl (fun (d : Dc) (i : Nat) =>
    d.request 6 (.copy i (FMap.get ctxReset c.ctxs i) ((List.range 4).map fun w => FMap.get 0 marks (8 * i + w)))) d
  { d with ctx := { d.ctx with chipNext := c.chipNext, log := c.log } }

/-- A formatted store that a copy has enabled starts (R319, R320); one whose channels have failed stays disabled (R298). -/
def Dc.storeCopied (d : Dc) (on : Nat) : Dc :=
  if d.fld DC.PEAT.GEOM.CHAN_FAIL = 1 then d.set DC.PEAT.CTRL.EN 0
  else if d.fld DC.PEAT.CTRL.EN = 1 ∧ on = 0 then d.storeStart
  else d

/-- The standby takes one complete copy (R358): trigger state and decisions, servo, contexts, capture totals, sessions, positions. Its own
log moves its RELEASE and LIMIT with the copy. -/
def Dc.applyCopy (d : Dc) (c : Copy) : Dc :=
  let t := { d.trg with tLast := c.trg.tLast, sLast := c.trg.sLast, next := c.trg.next, caps := c.trg.caps, away := c.trg.away, tombs := c.trg.tombs,
                        period := c.trg.period, periodFrom := c.trg.periodFrom, fromSlice := c.trg.fromSlice,
                        undecided := d.trg.undecided.filter fun x => decide (groupSlices * c.trg.group ≤ x.slice) }
  let tim := { c.tim with txq := d.tim.txq, reqs := d.tim.reqs, align := d.tim.align, pMarks := d.tim.pMarks, pLeft := d.tim.pLeft, pCame := d.tim.pCame,
                          lead := d.tim.lead, root := d.tim.root, ppsEnd := d.tim.ppsEnd, peerWait := d.tim.peerWait, epoch := d.tim.epoch }
  let d : Dc := { d with trg := t, tim := tim, abs := { d.abs with seen := c.seen }, peat := { d.peat with plog := c.log } }
  let on := d.fld DC.PEAT.CTRL.EN
  let d := ((d.takeRegs c.regs).storeCopied on).takeCtx c.ctx c.marks
  let d := (List.range 6).foldl (fun (d : Dc) (k : Nat) => d.setTot k (FMap.get 0 c.tot k)) d
  let d := if d.pair.settledRole then d.set DC.PAIR.EPOCH.EPOCH c.epoch else d
  let d := if d.peat.flash.formatted ∧ c.plog.id = d.peat.flash.id ∧ d.peat.log.release < c.plog.release then d.release c.plog.release else d
  let d : Dc := if d.peat.flash.formatted ∧ c.plog.id = d.peat.flash.id then
      { d with peat := { d.peat with log := { d.peat.log with limit := max d.peat.log.limit c.plog.limit, sent := max c.plog.sent d.peat.log.release } } } else d
  let d := if d.fld DC.PEAT.STATUS.READY = 1 then d.showFree else d
  let unbroken : Bool := match d.pair.applied with | some c0 => c.frame == c0.frame + 1 | none => false
  { d with pair := { d.pair with applied := some c, chainFrom := if unbroken then d.pair.chainFrom else c.frame } }

/-- Every copy since the image began that is due by now has been applied (R357, R359). -/
def Dc.imageApplied (d : Dc) : Bool :=
  match d.pair.applied with
  | some c => decide (d.pair.chainFrom ≤ d.pair.imageFrom ∧ d.frame ≤ c.frame + 3)
  | none => false

/-- Every complete copy is applied, in frame order (R358); a standby whose image is complete enters SYNC (R359). -/
def Dc.applyCopies (d : Dc) : Dc :=
  let l := d.pair.complete
  let d := l.foldl Dc.applyCopy d
  let d : Dc := { d with pair := { d.pair with complete := [] } }
  if d.role = roleStandby ∧ d.pstate = psCatchup ∧ imageBlocks d.pair.imageFrom d.pref ≤ d.pair.image ∧ d.imageApplied then d.takePstate psSync else d

/-- Enter CATCHUP: the full image begins (R359). -/
def Dc.catchup (d : Dc) : Dc := { d.takePstate psCatchup with pair := { (d.takePstate psCatchup).pair with image := 0, imageFrom := d.frame, late := false, gap := false } }

/-- The epoch 1 above the highest of the unit's own, the partner's and those read from the DF640s (R369). -/
def Dc.nextEpoch (d : Dc) : Nat :=
  let e := epochMax (d.fld DC.PAIR.P_STATUS.EPOCH) d.epoch
  let e := match d.pair.dfEpoch with | some x => epochMax x e | none => e
  (e + 1) % 65536

/-- Captures are extracted again from the start (R365). -/
def Dc.restartCaps (d : Dc) : Dc :=
  let l := (d.trg.caps.map fun x => ({ dec := x.dec, again := x.again } : Cap)) ++ d.trg.away.map fun x => ({ dec := x.dec, again := true } : Cap)
  ({ d with trg := { d.trg with caps := l, away := [] } } : Dc).set DC.TRG.STATUS.IN_FLIGHT l.length

/-- The takeover of R365 with a new epoch, after the copies are applied. -/
def Dc.takeover (d : Dc) (epoch : Nat) : Dc :=
  let d := d.applyCopies
  let from' := match d.pair.applied with | some c => c.trg.group | none => d.trg.group
  let d := d.takeRole roleActive epoch
  let d := (List.range 64).foldl (fun (d : Dc) (n : Nat) => if d.fld (DC.IBR.CFG.EN n) = 1 then d.queueFrame n 0x07 15 [] none else d) d
  let d : Dc := { d with pair := { d.pair with arp := [d.now, d.now + ticksSec, d.now + 2 * ticksSec], mustConfirm := true, confirmed := 0, takeAt := none } }
  let d := d.holdover 0xFFFFFFFF
  let trigs := d.trg.undecided
  let d : Dc := { d with trg := { d.trg with undecided := [] } }
  let d := if d.fld DC.TRG.CTRL.EN = 1 then d.decideSpan trigs (groupSlices * from') (groupSlices * (d.trg.group - from')) else d
  let d := d.restartCaps
  { d with peat := { d.peat with partnerHeld := d.peat.plog.committed - d.peat.plog.released } }

/-- A paired unit may act on the heartbeat rules (R353). -/
def Dc.noClash (d : Dc) : Bool := d.fld DC.PAIR.STATUS.PREF_CLASH == 0

/-- The takeover boundary of a standby (R364). -/
def Dc.takeoverAt (d : Dc) : Dc :=
  match d.pair.takeAt with
  | none => d
  | some f =>
    let d := d.until (f * frameTicks)
    (d.takeover ((d.applyCopies.epoch + 1) % 65536)).inc DC.PAIR.TAKEOVERS.COUNT

/-- The unit becomes ACTIVE out of CLUSTER_UP (R353, R369). -/
def Dc.becomeActive (d : Dc) : Dc :=
  let d := d.takeRole roleActive d.nextEpoch
  { d with pair := { d.pair with settledRole := true, arp := [d.now, d.now + ticksSec, d.now + 2 * ticksSec] } }

/-- The listening time of a paired unit in CLUSTER_UP ends (R353). -/
def Dc.roleTimeout (d : Dc) : Dc :=
  match d.pair.listen with
  | none => d
  | some f =>
    if d.pair.settledRole ∨ d.state ≠ dcClusterUp ∨ !d.noClash then d
    else if d.pref = 1 then (d.until ((f + 64) * frameTicks)).becomeActive
    else if d.pair.hears then d
    else (d.until ((f + 4096) * frameTicks)).becomeActive

/-- A unit that is no longer active sends no more commands (R25, R351): queued frames and the words still leaving are dropped with the requests they answer. DEDUCED (log entry 111). -/
def Dc.dropCommands (d : Dc) : Dc :=
  { d with abs := { d.abs with fwd := d.abs.fwd.map fun x => (x.1, { x.2 with queue := [], out := none }) },
           ports := d.ports.map fun x => (x.1, { x.2 with tx := [] }) }

/-- Demotion to ISOLATED (R363). -/
def Dc.demote (d : Dc) : Dc :=
  let gone := d.trg.caps.length + d.trg.tombs.length
  let d := (d.takeRole roleIsolated d.epoch).dropCommands
  let d : Dc := { d with trg := { d.trg with caps := [], tombs := [] }, abs := { d.abs with held := [] },
                         pair := { d.pair with mustConfirm := false, handover := none, final := false, ask := none, ready := none } }
  (((d.add DC.PAIR.DISCARDED.COUNT gone).set DC.TRG.STATUS.IN_FLIGHT 0).set DC.PAIR.STATUS.HOLD 0).inc DC.PAIR.DEMOTIONS.COUNT

/-- The DF640s named in PART (R233). -/
def Dc.named (d : Dc) (n : Nat) : Bool :=
  if n < 32 then (d.fld DC.TRG.PART_LO.MASK).testBit n else (d.fld DC.TRG.PART_HI.MASK).testBit (n - 32)

/-- The replies of one frame to the ownership READs (R361 to R363, R365). -/
def Dc.ownershipCheck (d : Dc) (replies : List OwnReply) : Dc :=
  let f := d.frame
  let d := replies.foldl (fun (d : Dc) (r : OwnReply) =>
    if r.valid then { d with pair := { d.pair with dfEpoch := some (match d.pair.dfEpoch with | some e => epochMax r.epoch e | none => r.epoch % 65536) } } else d) d
  let other := replies.any fun r => r.valid && (epochHigher r.epoch d.epoch || (r.epoch == d.epoch && r.source == 1 - d.homing))
  if !d.active ∨ !d.paired then d
  else if other then d.demote
  else
    let count := ((List.range 64).filter fun n => d.named n).length
    let got := ((List.range 64).filter fun n => d.named n && replies.any fun r => r.n.val == n).length
    if count < 2 * got ∧ replies.all (fun r => r.valid && r.epoch == d.epoch && r.source == d.homing) then
      let run := if d.pair.confirmed ≠ 0 ∧ d.pair.confirmFrame + 1 = f then d.pair.confirmed + 1 else 1
      let run := if d.fld DC.PAIR.STATUS.HOLD = 1 ∧ f < d.pair.holdFrom + 6 then 0 else run
      let d : Dc := { d with pair := { d.pair with confirmed := run, confirmFrame := f, mustConfirm := false } }
      let d := if d.fld DC.PAIR.STATUS.HOLD = 1 ∧ 2 ≤ run then
          let d := d.set DC.PAIR.STATUS.HOLD 0
          if d.pstate = psSync then d.takePstate psCatchup else d
        else d
      d.releaseReplies
    else { d.inc DC.PAIR.CONFIRM_FAIL.COUNT with pair := { d.pair with confirmed := 0 } }

/-- In SYNC a copy counts as acknowledged, or complete, only after the one before it (R352, R357). -/
def Dc.skips (d : Dc) (frame : Nat) : Bool := d.pstate == psSync && d.fld DC.PAIR.STATUS.HOLD == 0 && decide (d.pair.ackd < frame)

/-- The acknowledgement of a copy reaches the active unit (R357, R361). -/
def Dc.copyAcked (d : Dc) (frame : Nat) : Dc :=
  let d : Dc := if d.skips frame then d else { d with pair := { d.pair with ackd := max d.pair.ackd (frame + 1) } }
  let d := d.set DC.PAIR.LAST_ACK.FRAME frame
  let newest : Bool := match d.pair.sent with | some c => decide (c.frame + 1 ≤ d.pair.ackd) | none => true
  let d := if d.fld DC.PAIR.STATUS.HOLD = 1 ∧ d.pstate = psSync ∧ newest then d.set DC.PAIR.STATUS.HOLD 0 else d
  d.releaseReplies

/-- A valid HEARTBEAT (R352, R353, R355, R363, R368): `ws` are its payload words. -/
def Dc.hearHeartbeat (d : Dc) (ws : List Rec) : Dc :=
  let w := ws.getD 0 0
  let frame := rb (ws.getD 1 0) 0 48
  let role := rb w 46 2
  let ps := rb w 44 2
  let d := ((((d.set DC.PAIR.P_STATUS.EPOCH (rb w 48 16)).set DC.PAIR.P_STATUS.ROLE role).set DC.PAIR.P_STATUS.PSTATE ps).set DC.PAIR.P_STATUS.PREF (rb w 43 1)).set
    DC.PAIR.P_STATUS.RETURN_READY (rb w 42 1)
  let d := d.set DC.PAIR.P_DEPTH.FRAMES (rb (ws.getD 3 0) 16 24)
  let d : Dc := { d with pair := { d.pair with heard := max d.pair.heard (frame + 1), hears := true, missRun := 0 } }
  let d := if rb w 43 1 = d.pref ∧ d.noClash then (d.set DC.PAIR.STATUS.PREF_CLASH 1).notify 0x0301 0 else d
  let d := if d.noClash ∧ d.state = dcClusterUp ∧ !d.pair.settledRole ∧ role = roleActive then
      ({ d with pair := { d.pair with settledRole := true } } : Dc).takeRole roleStandby (rb w 48 16) else d
  let d := if d.role = roleIsolated ∧ role = roleActive ∧ d.noClash then (d.takeRole roleStandby (rb w 48 16)).catchup else d
  let d := if d.pstate = psAlone ∨ d.pstate = psLost then { d.catchup with pair := { d.catchup.pair with takeAt := none } } else d
  let d := if d.role = roleStandby ∧ role = roleActive then
      let d := if d.pair.settledRole then d.set DC.PAIR.EPOCH.EPOCH (rb w 48 16) else d
      if d.frame < frame then { d with now := frame * frameTicks + d.now % frameTicks }.indexJump frame else d
    else d
  let d := if d.active ∧ role ≠ roleActive ∧ (ps = psSync ∨ ps = psCatchup) then d.takePstate ps else d
  let d := if d.active ∧ rb w 41 1 = 1 then d.copyAcked (rb (ws.getD 2 0) 0 48) else d
  match d.pair.ask with
  | some r =>
    if role = roleActive ∧ !d.active then
      ({ d with pair := { d.pair with ask := none } } : Dc).answer { r with status := 0, payload := bytesBE 2 (rb w 48 16) }
    else d
  | none => d

/-- A block of a copy arrives; with the last one the copy is complete and the standby acknowledges it at once (R355, R357). What it
carries is the copy the partner has sent (R356 gives no coding). -/
def Dc.hearCopy (d : Dc) (partner : Dc) : Dc :=
  match partner.pair.sent with
  | none => d
  | some c =>
    let g := d.pair.got + 1
    if c.blocks ≤ g then
      if c.frame + 1 ≤ d.pair.ackd ∧ !c.final then { d with pair := { d.pair with got := 0 } }
      else
        let d : Dc := { d with pair := { d.pair with got := 0, complete := d.pair.complete ++ [c], ackd := c.frame + 1, gap := d.pair.gap || d.skips c.frame } }
        (d.set DC.PAIR.LAST_ACK.FRAME c.frame).heartbeat true
    else { d with pair := { d.pair with got := g } }

/-- A Causeway receiver takes a slot that is not a marker (R144, R354). The answer says whether the lane must retrain. -/
def Dc.causeReceive (d : Dc) (l k : Nat) (line : List Bool) (partner : Dc) : Dc × Bool :=
  let x := d.lane l
  if x.state ≠ lRun then (d, false)
  else
    match upWords l k line with
    | none => (d, false)
    | some ws =>
      let h := ws.getD 0 0
      if h = idleWord ∨ h = sleepWord ∨ h = wakeWord ∨ rb h 48 16 = 0xA7E5 then (d, false)
      else if !causeOk d.pref l ws then
        (d.setLane l { x with rx := { x.rx with crcRun := x.rx.crcRun + 1 } }, decide (64 ≤ x.rx.crcRun + 1))
      else if x.rx.lastSeq.any (fun s => !newer (rb h 32 24) s) then (d, false)
      else
        let d := d.setLane l { x with rx := { x.rx with lastSeq := some (rb h 32 24), ever := true } }
        let cls := rb h 60 4
        if cls = 0 ∨ clsImage < cls then (d.inc DC.MIRE.BADREC.COUNT, false)
        else if !d.paired then (d, false)
        else if cls = clsTime then (d.hearTime l (payloadOf ws) (rb h 3 5), false)
        else if cls = clsHeartbeat then (d.hearHeartbeat (payloadOf ws), false)
        else if cls = clsCopy ∧ d.role = roleStandby then (d.hearCopy partner, false)
        else if cls = clsCatchup ∧ d.role = roleStandby then ({ d with pair := { d.pair with image := d.pair.image + 1 } }, false)
        else (d, false)

/-- DT moves on to a tick of the present frame, or of the next one when it has passed. -/
def Dc.untilIn (d : Dc) (tick : Nat) : Dc :=
  d.until (if d.now % frameTicks ≤ tick then d.frame * frameTicks + tick else (d.frame + 1) * frameTicks + tick)

/-- Tick 16,384: the heartbeat check (R355, R357, R364). -/
def Dc.heartbeatCheck (d : Dc) : Dc :=
  let d := d.untilIn 16384
  if !d.paired ∨ d.state < dcHostwait ∨ d.state = dcLimp then d
  else if d.frame < d.pair.heard then
    let d := if d.pstate = psSync then d.set DC.PAIR.STATUS.SYNC_FRAMES (min 65535 (d.fld DC.PAIR.STATUS.SYNC_FRAMES + 1)) else d
    if d.role = roleStandby ∧ d.pair.late ∧ d.pstate = psSync then (d.inc DC.PAIR.COPY_LATE.COUNT).catchup
    else { d with pair := { d.pair with late := false } }
  else
    let d := d.inc DC.PAIR.HB_MISS.COUNT
    let d : Dc := { d with pair := { d.pair with missRun := d.pair.missRun + 1, late := false } }
    if d.pair.missRun < 2 ∨ d.pstate = psAlone ∨ d.pstate = psLost then d
    else
      let sync := d.pstate == psSync
      let d := d.takePstate psLost
      if d.role ≠ roleStandby ∨ d.state < dcClusterUp ∨ !d.noClash then d
      else if sync then { d with pair := { d.pair with takeAt := some (d.frame + 1) } }
      else (d.set DC.PAIR.STATUS.NO_TAKE 1).notify 0x0302 0

/-- Tick 8,192 at the standby: the copy of the frame two before must be complete (R357, R368). -/
def Dc.copyDeadline (d : Dc) : Dc :=
  let d := d.untilIn 8192
  if d.role = roleStandby ∧ d.pstate = psSync ∧ (d.pair.ackd + 1 < d.frame ∨ d.pair.gap) then { d with pair := { d.pair with late := true } } else d

/-- Tick 16,384 at the active unit: the copy of the frame two before must be acknowledged (R357, R361). -/
def Dc.ackDeadline (d : Dc) : Dc :=
  let d := d.untilIn 16384
  if d.active ∧ d.paired ∧ d.pstate = psSync ∧ d.pair.ackd + 1 < d.frame ∧ d.fld DC.PAIR.STATUS.HOLD = 0 then
    { d.set DC.PAIR.STATUS.HOLD 1 with pair := { d.pair with holdFrom := d.pair.ackd, confirmed := 0 } }
  else d

/-- PAIR_HANDOVER (R369): a status; an accepted one is answered when the partner is ACTIVE. -/
def Dc.pairHandover (d : Dc) (ask : Reply) : Dc × Nat :=
  if !d.active then (d, 7)
  else if d.pstate ≠ psSync ∨ d.fld DC.PAIR.STATUS.SYNC_FRAMES < 64 ∨ d.pair.handover.isSome then (d, 1)
  else ({ d with pair := { d.pair with handover := some (d.frame + 1), ask := some ask } }, 0)

/-- A handover is abandoned (R368, R369): the active unit resumes two boundaries after `h` and decides the groups it left. -/
def Dc.handoverFails (d : Dc) (h : Nat) : Dc :=
  let d := d.until ((h + 2) * frameTicks)
  let d := d.set DC.TRG.CTRL.ISSUE 1
  let from' := match d.pair.sent with | some c => c.trg.group | none => d.trg.group
  let trigs := d.trg.undecided
  let d : Dc := { d with trg := { d.trg with undecided := [] } }
  let d := if d.fld DC.TRG.CTRL.EN = 1 then d.decideSpan trigs (groupSlices * from') (groupSlices * (d.trg.group - from')) else d
  let ask := d.pair.ask
  let d : Dc := { d with pair := { d.pair with handover := none, final := false, ask := none } }
  match ask with
  | some r => d.answer { r with status := 0x0A }
  | none => d

/-- The next step of a handover (R368). At the active unit: boundary h, then its end. At the standby: the final copy is complete and
applied, or abandoned. -/
def Dc.handoverStep (d : Dc) : Dc :=
  if d.active then
    match d.pair.handover with
    | none => d
    | some h =>
      if !d.pair.final then
        let d := (d.until (h * frameTicks)).set DC.TRG.CTRL.ISSUE 0
        { d with pair := { d.pair with final := true, ready := some { (d.pair.ready.getD (d.makeCopy (h - 1))) with final := true } } }
      else if h ≤ d.pair.ackd then
        let d := d.until ((h + 1) * frameTicks)
        let d := (d.takeRole roleStandby d.epoch).dropCommands
        let d : Dc := { d with trg := { d.trg with caps := [], tombs := [], away := [] }, pair := { d.pair with handover := none, final := false, settledRole := true } }
        ((d.set DC.TRG.STATUS.IN_FLIGHT 0).inc DC.PAIR.RETURNS.COUNT).catchup
      else d.handoverFails h
  else if d.role = roleStandby then
    match d.pair.complete.find? (·.final) with
    | none => d
    | some c =>
      let d := d.until ((c.frame + 2) * frameTicks)
      let e := (c.epoch + 1) % 65536
      ((d.takeover e).catchup).inc DC.PAIR.RETURNS.COUNT
  else d

/-- PAIR_FORCE (R369): a status. -/
def Dc.pairForce (d : Dc) (seq : Nat) : Dc × Nat :=
  if d.active ∨ d.pstate = psSync then (d, 1)
  else if seq < d.trg.next then (d, 3)
  else
    let d := ({ d with pair := { d.pair with settledRole := true } } : Dc)
    let d : Dc := if d.pair.applied.isNone ∧ d.pair.complete.isEmpty then { d with trg := { d.trg with caps := [], away := [], undecided := [] } } else d
    let d := d.applyCopies
    let d : Dc := { d with trg := { d.trg with next := seq % 2 ^ 48 } }
    ((d.takeover d.nextEpoch).inc DC.PAIR.TAKEOVERS.COUNT, 0)

/-- The next gratuitous ARP frame on each port (R365). -/
def Dc.gratuitousArp (d : Dc) : Dc :=
  match d.pair.arp with
  | [] => d
  | t :: l =>
    let d := d.until t
    let d : Dc := { d with pair := { d.pair with arp := l } }
    if d.active then (d.frameOut (.arpGratuitous 0)).frameOut (.arpGratuitous 1) else d

end Sys2Proof.Machine
end

