-- ==== Sys2Proof/Machine/DcBus.lean ====
section
/-! DEFINITION. Register reads and writes of the DC64 (R12 to R18, R219, R241, R248, R252, R277, R294, R307, R473 to R484): mapping,
refusals, computed registers, latches, clearing reads and what a write starts. -/
namespace Sys2Proof.Machine

/-- The blocks of the DC64 byte space: base and size (R474). -/
def dcBlocks : List (Nat × Nat) :=
  [(0x0000, 0x1000), (0x1000, 0x1000), (0x2000, 0x1000), (0x3000, 0x1000), (0x4000, 0x1000), (0x5000, 0x1000), (0x6000, 0x1000), (0x7000, 0x1000),
    (0x8000, 0x1000), (0x9000, 0x1000), (0xA000, 0x1000), (0xB000, 0x1000), (0xC000, 0x4000), (0x10000, 0x1000), (0x40000, 0x40000),
    (0x80000, 0x40000), (0x400000, 0x400000)]

/-- Whether `n` registers from an aligned address lie whole in one block (R12, R475, R476). -/
def dcMapped (a n : Nat) : Bool := a % 4 == 0 && dcBlocks.any fun b => decide (b.1 ≤ a ∧ a + 4 * n ≤ b.1 + b.2)

/-- The context window (R219, R229): base and end. -/
def ctxWindow : Nat := 0x500000
def ctxWindowEnd : Nat := ctxWindow + 64 * 40960
def inWindow (a : Nat) : Bool := decide (ctxWindow ≤ a ∧ a < ctxWindowEnd)

/-- The OR conditions of `DC.ID.SUMMARY` (R482, R483). -/
def Dc.summary (d : Dc) : Word :=
  let b (i : Nat) (x : Bool) : Nat := x.toNat * 2 ^ i
  let on (f : Fd) : Bool := d.fld f == 1
  BitVec.ofNat 32 (
    b 0 (on DC.BOOT.STATE.FUSE_ERR || d.state == dcLimp)
    + b 1 (on DC.MEM.STATUS.LOG_FULL || on DC.MEM.STATUS.STUCK_ANY || (List.range 10).any (fun a => on (DC.MEM.BUCKET.OVF a)) || on DC.MEM.STATUS.LIMP)
    + b 2 (on DC.LDG.STATUS.FAULT_ANY || d.staleAny)
    + b 3 (on DC.TIME.STATUS.STEER_LIMIT || on DC.TIME.STATUS.TXQ_FULL || on DC.TIME.STATUS.SEG_WRAP || on DC.TIME.STATUS.ALIGN_DRIFT || d.servo != svTrack)
    + b 4 (on DC.PEAT.STATUS.SOFT || on DC.PEAT.STATUS.HARD || on DC.PEAT.STATUS.FENCE_MISSING || on DC.PEAT.STATUS.MAP_POISON)
    + b 5 (on DC.TRG.STATUS.SHRUNK || on DC.TRG.STATUS.TQ_FULL || on DC.TRG.STATUS.IF_FULL)
    + b 6 (on DC.QLF.STATUS.STOPPED || on DC.QLF.STATUS.HOLD_FULL)
    + b 7 (on DC.PAIR.STATUS.HOLD || on DC.PAIR.STATUS.PREF_CLASH || on DC.PAIR.STATUS.NO_TAKE)
    + b 8 ((List.range 64).any fun n => on (DC.IBR.STAT.DEGRADED n) || on (DC.IBR.STAT.SKEW_OVER n) || d.fld (DC.IBR.STAT.SYNC_LOST n) != 0)
    + b 9 (on DC.ABS.STATUS.KEY_BLANK || on DC.ABS.STATUS.NQ_OVF)
    + d.noticeClasses % 32 * 2 ^ 16 + b 21 d.irq)

/-- The low and high words of a computed value whose two registers stand at `lo` and `lo + 4`. -/
def loHi (a lo v : Nat) : Option Word :=
  if a = lo then some (BitVec.ofNat 32 v) else if a = lo + 4 then some (BitVec.ofNat 32 (v / 2 ^ 32)) else none

/-- The first of some optional words. -/
def firstOf : List (Option Word) → Word → Word
  | [], w => w
  | some x :: _, _ => x
  | none :: t, w => firstOf t w

/-- Position k of a log: 0 HEAD, 1 COMMIT, 2 SENT, 3 RELEASE, 4 LIMIT (R320). -/
def posValue (head : Nat) (x : PeatPos) (k : Nat) : Nat := [head, x.commit, x.sent, x.release, x.limit].getD k 0

/-- Total a of the store (R320). -/
def PeatSt.total (p : PeatSt) (a : Nat) : Nat := p.totals.getD a 0 % 2 ^ 48

/-- The segment shown by SEG_SEL (R190). -/
def Dc.segShown (d : Dc) : Option Seg := FMap.get none d.tim.segs (d.fld DC.TIME.SEG_SEL.INDEX)

/-- One of the segment registers at 0x084 to 0x098 (R190). -/
def segWord (x : Option Seg) (a : Nat) : Option Word :=
  let s := x.getD {}
  if a = DC.TIME.SEG_DT_LO.addr then some (BitVec.ofNat 32 s.d0)
  else if a = DC.TIME.SEG_DT_HI.addr then some (BitVec.ofNat 32 (s.d0 / 2 ^ 32))
  else if a = DC.TIME.SEG_SEC_LO.addr then some (BitVec.ofNat 32 s.sec)
  else if a = DC.TIME.SEG_SEC_HI.addr then
    some (BitVec.ofNat 32 (s.sec / 2 ^ 32 % 65536 + s.cause % 4 * 2 ^ 16 + s.master % 16 * 2 ^ 18 + x.isSome.toNat * 2 ^ 22))
  else if a = DC.TIME.SEG_NS.addr then some (BitVec.ofNat 32 (s.ns % 2 ^ 30))
  else if a = DC.TIME.SEG_SUB.addr then some (BitVec.ofNat 32 (s.sub % 2 ^ 20))
  else none

/-- The word of the context window at an address (R229). -/
def Dc.windowWord (d : Dc) (a : Nat) : Word :=
  let i := (a - ctxWindow) / 64
  let w := (a - ctxWindow) / 4 % 16
  BitVec.ofNat 32 (ctxGet (d.ctxLine i) (w / 2) (if w % 2 = 0 then 0 else 32) 32)

/-- Registers of TIME and ID that show what the chip computes. The fine reading of a moment that the model does not resolve within its
tick is free. DESIGN CHOICE (log entry 41). -/
def Dc.shownTime (d : Dc) (a : Nat) : Option Word :=
  if a = DC.ID.SUMMARY.addr then some d.summary
  else if a = DC.TIME.NOW_FINE.addr then some (BitVec.ofNat 32 (Config.free 40 [d.now] % 1024))
  else match loHi a DC.TIME.NOW_LO.addr d.now with
    | some w => some w
    | none => segWord d.segShown a

/-- Registers of the Mire and of the trigger engine that show state held elsewhere (R227, R266). -/
def Dc.shownMire (d : Dc) (a : Nat) : Option Word :=
  if a = DC.MIRE.DEPTH.addr then some (BitVec.ofNat 32 (min (2 ^ 24 - 1) d.depthFrames))
  else if a = DC.TRG.MAP_SLICE.addr then
    some (BitVec.ofNat 32 ((groupSlices * d.trg.group + frameSlices - 1) % frameSlices * (if d.trg.group = 0 then 0 else 1)
      + (d.stale (d.fld DC.TRG.MAP_SEL.N)).toNat * 2 ^ 14))
  else match loHi a DC.MIRE.NEXT_LO.addr (d.mire.next % slotMod) with
    | some w => some w
    | none => match loHi a DC.MIRE.OLDEST_LO.addr ((d.oldestSlot.map (·.1)).getD d.mire.oldest % slotMod) with
      | some w => some w
      | none => match loHi a DC.MIRE.OLDEST_DT_LO.addr (d.oldestArr.getD 0 / 1024) with
        | some w => some w
        | none => match loHi a DC.TRG.SEQ_LO.addr (d.trg.next % 2 ^ 48) with
          | some w => some w
          | none => loHi a DC.TRG.MAP_LO.addr (FMap.get 0 d.trg.map (d.fld DC.TRG.MAP_SEL.N))

/-- Registers of the store that show state held elsewhere (R320). -/
def Dc.shownPeat (d : Dc) (a : Nat) : Option Word :=
  if a = DC.PEAT.P_LOG_ID.addr then some (BitVec.ofNat 32 d.peat.plog.id)
  else
    let part (k : Nat) : Option Word :=
      match loHi a (DC.PEAT.POS_LO.addr k) (posValue d.peat.head d.peat.log k) with
      | some w => some w
      | none => loHi a (DC.PEAT.P_POS_LO.addr k) (posValue d.peat.plog.commit d.peat.plog k)
    match (List.range 5).filterMap part with
    | w :: _ => some w
    | [] => ((List.range 6).filterMap fun k => loHi a (DC.PEAT.LEDGER_LO.addr k) (d.peat.total k)).head?

/-- The word of the log entry shown by LOG_SEL (R337, R349). -/
def Dc.logWord (d : Dc) (w : Nat) : Word :=
  match d.logAt (d.fld DC.MEM.LOG_SEL.INDEX) with
  | some e => BitVec.ofNat 32 (rb (e.words.getD (w / 2) 0) (if w % 2 = 0 then 0 else 32) 32)
  | none => 0

/-- Registers of ABS, PAIR, MEM, LDG and FOLD that show state held elsewhere (R294, R349, R370, R425, R460). -/
def Dc.shownMisc (d : Dc) (a : Nat) : Option Word :=
  if a = DC.ABS.STATUS.addr then some (withField (d.word a) DC.ABS.STATUS.IRQ.lo 1 d.irq.toNat)
  else if a = DC.ABS.NOTICE_PEND.addr then some (BitVec.ofNat 32 d.abs.notices.length)
  else if a = DC.PAIR.STATUS.addr then some (withField (d.word a) DC.PAIR.STATUS.RETURN_READY.lo 1 d.returnReady.toNat)
  else if a = DC.MEM.STATUS.addr then
    some (withField (d.word a) DC.MEM.STATUS.OVF_ANY.lo 1 ((List.range 10).any fun k => d.fld (DC.MEM.BUCKET.OVF k) == 1).toNat)
  else if a = DC.LDG.STATUS.addr then some (withField (d.word a) DC.LDG.STATUS.STALE_ANY.lo 1 d.staleAny.toNat)
  else match elemOf (DC.LDG.PSTAT.addr 0) 64 128 a with
  | some n => some (withField (d.word a) (DC.LDG.PSTAT.STALE n).lo 1 (d.stalePort n).toNat)
  | none => match elemOf (DC.MEM.LOG_W.addr 0) 8 4 a with
    | some w => some (d.logWord w)
    | none =>
      if (elemOf (DC.MEM.BUCKET.addr 10) 6 4 a).isSome then some 0
      else match elemOf (DC.FOLD.RESULT_LO.addr 0) 16 64 a with
        | some x => some (BitVec.ofNat 32 (d.foldShown x))
        | none => (elemOf (DC.FOLD.RESULT_HI.addr 0) 16 64 a).map fun x => BitVec.ofNat 32 (d.foldShown x / 2 ^ 32)

/-- The word a register shows: what is stored, or what the chip computes. -/
def Dc.shown (d : Dc) (a : Nat) : Word :=
  if inWindow a then d.windowWord a
  else if a < 0x6000 ∧ 0x4000 ≤ a ∨ a < 0x1000 then firstOf [d.shownTime a] (d.word a)
  else if a / 0x1000 = 6 ∨ a / 0x40000 = 1 then firstOf [d.shownMire a] (d.word a)
  else if a / 0x1000 = 10 then firstOf [d.shownPeat a] (d.word a)
  else firstOf [d.shownMisc a] (d.word a)

/-- Key of a requester's latch: requester 0 to 7 is a host entry, 8 the core, 9 the state copy (R477). -/
def dcLatchKey (req a : Nat) : Nat := 2 ^ 24 * req + a

/-- The `_LO` registers whose read latches the register after them (R190, R227, R266, R294, R320, R471, R482). -/
def latchingLo (a : Nat) : Bool :=
  a == DC.ID.DIE_LO.addr || a == DC.TIME.NOW_LO.addr || a == DC.TIME.PPS_IN_LO.addr || a == DC.MIRE.NEXT_LO.addr || a == DC.MIRE.OLDEST_LO.addr
    || a == DC.MIRE.OLDEST_DT_LO.addr || a == DC.TRG.SEQ_LO.addr || a == DC.TRG.MAP_LO.addr || a == DC.LDG.SNAP_FRAME_LO.addr
    || (elemOf (DC.FOLD.RESULT_LO.addr 0) 16 64 a).isSome || (elemOf (DC.PEAT.POS_LO.addr 0) 5 8 a).isSome
    || (elemOf (DC.PEAT.LEDGER_LO.addr 0) 6 8 a).isSome || (elemOf (DC.PEAT.P_POS_LO.addr 0) 5 8 a).isSome
    || (elemOf (DC.LDG.TOT_LO.addr 0) 15 8 a).isSome
    || (decide (DC.LDG.ACCT_LO.addr 0 0 ≤ a ∧ a < DC.LDG.ACCT_LO.addr 64 0) && decide ((a - DC.LDG.ACCT_LO.addr 0 0) % 128 < 80) && a % 8 == 0)

/-- The registers that a read latches (R477). -/
def dcLatched (a : Nat) : List Nat :=
  if a = DC.TIME.NOW_LO.addr ∨ a = DC.TIME.PPS_IN_LO.addr then [a + 4, a + 8] else if latchingLo a then [a + 4] else []

/-- Whether a register reads as its requester's latch. -/
def dcIsLatched (a : Nat) : Bool :=
  (decide (4 ≤ a) && latchingLo (a - 4)) || a == DC.TIME.NOW_FINE.addr || a == DC.TIME.PPS_IN_FINE.addr

/-- Words of SRAM arrays that a read of a register touches: array and word (R334). DESIGN CHOICE (log entry 58). -/
def touched (map a : Nat) : List (Nat × Nat) :=
  if inWindow a then [(arrContext, (a - ctxWindow) / 8)]
  else if a = DC.TRG.MAP_LO.addr ∨ a = DC.TRG.MAP_HI.addr then [(arrTrigger, map)]
  else if 0x50000 ≤ a ∧ a < 0x70000 then
    let j := (a - 0x50000) / 256
    let o := (a - 0x50000) % 256
    if o < 0x90 then [(arrTrigger, 64 + patWords * j + o / 8)] else []
  else if 0x90000 ≤ a ∧ a < 0xB0000 then [(arrMask, 1280 * ((a - 0x90000) / 0x4000) + (a - 0x90000) % 0x4000 / 8)]
  else []

/-- Whether the data of a read is poisoned, or belongs to an array that failed its self-test in LIMP (R334, R348). -/
def Dc.readPoison (d : Dc) (a : Nat) : Bool :=
  (touched (d.fld DC.TRG.MAP_SEL.N) a).any fun x =>
    d.sramMark x.1 x.2 != 0 || (d.state == dcLimp && (d.fld DC.MEM.SELFTEST.FAIL).testBit (8 + x.1))

/-- Read one register for a requester: the value, and the state after latches are taken and RC fields clear (R14, R17, R180, R477).
The state copy (requester 9) clears nothing. -/
def Dc.readReg (d : Dc) (req a : Nat) : Dc × Word :=
  if a = DC.TIME.TXQ_HEAD.addr ∧ req ≠ 9 then d.txqHead
  else
    let v := d.shown a
    let r := findReg dcTable a
    let out := if dcIsLatched a then FMap.get 0 d.latch (dcLatchKey req a) else match r with | some r => r.readable v | none => if inWindow a then v else 0
    let d := (dcLatched a).foldl (fun (d : Dc) (h : Nat) => { d with latch := FMap.put 0 d.latch (dcLatchKey req h) (d.shown h) }) d
    match r with
    | some r => (if req = 9 then d else d.setWord a (r.cleared (d.word a)), out)
    | none => (d, out)

/-- A read of consecutive registers in ascending order (R476). -/
def Dc.readRegs (d : Dc) (req : Nat) : Nat → Nat → Dc × List Word
  | _, 0 => (d, [])
  | a, n + 1 =>
    let x := d.readReg req a
    let y := Dc.readRegs x.1 req (a + 4) n
    (y.1, x.2 :: y.2)

/-- The first poisoned register of a read is consumed: a bite (R334). -/
def Dc.readBite (d : Dc) (a n : Nat) : Dc :=
  let ws := (List.range n).flatMap fun i => touched (d.fld DC.TRG.MAP_SEL.N) (a + 4 * i)
  match ws.find? fun x => d.sramMark x.1 x.2 != 0 with
  | some x => d.bite logSram x.1 x.2
  | none => d

/-- A READ of `n` registers: a status, and the values (R12, R334, R411, R475). -/
def Dc.busRead (d : Dc) (req a n : Nat) : Dc × Nat × List Word :=
  if n = 0 ∨ 64 < n ∨ !dcMapped a n then (d, stBadParam, [])
  else if (List.range n).any fun i => d.readPoison (a + 4 * i) then (d.readBite a n, stPoison, [])
  else let x := d.readRegs req a n; (x.1, stOk, x.2)

/-- Refusals of the trigger registers (R241, R248, R252, R266, R307); `m` is the DC64 with every value of the change in its register. -/
def Dc.trgStatus (d m : Dc) (a : Nat) (v : Word) : Nat :=
  if a = DC.TRG.CTRL.addr then
    if fieldOf v 0 1 = 1 ∧ (d.fld DC.PEAT.CTRL.EN = 0 ∨ d.fld DC.PEAT.STATUS.READY = 0) then stLocked else stOk
  else if a = DC.TRG.WM_WAIT.addr then (if fieldOf v 0 16 < 4096 then stBadParam else stOk)
  else if a = DC.TRG.GUARD.addr then (if m.windowLimit < (m.longestWindow : Int) then stWindow else stOk)
  else if a = DC.TRG.WIN_MAX.addr then
    if fieldOf v 0 11 = 0 ∨ 1024 < fieldOf v 0 11 then stBadParam else if m.windowLimit < (m.longestWindow : Int) then stWindow else stOk
  else if a = DC.TRG.SEQ_LO.addr ∨ a = DC.TRG.SEQ_HI.addr then
    if d.state = dcHostwait ∨ d.state = dcClusterUp then stOk else stLocked
  else if (a = DC.TRG.PRE.addr 3 ∨ a = DC.TRG.POST.addr 3) ∧ fieldOf v 0 24 ≠ 0 then stBadParam
  else if a = DC.TRG.HOLDOFF.addr 3 ∧ fieldOf v 0 16 ≠ 0 then stBadParam
  else
    let window (k : Nat) : Nat := if m.windowLimit < (sliceTicks * (m.fld (DC.TRG.PRE.SLICES (k + 1)) + m.fld (DC.TRG.POST.SLICES (k + 1))) : Nat) then stWindow else stOk
    match elemOf (DC.TRG.PRE.addr 1) 5 32 a with
    | some k => window k
    | none => match elemOf (DC.TRG.POST.addr 1) 5 32 a with
      | some k => window k
      | none =>
        if 0x50000 ≤ a ∧ a < 0x70000 then
          let j := (a - 0x50000) / 256
          let o := (a - 0x50000) % 256
          if o = 0x90 then d.patternStatus m j v
          else if o < 0x98 ∧ d.fld (DC.TRG.PCTRL.EN j) = 1 then stBusy
          else stOk
        else stOk

/-- Refusals of the registers of the other blocks that depend on state (R166, R277, R294, R320, R370, R436, R438, R443, R451); `m` as above. -/
def Dc.miscStatus (d m : Dc) (a : Nat) (v : Word) : Nat :=
  if a = DC.BOOT.CTRL.addr then
    if fieldOf v 0 1 = 1 ∧ d.state ≠ dcHostwait then stState
    else if fieldOf v 1 1 = 1 ∧ ¬(d.state = dcClusterUp ∧ (d.pair.settledRole || !d.paired)) then stState
    else stOk
  else if a = DC.BOOT.RESET.addr then (if v = 0xB007 then stOk else stBadParam)
  else if a = DC.BOOT.DROOP_CFG.addr then (if droopBad v 670 then stBadParam else stOk)
  else if a = DC.PAIR.CFG.addr then (if fieldOf v 0 1 ≠ d.fld DC.PAIR.CFG.PAIRED ∧ d.state ≠ dcHostwait then stLocked else stOk)
  else if a = DC.TIME.SET_HI.addr ∧ fieldOf v 16 1 = 1 then d.epochStatus (m.fld DC.TIME.SET_LO.FRAME + 2 ^ 32 * fieldOf v 0 16)
  else if a = DC.PEAT.CTRL.addr then (d.storeEn v).2
  else if a = DC.PEAT.SOFT_RES.addr then (if d.peat.flash.u < 2 * fieldOf v 0 28 then stBadParam else stOk)
  else if 0x9000 ≤ a ∧ a < 0x9400 then (if d.foldBusy ((a - 0x9000) / 64) then stBusy else stOk)
  else if 0x90000 ≤ a ∧ a < 0xB0000 then
    if (a - 0x90000) % 0x4000 < 10240 ∧ !(d.fld DC.QLF.MASK_CTRL.LOAD).testBit ((a - 0x90000) / 0x4000) then stLocked else stOk
  else stOk

/-- The status with which a value of a change is refused, or 0; `m` is the DC64 with every value of the change in its register (R479). A reserved offset
ignores the write (R475). -/
def Dc.statusIn (d m : Dc) (a : Nat) (v : Word) : Nat :=
  match findReg dcTable a with
  | none => stOk
  | some r =>
    if (elemOf (DC.MEM.BUCKET.addr 10) 6 4 a).isSome then stOk
    else if r.refuses v ∧ a ≠ DC.TRG.GUARD.addr ∧ a ≠ DC.TRG.WIN_MAX.addr then stBadParam
    else if a / 0x40000 = 1 then d.trgStatus m a v
    else d.miscStatus m a v

/-- The word is stored as the access codes say (R14). -/
def Dc.store (d : Dc) (a : Nat) (v : Word) : Dc :=
  match findReg dcTable a with
  | none => d
  | some r => d.setWord a (r.written (d.word a) v)

/-- The status with which one write is refused, or 0. -/
def Dc.writeStatus (d : Dc) (a : Nat) (v : Word) : Nat := d.statusIn (d.store a v) a v

/-- A write to `DC.IBR.CFG[n]`: the caps and settings, then TEST, EN and INJ_ERR (R159, R164, R436). -/
def Dc.cfgWrite (d : Dc) (n : Nat) (v : Word) : Dc :=
  let en := d.fld (DC.IBR.CFG.EN n)
  let test := d.fld (DC.IBR.CFG.TEST n)
  let d := d.store (DC.IBR.CFG.addr n) v
  let d := (d.set (DC.IBR.CFG.EN n) en).set (DC.IBR.CFG.TEST n) test
  let d := ((d.portTest n (fieldOf v 13 1 == 1)).portEn n (fieldOf v 0 1 == 1)).capRetrain n
  if fieldOf v 18 1 = 1 then d.invertBit n else d

/-- Bits of `INIT`, `XOROUT` and `VALUE` above the width of a context read 0 (R292). -/
def Dc.foldMask (d : Dc) (x : Nat) : Dc :=
  let i := d.foldInit x
  let o := d.foldXor x
  let v := d.foldValue x
  ((((((d.set (DC.FOLD.INIT_LO.INIT x) i).set (DC.FOLD.INIT_HI.INIT x) (i / 2 ^ 32)).set (DC.FOLD.XOR_LO.XOROUT x) o).set (DC.FOLD.XOR_HI.XOROUT x) (o / 2 ^ 32)).set
    (DC.FOLD.VALUE_LO.VALUE x) v).set (DC.FOLD.VALUE_HI.VALUE x) (v / 2 ^ 32))

/-- A write to a Fold context (R293). -/
def Dc.foldWrite (d : Dc) (x o : Nat) (v : Word) : Dc :=
  let a := 0x9000 + 64 * x + o
  if o = 0 then
    let d := (d.store a v).foldMask x
    if fieldOf v 6 1 = 1 then d.foldStart x else d
  else if o = 0x1C ∨ o = 0x20 then let d := d.store a v; d.setFold x (d.foldValue x)
  else if o < 0x14 then (d.store a v).foldMask x
  else if o = 0x24 then d.setWord a v
  else if o = 0x28 then d.foldBytes x (bytesBE 4 (d.word (DC.FOLD.DATA_HI.addr x)).toNat ++ bytesBE 4 v.toNat)
  else if o = 0x2C then d.foldBytes x (bytesBE 4 v.toNat)
  else d.store a v

/-- Mask and pattern words of which one access writes both halves are clean again; a write of one half leaves its word as it was
marked (R336). A context line becomes clean only by a write of its 16 words (R335). -/
def Dc.cleanRun (d : Dc) (a n : Nat) : Dc :=
  (List.range n).foldl (fun (d : Dc) (i : Nat) =>
    let x := a + 4 * i
    if x % 8 = 0 ∧ i + 1 < n ∧ !inWindow x ∧ x ≠ DC.TRG.MAP_HI.addr then
      (touched 0 x).foldl (fun (d : Dc) (t : Nat × Nat) => d.sramClean t.1 t.2 (t.2 + 1)) d
    else d) d

/-- Carry out one write that is not refused, with what it starts (R159, R166, R219, R241, R277, R289, R293, R339, R436, R438, R443,
R470). -/
def Dc.putReg (d : Dc) (a : Nat) (v : Word) : Dc :=
  if inWindow a then d.ctxWrites ((a - ctxWindow) / 64) ((a - ctxWindow) / 4 % 16) [v]
  else if 0x9000 ≤ a ∧ a < 0x9400 then d.foldWrite ((a - 0x9000) / 64) (a % 64) v
  else if (elemOf (DC.MEM.BUCKET.addr 10) 6 4 a).isSome then d
  else if a = DC.TRG.CTRL.addr then d.engineEn (fieldOf v 0 1 == 1)
  else if a = DC.TRG.SEQ_LO.addr then { d with trg := { d.trg with next := d.trg.next - d.trg.next % 2 ^ 32 + v.toNat } }
  else if a = DC.TRG.SEQ_HI.addr then { d with trg := { d.trg with next := d.trg.next % 2 ^ 32 + fieldOf v 0 16 * 2 ^ 32 } }
  else if a = DC.PEAT.CTRL.addr then (d.storeEn v).1
  else if a = DC.PEAT.SOFT_RES.addr then (d.store a v).peatRefresh
  else if a = DC.BOOT.RESET.addr then { d with bt := { d.bt with softAt := some (d.now + ticksMs) } }
  else if a = DC.MEM.LOG_ACK.addr then d.logAck (fieldOf v 0 10)
  else match elemOf (DC.TRG.PCTRL.addr 0) 512 256 a with
    | some j => d.patternEn j v
    | none => match elemOf (DC.IBR.CFG.addr 0) 64 64 a with
      | some n => d.cfgWrite n v
      | none =>
        if a = DC.QLF.MASK_CTRL.addr then
          (List.range 8).foldl (fun (d : Dc) (m : Nat) =>
            if v.toNat.testBit m = (d.fld DC.QLF.MASK_CTRL.LOAD).testBit m then d else d.maskLoad m (v.toNat.testBit m)) d
        else
          let d := d.store a v
          if a = DC.BOOT.CTRL.addr then
            let d := if fieldOf v 0 1 = 1 then { d with bt := { d.bt with goTo := some dcClusterUp } } else d
            if fieldOf v 1 1 = 1 then { d with bt := { d.bt with goTo := some dcRun } } else d
          else if a = DC.TIME.SET_HI.addr ∧ fieldOf v 16 1 = 1 then d.epochGo
          else if a = DC.CMP.CTRL.addr then
            let d := if fieldOf v 11 1 = 1 then d.lzdFlush 0 else d
            if fieldOf v 12 1 = 1 then d.lzdFlush 1 else d
          else if a = DC.TIME.PPS_CTRL.addr then d.ppsMode
          else if a = DC.LDG.CTRL.addr ∧ fieldOf v 0 1 = 1 then { d with ldg := { d.ldg with snap := true } }
          else d

/-- Write consecutive registers (R476, R479); a run of the context window is written as one access (R335). -/
def Dc.putRegs (d : Dc) : Nat → List Word → Dc
  | _, [] => d
  | a, v :: t =>
    if inWindow a then d.ctxWrites ((a - ctxWindow) / 64) ((a - ctxWindow) / 4 % 16) ((v :: t).take ((ctxWindowEnd - a) / 4))
    else Dc.putRegs (d.putReg a v) (a + 4) t

/-- The values of a block in their registers, with nothing that they start (R479). -/
def Dc.storeAll (d : Dc) : Nat → List Word → Dc
  | _, [] => d
  | a, v :: t => Dc.storeAll (if inWindow a then d else d.store a v) (a + 4) t

/-- The first refused value of a block write: its index and status; every value is checked before any is written, as part of the one change (R411, R479). -/
def Dc.blockStatus (d m : Dc) : Nat → Nat → List Word → Option (Nat × Nat)
  | _, _, [] => none
  | a, i, v :: t => if d.statusIn m a v = 0 then Dc.blockStatus d m (a + 4) (i + 1) t else some (i, d.statusIn m a v)

/-- One register write with its status (R12, R14, R475). -/
def Dc.busWrite (d : Dc) (a : Nat) (v : Word) : Dc × Nat :=
  if !dcMapped a 1 then (d, stBadParam)
  else
    let s := d.writeStatus a v
    if s = 0 then (d.putReg a v, 0) else (d, s)

/-- A block write: a status, and the index of the first refused value (R411, R476). A range that is not mapped whole is refused with
no index of its own; the index is then 0. -/
def Dc.busBlock (d : Dc) (a : Nat) (vs : List Word) : Dc × Nat × Nat :=
  if vs.length = 0 ∨ 64 < vs.length ∨ !dcMapped a vs.length then (d, stBadParam, 0)
  else
    match d.blockStatus (d.storeAll a vs) a 0 vs with
    | some (i, s) => (d, s, i)
    | none => ((d.putRegs a vs).cleanRun a vs.length, stOk, 0)

end Sys2Proof.Machine
end

