-- ==== Sys2Proof/Machine/Absyn.lean ====
section
/-! DEFINITION. The Absyn interface of the DC64 (R399 to R424): acceptance of packets, sessions and replay, the commands to the
DC64, forwarding to DF640s with its replies, notices, ARP and the rate limit. -/
namespace Sys2Proof.Machine

/-- Absyn opcodes (R411). -/
def abRead : Nat := 0x0101
def abWrite : Nat := 0x0102
def abWriteBlock : Nat := 0x0103
def abSessionOpen : Nat := 0x0201
def abSessionClose : Nat := 0x0202
def abSoft : Nat := 0x0301
def abWindow : Nat := 0x0302
def abNoticeAck : Nat := 0x0401
def abPeatCredit : Nat := 0x0501
def abPeatAck : Nat := 0x0502
def abPeatRewind : Nat := 0x0503
def abPeatCheckpoint : Nat := 0x0504
def abPeatFormat : Nat := 0x0505
def abPeatFence : Nat := 0x0506
def abMemHeal : Nat := 0x0601
def abMemRetire : Nat := 0x0602
def abPairHandover : Nat := 0x0701
def abPairForce : Nat := 0x0702

/-- The states in which the unit answers packets (R410, R428). -/
def Dc.serves (d : Dc) : Bool := !d.mem.coreDown && (d.state == dcHostwait || d.state == dcClusterUp || d.state == dcRun || d.state == dcLimp)

/-- The enabled host entry of a source (R404). -/
def Dc.hostEntry (d : Dc) (p : Pkt) : Option Nat :=
  (List.range 8).find? fun h => d.fld (DC.ABS.HOST_CFG.EN h) == 1 && d.fld (DC.ABS.HOST_IP.ADDR h) == p.srcIp && d.fld (DC.ABS.HOST_CFG.UDP h) == p.srcUdp

/-- The fixed header fields are as R402 has them. -/
def pktFormed (p : Pkt) (payload : List Nat) : Bool :=
  p.magic == 0xA5B1 && p.version == 1 && decide (p.flags < 16) && p.reserved == 0 && p.length == payload.length && p.udpLength == 48 + p.length && payload.length % 4 == 0
    && decide (payload.length ≤ 1424)

/-- The bytes that the tag covers (R403). -/
def pktSigned (p : Pkt) (payload : List Nat) : List Nat :=
  bytesBE 2 p.magic ++ [p.version % 256, p.flags % 256] ++ bytesBE 4 p.session ++ bytesBE 4 p.sequence ++ bytesBE 2 p.opcode ++ bytesBE 2 p.length
    ++ [p.target % 256, 0] ++ bytesBE 2 p.epoch ++ [p.status % 256, 0, 0, 0] ++ payload

/-- A sequence number lies above another by less than half the range, modulo 2³² (R407). -/
def seqAbove (a b : Nat) : Bool :=
  let g := (a + 2 ^ 32 - b % 2 ^ 32) % 2 ^ 32
  decide (1 ≤ g ∧ g < 2 ^ 31)

/-- The replay check of a session's packet (R407). -/
def Dc.seqFresh (d : Dc) (h s : Nat) : Bool :=
  seqAbove s ((d.fld (DC.ABS.HIGHEST.SEQ h) + 2 ^ 32 - 64) % 2 ^ 32) && !(FMap.get [] d.abs.seen h).contains s

/-- A sequence number is accepted (R407). -/
def Dc.seqTake (d : Dc) (h s : Nat) : Dc :=
  let d := if seqAbove s (d.fld (DC.ABS.HIGHEST.SEQ h)) then d.set (DC.ABS.HIGHEST.SEQ h) s else d
  let low := (d.fld (DC.ABS.HIGHEST.SEQ h) + 2 ^ 32 - 64) % 2 ^ 32
  { d with abs := { d.abs with seen := FMap.put [] d.abs.seen h ((s :: FMap.get [] d.abs.seen h).filter fun x => seqAbove x low) } }

/-- Whether an opcode is allowed in the unit's role and state: a status (R410; log entry 70 for PEAT_FORMAT and MEM_RETIRE in
HOSTWAIT). `addr` is the address of a WRITE or WRITE_BLOCK. -/
def Dc.allowed (d : Dc) (op addr : Nat) : Nat :=
  let write := decide (op = abWrite ∨ op = abWriteBlock)
  if d.state = dcLimp then (if write ∨ op = abSessionOpen ∨ op = abSessionClose ∨ op = abRead then stOk else stState)
  else if d.active then stOk
  else if op = abSessionOpen ∨ op = abSessionClose ∨ op = abNoticeAck ∨ op = abRead ∨ op = abPairForce then stOk
  else if write ∧ (d.state = dcHostwait ∨ (0x2000 ≤ addr ∧ addr < 0x4000)) then stOk
  else if d.state = dcHostwait ∧ (op = abPeatFormat ∨ op = abMemRetire) then stOk
  else stNotActive

/-- What the reply to a packet that is not allowed carries: the reply to a position command always returns the positions of the log that it
names (R317). -/
def Dc.refusalPayload (d : Dc) (p : Pkt) (payload : List Nat) : List Nat :=
  if p.target ≠ 0xFF then []
  else if p.opcode = abPeatCheckpoint ∨ p.opcode = abPeatFormat then d.peat.log.payload
  else if p.opcode = abPeatCredit ∨ p.opcode = abPeatAck ∨ p.opcode = abPeatRewind then
    match d.logNamed (ofBytesBE (payload.take 4)) with
    | some k => (d.posOf k).payload
    | none => []
  else []

/-- The checks of R404 on an arriving packet, in order: the answer is the reply to fill in when the command itself is to be carried out. A packet in a poisoned buffer is
dropped (R334). DEDUCED (log entry 73). -/
def Dc.gate (d : Dc) (p : Pkt) (payload : List Nat) (addr : Nat) : Dc × Option Reply :=
  if !d.serves then (d, none)
  else if d.receivePoison.isSome then (d.frameIn id, none)
  else if p.dstIp ≠ d.fld DC.ABS.SVC_IP.ADDR ∧ p.dstIp ≠ d.fld DC.ABS.UNIT_IP.ADDR then (d.inc (DC.ABS.STRANGER.COUNT 3), none)
  else
    match d.hostEntry p with
    | none => (d.inc (DC.ABS.STRANGER.COUNT 6), none)
    | some h =>
      if !pktFormed p payload then (d.inc (DC.ABS.STRANGER.COUNT 6), none)
      else
        match d.bucket (p.port % 2) 0 with
        | (d, false) => (d, none)
        | (d, true) =>
          let r : Reply := { host := h, dst := p.dstIp, ip := p.srcIp, udp := p.srcUdp, session := p.session, sequence := p.sequence, opcode := p.opcode,
                             target := p.target, tag := p.tag }
          if ofBytesBE (absynTag d.bt.key (pktSigned p payload)) ≠ p.tag then
            let d := d.inc (DC.ABS.AUTH_FAIL.COUNT h)
            if FMap.get 0 d.abs.authFrame h = d.frame + 1 then (d, none)
            else (({ d with abs := { d.abs with authFrame := FMap.put 0 d.abs.authFrame h (d.frame + 1) } } : Dc).sendReply { r with status := stAuth } false, none)
          else
            let stale (d : Dc) : Dc × Option Reply := ((d.inc (DC.ABS.STALE.COUNT h)).sendReply { r with status := stStaleSeq } false, none)
            let go (d : Dc) : Dc × Option Reply :=
              if p.flags.testBit 2 ∧ p.epoch ≠ d.epoch then (d.answer { r with status := stNotActive, payload := d.refusalPayload p payload }, none)
              else
                let s := d.allowed p.opcode addr
                if s = stOk then (d, some r) else (d.answer { r with status := s, payload := d.refusalPayload p payload }, none)
            if p.opcode = abSessionOpen then (if p.session = 0 then go d else stale d)
            else if p.session = 0 ∨ p.session ≠ d.fld (DC.ABS.SESSION.SESSION h) then stale d
            else
              match (FMap.get [] d.abs.kept h).find? fun k => k.session == p.session && k.sequence == p.sequence && k.tag == p.tag with
              | some k => (d.sendReply { k with dst := p.dstIp, ip := p.srcIp, udp := p.srcUdp } true, none)
              | none => if d.seqFresh h p.sequence then go (d.seqTake h p.sequence) else stale d

/-- A packet with one of the opcodes of R411: a packet of another opcode is not this command. With target 0xFF the command is carried
out; a DF640 has no such command, and targets 64 to 254 are refused (R402, R411, R412). -/
def Dc.command (d : Dc) (p : Pkt) (op : Nat) (payload : List Nat) (addr : Nat) (run : Dc → Reply → Dc) : Dc :=
  if p.opcode ≠ op then d
  else
    match d.gate p payload addr with
    | (d, none) => d
    | (d, some r) =>
      if p.target = 0xFF then run d r
      else if p.target < 64 then d.answer { r with status := stBadOpcode }
      else d.answer { r with status := stBadParam }

/-- The READ command (R411). -/
def Dc.cmdRead (d : Dc) (p : Pkt) (addr count : Nat) : Dc :=
  d.command p abRead (pad4 (bytesBE 4 addr ++ bytesBE 2 count)) addr fun d r =>
    let x := d.busRead r.host (addr % 2 ^ 32) (count % 65536)
    x.1.answer { r with status := x.2.1, payload := x.2.2.flatMap fun w => bytesBE 4 w.toNat }

/-- A register write of a host, carried out now: a write that changes something is answered when its copy is acknowledged (R360). -/
def Dc.hostWriteNow (d : Dc) (r : Reply) (addr : Nat) (vs : List Word) : Dc :=
  let x := d.busBlock addr vs
  if x.2.1 = stOk then x.1.answerAfterCopy r
  else x.1.answer { r with status := x.2.1, payload := if r.opcode = abWriteBlock then bytesBE 2 x.2.2 else [] }

/-- A register write of a host: while paired, at most 4,096 are carried out in a frame; further ones take effect in the next (R356). -/
def Dc.hostWrite (d : Dc) (r : Reply) (addr : Nat) (vs : List Word) : Dc :=
  if d.active ∧ d.paired then
    let n := if d.abs.writeFrame = d.frame then d.abs.writeCount else 0
    if 4096 < n + vs.length ∨ !d.abs.later.isEmpty then { d with abs := { d.abs with later := d.abs.later ++ [(r, addr, vs)] } }
    else ({ d with abs := { d.abs with writeFrame := d.frame, writeCount := n + vs.length } } : Dc).hostWriteNow r addr vs
  else d.hostWriteNow r addr vs

/-- Writes that waited for the frame that begins (R356). -/
def Dc.laterWrites (d : Dc) : Dc :=
  let l := d.abs.later
  l.foldl (fun (d : Dc) (x : Reply × Nat × List Word) => d.hostWrite x.1 x.2.1 x.2.2) { d with abs := { d.abs with later := [] } }

/-- The WRITE command (R411). -/
def Dc.cmdWrite (d : Dc) (p : Pkt) (addr : Nat) (v : Word) : Dc :=
  d.command p abWrite (bytesBE 4 addr ++ bytesBE 4 v.toNat) addr fun d r => d.hostWrite r (addr % 2 ^ 32) [v]

/-- The WRITE_BLOCK command (R411, R479). -/
def Dc.cmdWriteBlock (d : Dc) (p : Pkt) (addr : Nat) (vs : List Word) : Dc :=
  d.command p abWriteBlock (pad4 (bytesBE 4 addr ++ bytesBE 2 vs.length) ++ vs.flatMap fun v => bytesBE 4 v.toNat) addr fun d r =>
    d.hostWrite r (addr % 2 ^ 32) vs

/-- A new session number: never 0 and never the entry's previous one (R406). -/
def newSession (free prev : Nat) : Nat :=
  let v := Config.session free % 2 ^ 32
  if v = 0 ∨ v = prev then (if prev = 1 then 2 else 1) else v

/-- The SESSION_OPEN command (R406). -/
def Dc.cmdSessionOpen (d : Dc) (p : Pkt) (nonce free : Nat) : Dc :=
  d.command p abSessionOpen (bytesBE 8 nonce) 0 fun d r =>
    let v := newSession free (FMap.get 0 d.abs.prev r.host)
    let d := (d.set (DC.ABS.SESSION.SESSION r.host) v).set (DC.ABS.HIGHEST.SEQ r.host) 0
    let d : Dc := { d with abs := { d.abs with seen := FMap.put [] d.abs.seen r.host [], prev := FMap.put 0 d.abs.prev r.host v } }
    d.answerAfterCopy { r with payload := bytesBE 4 v ++ bytesBE 8 nonce }

/-- The SESSION_CLOSE command (R411). -/
def Dc.cmdSessionClose (d : Dc) (p : Pkt) : Dc :=
  d.command p abSessionClose [] 0 fun d r => (d.set (DC.ABS.SESSION.SESSION r.host) 0).answerAfterCopy r

/-- The SOFT command (R245). -/
def Dc.cmdSoft (d : Dc) (p : Pkt) (tag : Nat) : Dc :=
  d.command p abSoft (bytesBE 4 tag) 0 fun d r =>
    let x := d.softTrig (tag % 2 ^ 32)
    if x.2.1 = stOk then x.1.answerDecision { r with payload := bytesBE 8 x.2.2 } else x.1.answer { r with status := x.2.1 }

/-- The WINDOW command (R245). -/
def Dc.cmdWindow (d : Dc) (p : Pkt) (start stop tag : Nat) : Dc :=
  d.command p abWindow (bytesBE 8 start ++ bytesBE 8 stop ++ bytesBE 4 tag) 0 fun d r =>
    let x := d.windowTrig (start % 2 ^ 64) (stop % 2 ^ 64) (tag % 2 ^ 32)
    if x.2.1 = stOk then x.1.answerDecision { r with payload := bytesBE 8 x.2.2 } else x.1.answer { r with status := x.2.1 }

/-- The NOTICE_ACK command (R423). -/
def Dc.cmdNoticeAck (d : Dc) (p : Pkt) (seq : Nat) : Dc :=
  d.command p abNoticeAck (bytesBE 4 seq) 0 fun d r =>
    if d.abs.notices.any fun x => x.seq == seq then
      ({ d with abs := { d.abs with notices := d.abs.notices.filter fun x => x.seq != seq } } : Dc).answer r
    else d.answer { r with status := stBadParam }

/-- The answer to a position command: every reply returns the positions of the log named, where there is one (R317, R411). DEDUCED (log entry 87). -/
def Dc.answerPos (d : Dc) (r : Reply) (status : Nat) (k : Option Nat) : Dc :=
  let r := match k with | some k => { r with payload := (d.posOf k).payload } | none => r
  if status = stOk then d.answerAfterCopy r else d.answer { r with status := status }

/-- The PEAT_CREDIT command (R317). -/
def Dc.cmdCredit (d : Dc) (p : Pkt) (id limit : Nat) : Dc :=
  d.command p abPeatCredit (bytesBE 4 id ++ bytesBE 8 limit) 0 fun d r =>
    let x := d.peatCredit (id % 2 ^ 32) (limit % 2 ^ 64)
    x.1.answerPos r x.2.1 (x.1.logNamed (id % 2 ^ 32))

/-- The PEAT_ACK command (R317); `items` is the partner's log. -/
def Dc.cmdAck (d : Dc) (p : Pkt) (id pos : Nat) (items : List PItem) : Dc :=
  d.command p abPeatAck (bytesBE 4 id ++ bytesBE 8 pos) 0 fun d r =>
    let x := d.peatAck (id % 2 ^ 32) (pos % 2 ^ 64) items
    x.1.answerPos r x.2.1 (x.1.logNamed (id % 2 ^ 32))

/-- The PEAT_REWIND command (R317). -/
def Dc.cmdRewind (d : Dc) (p : Pkt) (id pos : Nat) : Dc :=
  d.command p abPeatRewind (bytesBE 4 id ++ bytesBE 8 pos) 0 fun d r =>
    let x := d.peatRewind (id % 2 ^ 32) (pos % 2 ^ 64)
    x.1.answerPos r x.2.1 (x.1.logNamed (id % 2 ^ 32))

/-- The PEAT_CHECKPOINT command (R317). -/
def Dc.cmdCheckpoint (d : Dc) (p : Pkt) : Dc :=
  d.command p abPeatCheckpoint [] 0 fun d r => let x := d.peatCheckpoint; x.1.answerPos r x.2 (some 0)

/-- The PEAT_FORMAT command (R317): an accepted one is answered after the erases end. -/
def Dc.cmdFormat (d : Dc) (p : Pkt) (word : Nat) : Dc :=
  d.command p abPeatFormat (bytesBE 4 word) 0 fun d r =>
    let x := d.peatFormat r (word % 2 ^ 32)
    if x.2 = stOk then x.1 else x.1.answerPos r x.2 (some 0)

/-- The die ID (R302, R430). -/
def Dc.dieId (d : Dc) : Nat := d.fld DC.ID.DIE_LO.ID + 2 ^ 32 * d.fld DC.ID.DIE_HI.ID

/-- An erase ends on a channel (R314, R317): of a format that runs, which is answered at its last channel, or of the block that the channel allocated. -/
def Dc.blockEraseDone (d : Dc) (c : Nat) (ok : Bool) : Dc :=
  if d.peat.formatting.isSome then
    match d.formatErased c ok d.dieId with
    | (d, some r) => d.answerPos r stOk (some 0)
    | (d, none) => d
  else d.eraseDone c ok

/-- The PEAT_FENCE command (R317). -/
def Dc.cmdFence (d : Dc) (p : Pkt) (index : Nat) : Dc :=
  d.command p abPeatFence (pad4 (bytesBE 2 index)) 0 fun d r =>
    let x := d.peatFence (index % 65536)
    d.answer { r with status := x.1, payload := if x.1 = stOk then x.2 else [] }

/-- The MEM_HEAL command (R341, R342): an accepted one is answered when the range is done. -/
def Dc.cmdHeal (d : Dc) (p : Pkt) (c start len : Nat) : Dc :=
  d.command p abMemHeal (pad4 (bytesBE 1 c) ++ bytesBE 8 start ++ bytesBE 4 len) 0 fun d r =>
    let x := d.healStart r (c % 256) (start % 2 ^ 64) (len % 2 ^ 32)
    if x.2 = stOk then x.1 else x.1.answer { r with status := x.2 }

/-- The running MEM_HEAL reaches the end of its range (R341). -/
def Dc.healDone (d : Dc) : Dc := match d.healEnd with | (d, some r) => d.answer r | (d, none) => d

/-- The MEM_RETIRE command (R342, R343). -/
def Dc.cmdRetire (d : Dc) (p : Pkt) (c page : Nat) : Dc :=
  d.command p abMemRetire (pad4 (bytesBE 1 c) ++ bytesBE 4 page) 0 fun d r =>
    let x := d.memRetire (c % 256) (page % 2 ^ 32)
    if x.2 = stOk then x.1.answer { r with payload := bytesBE 4 (x.1.fld DC.TRG.DCAP.TICKS) } else x.1.answer { r with status := x.2 }

/-- The PAIR_HANDOVER command (R369): an accepted one is answered when the partner is ACTIVE. -/
def Dc.cmdHandover (d : Dc) (p : Pkt) : Dc :=
  d.command p abPairHandover [] 0 fun d r =>
    let x := d.pairHandover r
    if x.2 = stOk then x.1 else x.1.answer { r with status := x.2 }

/-- The PAIR_FORCE command (R369). -/
def Dc.cmdForce (d : Dc) (p : Pkt) (seq : Nat) : Dc :=
  d.command p abPairForce (bytesBE 8 seq) 0 fun d r =>
    let x := d.pairForce (seq % 2 ^ 64)
    if x.2 = stOk then x.1.answer { r with payload := pad4 (bytesBE 2 x.1.epoch) } else x.1.answer { r with status := x.2 }

/-- Whether an Absyn opcode is that of a forwarded command (R412): 0x0800 + an Ibast opcode other than TAKE. -/
def forwardable (op : Nat) : Bool := decide (0x0801 ≤ op ∧ op ≤ 0x0811 ∧ op ≠ 0x0807)

/-- The forwarding of an accepted packet (R412): a status, and the frame queued. Parameter words beyond 32 fit no command frame (R413). -/
def Dc.forward (d : Dc) (p : Pkt) (params : List Rec) (r : Reply) : Dc :=
  let n := p.target
  if !forwardable p.opcode then d.answer { r with status := stBadOpcode }
  else if d.fld (DC.IBR.CFG.EN n) = 0 ∨ 32 < params.length then d.answer { r with status := stBadParam }
  else if !d.dnRun n then d.answer { r with status := stLinkDown }
  else if 16 ≤ (FMap.get {} d.abs.fwd n).queue.length then d.answer { r with status := stBusy }
  else d.queueFrame n (p.opcode - 0x0800) r.host params (some r)

/-- A packet for a DF640, or one whose opcode no command to the DC64 has (R402, R411, R412). -/
def Dc.cmdForward (d : Dc) (p : Pkt) (params : List Rec) : Dc :=
  match d.gate p (params.flatMap fun w => bytesBE 8 w.toNat) 0 with
  | (d, none) => d
  | (d, some r) =>
    if p.target < 64 then d.forward p params r
    else if p.target = 0xFF then d.answer { r with status := stBadOpcode }
    else d.answer { r with status := stBadParam }

/-- The forwarding state of a port. -/
def Dc.fwd (d : Dc) (n : Nat) : FwdSt := FMap.get {} d.abs.fwd n
def Dc.setFwd (d : Dc) (n : Nat) (x : FwdSt) : Dc := { d with abs := { d.abs with fwd := FMap.put {} d.abs.fwd n x } }

/-- Whether the unit may send a command frame (R25, R351, R368): the ACTIVE unit any, until a handover's boundary h, and an ISOLATED unit READ alone. -/
def Dc.maySend (d : Dc) (f : Fwd) : Bool :=
  (d.active && !d.pair.final) || (d.role == roleIsolated && rb (f.words.getD 0 0) 56 8 == 0x01)

/-- The DC64 sends the next queued command frame of a port (R414): one is outstanding at a time, and the downlink must be in RUN. -/
def Dc.frameSend (d : Dc) (n : Nat) : Dc :=
  let q := d.fwd n
  match q.out, q.queue with
  | none, f :: t =>
    if d.dnRun n ∧ (d.port n).tx.isEmpty ∧ d.maySend f then
      (d.setFwd n { q with queue := t, out := some { f with sends := 1, sentAt := d.now, leaving := true } }).setPort n { d.port n with tx := f.words }
    else d
  | _, _ => d

/-- 4 frames have passed since the outstanding frame's last block left (R414): it is sent again with its identity, and after three sends
without a reply the host receives TIMEOUT. A frame whose blocks are still leaving is not yet due. DEDUCED (log entry 75). -/
def Dc.frameRetry (d : Dc) (n : Nat) : Dc :=
  let q := d.fwd n
  match q.out with
  | none => d
  | some f =>
    if (f.leaving ∧ !(d.port n).tx.isEmpty) ∨ !d.maySend f then d
    else
      let d := d.until (f.sentAt + 4 * frameTicks)
      if 3 ≤ f.sends then
        let d := (d.setFwd n { q with out := none }).inc DC.ABS.FWD_TIMEOUT.COUNT
        match f.ask with
        | some r => d.answer { r with status := stTimeout }
        | none => d
      else
        let run := d.dnRun n
        let d := d.setFwd n { q with out := some { f with sends := f.sends + 1, sentAt := d.now, leaving := run, got := [] } }
        if run then d.setPort n { d.port n with tx := f.words } else d

/-- Records that the reply to a command frame has, by its opcode, status and first parameter word (R415, R417). -/
def replyLength (op status : Nat) (param : Rec) : Nat :=
  if op = 0x01 then (if status = stOk then rb param 0 3 + 1 else 1)
  else if op = 0x11 then (if status = stOk ∨ status = stTimeout then 7 else 1)
  else 1

/-- The threshold shadow of a channel's context takes a value written to `DF.AFE.CH[ch]` (R218). -/
def Dc.noteThreshold (d : Dc) (n ch : Nat) (v : Word) : Dc :=
  let f (x : Fd) : Nat := fieldOf v x.lo x.width
  let s := f (DF.AFE.CH.MODE 0) * 2 ^ 15 + f (DF.AFE.CH.POL 0) * 2 ^ 14 + f (DF.AFE.CH.ZIN 0) * 2 ^ 12 + f (DF.AFE.CH.T_TRIM 0) * 2 ^ 6 + f (DF.AFE.CH.V_TRIM 0)
  d.request 7 (.shadow (640 * n + ch) s)

/-- The register values that a WRITE or WRITE_BLOCK frame carries, by address (R417). -/
def frameWrites (words : List Rec) : List (Nat × Word) :=
  let op := rb (words.getD 0 0) 56 8
  let w := words.getD 1 0
  if op = 0x02 then [(rb w 32 16, BitVec.ofNat 32 (rb w 0 32))]
  else if op = 0x03 then (blockValues (rb w 0 6) (words.drop 2)).zipIdx.map fun x => (rb w 32 16 + x.2, x.1)
  else []

/-- The core notes what a frame that was carried out wrote to channels (R218). -/
def Dc.noteWrites (d : Dc) (n : Nat) (words : List Rec) : Dc :=
  (frameWrites words).foldl (fun (d : Dc) (x : Nat × Word) =>
    match elemOf (DF.AFE.CH.addr 0) 640 1 x.1 with
    | some ch => d.noteThreshold n ch x.2
    | none => d) d

/-- One REPLY record of a port (R413 to R415): records of the outstanding frame are collected in order, and the complete reply answers the
host with the data of its records (log entry 71). -/
def Dc.takeReplyRec (d : Dc) (n : Nat) (w : Rec) : Dc :=
  let q := d.fwd n
  match q.out with
  | none => d
  | some f =>
    let h := f.words.getD 0 0
    if rb w 55 1 ≠ d.pref ∨ rb w 44 12 ≠ rb h 20 12 ∨ rb w 40 4 ≠ f.got.length then d
    else
      let got := f.got ++ [w]
      let status := rb w 32 8
      if got.length < replyLength (rb h 56 8) status (f.words.getD 1 0) then d.setFwd n { q with out := some { f with got := got } }
      else
        let d := d.setFwd n { q with out := none }
        let d := d.setPort n { d.port n with tx := if f.leaving then [] else (d.port n).tx }
        let d := if status = stOk then d.noteWrites n f.words else d
        match f.ask with
        | some r => d.answer { r with status := status, payload := got.flatMap fun x => bytesBE 4 (rb x 0 32) }
        | none => d

/-- The REPLY records of an accepted block (R415). -/
def Dc.takeReplies (d : Dc) (n : Nat) (ws : List Rec) : Dc :=
  ((payloadOf ws).filter fun w => kindOf w == 5 && subOf w == 1).foldl (fun (d : Dc) (w : Rec) => d.takeReplyRec n w) d

/-- RESEND frames have passed since a pending notice was last sent (R423): every notice that is due is sent again. -/
def Dc.noticeResend (d : Dc) : Dc :=
  match d.abs.notices with
  | [] => d
  | x :: t =>
    let every := d.fld DC.ABS.NOTICE_CFG.RESEND
    let first := t.foldl (fun (m : Nat) (y : Notice) => min m y.sent) x.sent
    let d := d.until ((first + every) * frameTicks)
    let due := d.abs.notices.filter fun y => decide (y.sent + every ≤ d.frame)
    let d : Dc := { d with abs := { d.abs with notices := d.abs.notices.map fun y => if y.sent + every ≤ d.frame then { y with sent := d.frame } else y } }
    due.foldl (fun (d : Dc) (y : Notice) => d.sendNotice y) d

/-- An ARP request (R399 to R401): answered for the service address while ACTIVE. -/
def Dc.arpRequest (d : Dc) (port ip asker : Nat) : Dc := d.frameIn fun d =>
  if !d.active ∨ ip ≠ d.fld DC.ABS.SVC_IP.ADDR then d.inc (DC.ABS.STRANGER.COUNT 2)
  else
    match d.bucket port 1 with
    | (d, false) => d
    | (d, true) => d.frameOut (.arpReply port asker)

/-- The first reason of R400 that applies to a frame, before the rate limit: an ARP request for the service address while ACTIVE, and an Absyn packet
of a sound length, have none. -/
def Dc.strangerReason (d : Dc) (x : EthFrame) : Option Nat :=
  let ptp := x.dstUdp == 319 || x.dstUdp == 320
  if !x.intact then some 0
  else if x.etherType = 0x0806 then (if x.request ∧ d.active ∧ x.asked = d.fld DC.ABS.SVC_IP.ADDR then none else some 2)
  else if x.etherType = 0x88F7 then some 5
  else if x.etherType ≠ 0x0800 then some 1
  else if !(x.dstIp == d.fld DC.ABS.SVC_IP.ADDR || x.dstIp == d.fld DC.ABS.UNIT_IP.ADDR || (x.dstIp == ptpGroup && ptp)) || x.protocol != 17 || !x.plain then some 3
  else if ptp then some 5
  else if x.dstUdp ≠ d.fld DC.ABS.CFG.PORT then some 4
  else if x.udpLength < 48 then some 6
  else none

/-- A frame of no row of its own arrives (R400, R401): a PTP message that R178 refuses passes bucket B first. A frame of a form that could be accepted comes by the row
of that form, and is none of these. DESIGN CHOICE (log entry 132). -/
def Dc.strangerFrame (d : Dc) (port : Nat) (x : EthFrame) : Dc :=
  match d.strangerReason x with
  | none => d
  | some 5 =>
    match d.bucket port 1 with
    | (d, false) => d
    | (d, true) => d.inc (DC.ABS.STRANGER.COUNT 5)
  | some r => d.inc (DC.ABS.STRANGER.COUNT r)

/-- 1 ms has passed: the buckets of both ports leak (R401). -/
def Dc.leak (d : Dc) : Dc :=
  let d := d.until (nextMul ticksMs d.now)
  let one (d : Dc) (port b : Nat) : Dc :=
    let rate := if b = 0 then d.fld (DC.ABS.RL_A.RATE port) else d.fld (DC.ABS.RL_B.RATE port)
    { d with abs := { d.abs with level := FMap.put 0 d.abs.level (2 * port + b) (FMap.get 0 d.abs.level (2 * port + b) - rate) } }
  one (one (one (one d 0 0) 0 1) 1 0) 1 1

end Sys2Proof.Machine
end

