-- ==== Sys2Proof/Machine/DcBoot.lean ====
section
/-! DEFINITION. Start-up of the DC64 (R428 to R438), its resets (R443), droop stepping (R446, R449), and what takes effect at a
frame boundary (R145, R166, R224, R356 to R358, R368, R436, R438, R470). -/
namespace Sys2Proof.Machine

/-- Causes of reset: bits of `DC.BOOT.CAUSE`. -/
def dcCausePor : Nat := 1
def dcCauseBor : Nat := 2
def dcCauseSoft : Nat := 4

/-- A full reset (R443): the chip returns to POWER; the flash keeps its content (R321). -/
def Dc.resetBy (d : Dc) (cause : Nat) : Dc :=
  ({ out := d.out, peat := d.peat.afterReset, bt := { wired := d.bt.wired } } : Dc).setWord DC.BOOT.CAUSE.addr (BitVec.ofNat 32 cause) |>.set DC.BOOT.STATE.STATE dcPower

/-- The supplies have been valid for 2 ms with REFCLK present (R428): reset is released, the straps are sampled, the root PLL locks and DT
starts at 0; the Causeway lanes start their ladder in FUSE (R135). PFAIL_N low stops the store from programming until it rises (R490). -/
def Dc.powerRelease (d : Dc) (pref pfailHigh : Bool) : Dc :=
  if d.state = dcPower then
    let d := d.set DC.PAIR.CFG.PREF pref.toNat
    let d : Dc := { d with now := 0, bt := { d.bt with pref := pref.toNat, pfailHigh := pfailHigh },
                           peat := { d.peat with stopped := if pfailHigh then none else some ([], 0) } }
    ((List.range 4).foldl (fun (d : Dc) (l : Nat) => d.setLane l { d.lane l with state := lLock, rung := 0 }) d).enter dcFuse
  else d

/-- The fuse words are loaded (R191, R403, R430, R446, R482). DESIGN CHOICE (log entry 136). -/
def Dc.fuseLoad (d : Dc) (f : Fuses) : Dc :=
  if d.state = dcFuse then
    let err := f.dieId.isNone || f.grade.isNone || f.trim.isNone || f.l1.isNone || f.l2.isNone || f.key.isNone || f.digest.isNone || f.rxLat.any Option.isNone || f.txLat.any Option.isNone
    let d := ((d.set DC.ID.DIE_LO.ID (f.dieId.getD 0)).set DC.ID.DIE_HI.ID (f.dieId.getD 0 / 2 ^ 32)).set DC.ID.PART.GRADE (f.grade.getD 0)
    let d := (d.set DC.BOOT.DROOP_CFG.L1 (f.l1.getD 715)).set DC.BOOT.DROOP_CFG.L2 (f.l2.getD 690)
    let d := [0, 1].foldl (fun (d : Dc) (p : Nat) =>
      (d.set (DC.PTP.RX_LAT.FINE p) ((f.rxLat.getD p none).getD 0)).set (DC.PTP.TX_LAT.FINE p) ((f.txLat.getD p none).getD 0)) d
    let key := match f.key with | some k => (k.map (· % 256) ++ List.replicate 32 0).take 32 | none => List.replicate 32 0
    let d := d.set DC.ABS.STATUS.KEY_BLANK (key.all (· == 0)).toNat
    let d : Dc := { d with bt := { d.bt with key := key, digest := f.digest, trimOk := f.trim.isSome } }
    (if err then d.set DC.BOOT.STATE.FUSE_ERR 1 else d).enter dcImage
  else d

/-- A big-endian word of 4 bytes of an image. -/
def image32 (img : List Nat) (off : Nat) : Nat := ofBytesBE ((img.drop off).take 4)

/-- An image is valid (R431, R432): magic, format, length, the digest of its key, and its signature under that key. -/
def imageValid (digest : Option Nat) (img : List Nat) : Bool :=
  let l := image32 img 12
  let key := (img.drop 16).take 64
  image32 img 0 == 0x4450494D && image32 img 4 == 1 && decide (l ≤ 8388608) && l % 4 == 0 && decide (192 ≤ l) && decide (l ≤ img.length)
    && digest == some (ofBytesBE (sha256 key))
    && ecdsaOk (ofBytesBE (key.take 32), ofBytesBE (key.drop 32)) (ofBytesBE ((img.drop (l - 64)).take 32)) (ofBytesBE ((img.drop (l - 32)).take 32))
        (ofBytesBE (sha256 (img.take (l - 64))))

/-- The digest of an image (R435). -/
def imageDigestOf (img : List Nat) : Nat := ofBytesBE (sha256 (img.take (image32 img 12)))

/-- The bytes of section `k`: 0 registers, 1 firmware, 2 and 3 unit sections, 4 front end (R431). -/
def imageSection (img : List Nat) (k : Nat) : List Nat := (img.drop (image32 img (80 + 8 * k))).take (image32 img (84 + 8 * k))

/-- The 8-byte entries of a section, each as its two 4-byte words. -/
def imageEntries : Nat → List Nat → List (Nat × Nat)
  | 0, _ => []
  | n + 1, l => if l.length < 8 then [] else (image32 l 0, image32 l 4) :: imageEntries n (l.drop 8)

/-- The entries of section `k`. -/
def sectionEntries (img : List Nat) (k : Nat) : List (Nat × Nat) := let s := imageSection img k; imageEntries (s.length / 8) s

/-- Whether a register's reset value is "image" (R425, R432). -/
def imageReg (a : Nat) : Bool :=
  a == DC.ABS.CFG.addr || (decide (DC.ABS.SVC_IP.addr ≤ a ∧ a ≤ DC.ABS.UNIT_MAC_HI.addr) && a % 4 == 0)
    || (elemOf (DC.ABS.HOST_IP.addr 0) 8 32 a).isSome || (elemOf (DC.ABS.HOST_CFG.addr 0) 8 32 a).isSome

/-- The registers whose reset value is "image". -/
def imageRegs : List Nat :=
  [DC.ABS.CFG.addr, DC.ABS.SVC_IP.addr, DC.ABS.SVC_MAC_LO.addr, DC.ABS.SVC_MAC_HI.addr, DC.ABS.UNIT_IP.addr, DC.ABS.UNIT_MAC_LO.addr, DC.ABS.UNIT_MAC_HI.addr]
    ++ (List.range 8).map DC.ABS.HOST_IP.addr ++ (List.range 8).map DC.ABS.HOST_CFG.addr

/-- One entry of a register section (R432). -/
def Dc.imageEntry (d : Dc) (e : Nat × Nat) : Dc :=
  if imageReg e.1 then d.store e.1 (BitVec.ofNat 32 e.2) else d.inc DC.BOOT.IMAGE.IMAGE_IGN

/-- An image has streamed in (R432 to R434): the register section and the unit section load; when the image proves invalid every register
they set returns to 0. DEDUCED (log entry 76). -/
def Dc.imageLoad (d : Dc) (img : List Nat) (fromPartner : Bool) : Dc :=
  if d.state ≠ dcImage then d
  else
    let d := (sectionEntries img 0 ++ sectionEntries img (2 + d.pref)).foldl Dc.imageEntry d
    if imageValid d.bt.digest img then
      let d := (d.set DC.BOOT.IMAGE.SRC (if fromPartner then 2 else 1)).set DC.BOOT.IMAGE_VER.VER (image32 img 8)
      ({ d with bt := { d.bt with image := img, imageDigest := imageDigestOf img, retryAt := none } } : Dc).enter dcSelftest
    else
      let d := imageRegs.foldl (fun (d : Dc) (a : Nat) => d.setWord a 0) d
      { d.inc DC.BOOT.IMAGE.ATTEMPTS with bt := { d.bt with retryAt := some d.now } }

/-- 2 s have passed without a valid image (R434): the cycle repeats with an SPI read. -/
def Dc.imageRetry (d : Dc) : Dc :=
  match d.bt.retryAt with
  | some t => if d.state = dcImage then { d.until (t + 2 * ticksSec) with bt := { d.bt with retryAt := none } } else d
  | none => d

/-- The unit enters LIMP (R348). -/
def Dc.limp (d : Dc) : Dc := (d.set DC.MEM.STATUS.LIMP 1).enter dcLimp

/-- DDR5 training ends (R199, R251): the capacity code of each channel. -/
def Dc.dramTrain (d : Dc) (caps : List (Option Nat)) : Dc :=
  if d.state ≠ dcTrain then d
  else
    let cs := (caps.take 8).filterMap fun c => c
    match cs with
    | [] => d.limp
    | c :: t =>
      if cs.length < 8 then d.limp
      else
        let least := t.foldl min c
        let d := (d.set DC.MIRE.GEOM.CAP least).set DC.MIRE.GEOM.MISMATCH (cs.any (· != least)).toNat
        d.resizeRing.enter dcFill

/-- The power-on fill ends after `ms` milliseconds (R346). -/
def Dc.filled (d : Dc) (ms : Nat) : Dc := if d.state = dcFill then (d.until (d.bt.since + ms * ticksMs)).fillEnd ms else d

/-- The firmware enters HOSTWAIT (R435, R451). -/
def Dc.hostwait (d : Dc) : Dc := (d.set DC.BOOT.BOOT_MS.MS (min (2 ^ 24 - 1) (d.now / ticksMs))).enter dcHostwait

/-- The geometry that eight trained channels give (R298): every field is that of the smallest channel, and the rate the highest that every channel has. Of the smallest
geometry every field is the least among the channels. DESIGN CHOICE (log entry 130). -/
def flashGeom (l : List FlashChan) : FlashGeom :=
  let least (f : FlashChan → Nat) : Nat := match l with | x :: t => t.foldl (fun m y => min m (f y)) (f x) | [] => 0
  let differs (f : FlashChan → Nat) : Bool := l.any fun x => f x != least f
  let fields : List (FlashChan → Nat) := [(·.targets), (·.luns), (·.planes), (·.pagesPerBlock), (·.blocks)]
  let rate := [3, 2, 1, 0].find? fun r => l.all fun x => x.rates.toNat.testBit r
  { targets := least (·.targets), luns := least (·.luns), planes := least (·.planes), pagesPerBlock := least (·.pagesPerBlock), blocks := least (·.blocks),
    rate := rate.getD 0, factoryBad := l.zipIdx.flatMap fun x => x.1.factoryBad.map fun b => 2 ^ 20 * x.2 + b,
    mismatch := fields.any differs, chanFail := rate.isNone }

/-- The flash as its training finds it is shown in `DC.PEAT.GEOM` (R298, R320). -/
def Dc.flashTrained (d : Dc) (l : List FlashChan) : Dc :=
  let g := flashGeom l
  let d := d.setFlash { d.peat.flash with geom := some g }
  ((((((d.set DC.PEAT.GEOM.CHANNELS 8).set DC.PEAT.GEOM.TARGETS g.targets).set DC.PEAT.GEOM.LUNS g.luns).set DC.PEAT.GEOM.PLANES g.planes).set
    DC.PEAT.GEOM.RATE g.rate).set DC.PEAT.GEOM.MISMATCH g.mismatch.toNat).set DC.PEAT.GEOM.CHAN_FAIL g.chanFail.toNat

/-- The boot ROM has read the image again in CORE (R435): a mismatch returns to IMAGE; otherwise the firmware starts, and where there is no
formatted store to replay it enters HOSTWAIT. -/
def Dc.coreStart (d : Dc) (img : List Nat) (flash : Option (List FlashChan)) : Dc :=
  if d.state ≠ dcCore then d
  else if imageDigestOf img ≠ d.bt.imageDigest then
    (d.inc DC.BOOT.IMAGE.ATTEMPTS).enter dcImage
  else
    let d := match flash with | some l => d.flashTrained l | none => d.setFlash { d.peat.flash with geom := none }
    if d.peat.flash.geom.isSome ∧ d.peat.flash.formatted then d else d.hostwait

/-- The firmware replays the store in `ms` milliseconds and enters HOSTWAIT (R313, R435). -/
def Dc.replayed (d : Dc) (ms : Nat) (badRoots badPages : List Nat) : Dc :=
  if d.state = dcCore ∧ d.peat.flash.geom.isSome ∧ d.peat.flash.formatted then ((d.until (d.now + ms * ticksMs)).replay ms badRoots badPages).hostwait else d

/-- The firmware configures a DF640 in CONFIG (R437): TAKE with its epoch, and with FE_AUTO the front-end entries and DONE. -/
def Dc.frontEndConfig (d : Dc) (n dfState : Nat) : Dc :=
  if !d.active ∨ d.fld (DC.IBR.CFG.EN n) = 0 ∨ dfState ≠ dfConfig ∨ !(d.state = dcClusterUp ∨ d.state = dcRun) then d
  else
    let d := d.queueFrame n 0x07 15 [] none
    if d.fld DC.BOOT.CTRL.FE_AUTO = 0 then d
    else
      let d := (sectionEntries d.bt.image 4).foldl (fun (d : Dc) (e : Nat × Nat) =>
        if e.1 / 2 ^ 24 = n then d.coreWrite n (e.1 % 65536) (BitVec.ofNat 32 e.2) else d) d
      d.coreWrite n DF.BOOT.CTRL.addr 1

/-- The level that ELASTIC leaves when it steps back (R446). -/
def Dc.droopLevel (d : Dc) : Nat := if d.fld DC.BOOT.DROOP_STAT.STEP = 2 then d.fld DC.BOOT.DROOP_CFG.L2 else d.fld DC.BOOT.DROOP_CFG.L1

/-- A droop reading in millivolts (R446); the step to ÷4 stops the store (R312, R449). DESIGN CHOICE (log entry 135). -/
def Dc.droop (d : Dc) (mv : Nat) : Dc :=
  let from' := if d.bt.droopMv < d.droopLevel + 10 then d.now else d.bt.droopFrom
  let d := d.set DC.BOOT.DROOP_STAT.MIN (min (d.fld DC.BOOT.DROOP_STAT.MIN) mv)
  let d : Dc := { d with bt := { d.bt with droopMv := mv, droopFrom := from' } }
  let st := d.fld DC.BOOT.DROOP_STAT.STEP
  if mv < d.fld DC.BOOT.DROOP_CFG.L2 ∧ st < 2 then ((d.set DC.BOOT.DROOP_STAT.STEP 2).inc DC.BOOT.DROOP_N4.COUNT).powerFail
  else if mv < d.fld DC.BOOT.DROOP_CFG.L1 ∧ st < 1 then (d.set DC.BOOT.DROOP_STAT.STEP 1).inc DC.BOOT.DROOP_N2.COUNT
  else d

/-- HOLD µs have passed with the reading at least 10 mV above the level being left (R446): one step back, and the next one waits HOLD µs of its own. -/
def Dc.droopBack (d : Dc) : Dc :=
  let st := d.fld DC.BOOT.DROOP_STAT.STEP
  if 0 < st ∧ d.droopLevel + 10 ≤ d.bt.droopMv then
    let d := (d.until (d.bt.droopFrom + d.fld DC.BOOT.DROOP_CFG.HOLD * ticksUs)).set DC.BOOT.DROOP_STAT.STEP (st - 1)
    { d with bt := { d.bt with droopFrom := d.now } }
  else d

/-- PFAIL_N falls (R312); that the droop passes the level of the step to ÷4 stops the store at the reading that does so. -/
def Dc.pfail (d : Dc) : Dc := ({ d with bt := { d.bt with pfailHigh := false } } : Dc).powerFail

/-- PFAIL_N is high and the clock has left ÷4 (R449): the command is the later of the two, so it raises PFAIL_N where it still is low, and does nothing while the
clock is at ÷4. -/
def Dc.resumeStore (d : Dc) : Dc :=
  if d.fld DC.BOOT.DROOP_STAT.STEP = 2 then d else ({ d with bt := { d.bt with pfailHigh := true } } : Dc).peatResume

/-- A port of the Ethernet comes up or goes down (R316). -/
def Dc.ethPort (d : Dc) (port : Nat) (up : Bool) : Dc :=
  { d with abs := { d.abs with up := if up then d.abs.up ||| 2 ^ port else d.abs.up &&& (3 - 2 ^ port) } }

/-- The number of the next frame boundary (R6). -/
def Dc.nextBoundary (d : Dc) : Nat := if d.bt.boundary < d.frame then d.frame else d.bt.boundary + 1

/-- Start-up moves asked for take effect at boundary `b` (R353, R436, R438). -/
def Dc.goAtBoundary (d : Dc) (b : Nat) : Dc :=
  match d.bt.goTo with
  | none => d
  | some st =>
    let d : Dc := { d with bt := { d.bt with goTo := none } }
    if st = dcClusterUp ∧ d.state = dcHostwait then
      let d := d.enter dcClusterUp
      let d := (List.range 64).foldl (fun (d : Dc) (n : Nat) =>
        if d.fld (DC.IBR.CFG.EN n) = 0 then d else if d.fld (DC.IBR.CFG.TEST n) = 1 then d.portAll n lTest else d.startLadder n) d
      if d.paired then (if d.pair.settledRole then d else { d with pair := { d.pair with listen := some b, hears := false } }) else if d.active then d else d.becomeActive
    else if st = dcRun ∧ d.state = dcClusterUp then d.enter dcRun
    else d

/-- A handover begins at the first boundary at which RETURN_READY has been seen, or at the one after a PAIR_HANDOVER (R368). -/
def Dc.handoverBegins (d : Dc) (b : Nat) : Dc :=
  if !d.active ∨ !d.paired ∨ d.pair.final then d
  else
    let ready := d.fld DC.PAIR.P_STATUS.RETURN_READY == 1 && d.noClash && d.pstate == psSync
    let d : Dc := if ready ∧ d.pair.handover.isNone then { d with pair := { d.pair with handover := some b } } else d
    if d.pair.handover = some b then d.handoverStep else d

/-- What takes effect at boundary `b`. -/
def Dc.atBoundary (d : Dc) (b : Nat) : Dc :=
  let copy := d.makeCopy (b - 1)
  let d : Dc := { d with now := laterTick d.now (b * frameTicks), bt := { d.bt with boundary := b % 2 ^ 48 }, tim := { d.tim with epoch := none } }
  if d.state < dcHostwait ∨ d.state = dcLimp then d
  else
    let d : Dc := if d.active ∧ d.paired then { d with pair := { d.pair with ready := some copy } } else d
    let b := b % 2 ^ 48
    let d := d.handoverBegins b
    let d := if d.active then d else d.applyCopies
    let d := ((d.timeBoundary.calApply b).goAtBoundary b).laterWrites
    (((d.frameMarkers b).heartbeat false).timeBlocks |>.snapshot b).releaseReplies

/-- The next frame boundary (R145). An epoch set makes it the boundary that begins its frame (R166), and the trigger engine starts afresh
there; a soft reset follows once its 1 ms has passed (R443). -/
def Dc.frameBoundary (d : Dc) : Dc :=
  if d.state = dcPower then d
  else
    let b := d.nextBoundary
    if d.bt.softAt.any fun t => decide (t ≤ b * frameTicks) then d.resetBy dcCauseSoft
    else
      match d.tim.epoch with
      | some f =>
        let d := (d.atBoundary f).indexJump f
        if d.fld DC.TRG.CTRL.EN = 1 then d.engineStart (256 * f) else d
      | none => d.atBoundary b

end Sys2Proof.Machine
end

