-- ==== Sys2Proof/Machine/State.lean ====
section
/-! DEFINITION. The state of the block: a cluster of two DC64s and 64 DF640s (R18, R23), the commands that wait, and the reasons for which
a command could stop. -/
namespace Sys2Proof.Machine

/-- Reasons for which a command stops the block with a fault. There are none: a command that the hardware turns away answers a status or
leaves its chip as it was, and that is a next state. Nothing raises a fault, which is safe. -/
inductive Fault
  deriving DecidableEq, Repr

/-- Reasons for which a command has no meaning. -/
inductive Refusal
  /-- The command has no meaning yet. It would be raised by an arm of `exec` alone; no arm raises it. Safe: the block stops. -/
  | notModelled (mnemonic : String)
  deriving DecidableEq, Repr

/-- A DC64 right after its reset is released at power-on: in FUSE, with the cause POR, its PREF strap sampled, DT at 0, and its Causeway lanes
in LOCK at rung 0 (R166, R428, R443, R453). -/
def dcFresh (pref : Nat) : Dc :=
  let lane : CwLane := { state := 1 }
  { regs := if pref = 1 then [(0x1004, 1), (0x3000, 6)] else [(0x1004, 1)],
    cw := [(0, lane), (1, lane), (2, lane), (3, lane)], bt := { pref := pref, wired := 1 - pref } }

/-- A DF640 right after its reset is released at power-on: in FUSE, with the cause POR (R439, R443, R453). -/
def dfFresh : Df := { regs := [(0x41, 1)] }

/-- The block. DESIGN CHOICE (log entry 4). -/
structure State where
  /-- Commands that wait, first in first out. -/
  pending : List Instr := []
  /-- The DC64 wired to homing port 0 of every DF640, and the one wired to homing port 1 (R23). -/
  dc0 : Dc := dcFresh 1
  dc1 : Dc := dcFresh 0
  /-- The DF640s by port; one that is not listed is as it was right after its reset. -/
  dfs : FMap Df := []
  /-- What the last direct register read or write answered: status and word. -/
  result : Nat × Word := (0, 0)
  /-- Free values drawn so far (log entry 2). -/
  free : Nat := 0
  deriving DecidableEq, Repr

/-- The block right after reset: every chip released from its power-on reset, no command waiting. -/
def State.reset : State := {}

end Sys2Proof.Machine
end

