-- ==== Sys2Proof/Machine/Ops.lean ====
section
/-! DEFINITION. Named operations over the whole block: its chips, which unit a lane goes to (R23), and the answers of direct register
accesses. -/
namespace Sys2Proof.Machine

/-- One of the DC64s. -/
def State.dc (s : State) (u : DcId) : Dc := match u with | .u0 => s.dc0 | .u1 => s.dc1

/-- Replace one of the DC64s. -/
def State.setDc (s : State) (u : DcId) (d : Dc) : State := match u with | .u0 => { s with dc0 := d } | .u1 => { s with dc1 := d }

/-- The DF640 at port `n`. -/
def State.df (s : State) (n : Nat) : Df := FMap.get dfFresh s.dfs n

/-- Replace the DF640 at port `n`. -/
def State.setDf (s : State) (n : Nat) (f : Df) : State := { s with dfs := FMap.put dfFresh s.dfs n f }

/-- What a direct access answered. DESIGN CHOICE (log entry 17). -/
def State.answer (s : State) (status : Nat) (w : Word) : State := { s with result := (status, w) }

/-- The other unit. -/
def otherUnit : DcId → DcId
  | .u0 => .u1
  | .u1 => .u0

/-- The number of a unit: the homing port of every DF640 that it is wired to. -/
def unitNum : DcId → Nat
  | .u0 => 0
  | .u1 => 1

/-- The unit at homing port `h`. -/
def unitAt (h : Nat) : DcId := if h = 0 then .u0 else .u1

/-- The next state of a command that changes one DC64. -/
def onDc (s : State) (u : DcId) (f : Dc → Dc) : Host.Outcome State Fault Refusal := .next (s.setDc u (f (s.dc u)))

/-- The next state of a command that changes one DF640. -/
def onDf (s : State) (n : Nat) (f : Df → Df) : Host.Outcome State Fault Refusal := .next (s.setDf n (f (s.df n)))

/-- The next state of a register write of one DC64 that answers a status. -/
def onDcStatus (s : State) (u : DcId) (f : Dc → Dc × Nat) : Host.Outcome State Fault Refusal :=
  let x := f (s.dc u)
  .next ((s.setDc u x.1).answer x.2 0)

/-- The next state of a register write of one DF640 that answers a status. -/
def onDfStatus (s : State) (n : Nat) (f : Df → Df × Nat) : Host.Outcome State Fault Refusal :=
  let x := f (s.df n)
  .next ((s.setDf n x.1).answer x.2 0)

/-- The positions of a log that its unit can serve: a formatted store that is ready (R319). -/
def Dc.logServed (d : Dc) : Option PeatPos := if d.peat.flash.formatted ∧ d.fld DC.PEAT.STATUS.READY = 1 then some d.peat.log else none

/-- The unit sees the partner's log as it stands (R319). -/
def State.seeLog (s : State) (u : DcId) : State := s.setDc u ((s.dc u).seePartner (s.dc (otherUnit u)).logServed)

end Sys2Proof.Machine
end

