-- ==== Sys2Proof/Machine/Ladder.lean ====
section
/-! DEFINITION. The training ladder between the chips (R153 to R158, R162): a direction moves at both of its ends, except at an end that is OFF
or in TEST. -/
namespace Sys2Proof.Machine

/-- An end that follows what the other end does. -/
def follows (st : Nat) : Bool := st != lOff && st != lTest

/-- Start a pass at a receiver afresh: no verdict. -/
def Train.restart (t : Train) (rung0 : Bool) : Train := if rung0 then { afterFault := t.afterFault } else { t with verdict := 0, errors := 0 }

/-- The DC64's end of uplink lane `l` moves to a ladder state at a rung. -/
def Dc.upEnd (d : Dc) (n j st rung : Nat) (bring : Bool) : Dc :=
  let d := if follows (d.fld (DC.IBR.LANE.STATE n j)) then d.rxTo n j st rung else d
  let d := if st = lLock then d.setRecv (2 * n + j) { d.recv (2 * n + j) with train := (d.recv (2 * n + j)).train.restart bring } else d
  let d := if st = lLock then d.setPort n { d.port n with upDec := (0, 0) } else d
  d.noteDegraded n

/-- Uplink lane `l` of a DF640 moves to a ladder state at a rung, at both ends. DESIGN CHOICE (log entry 9). -/
def State.moveUp (s : State) (n l st rung : Nat) (bring : Bool := false) : State :=
  let u := unitAt (l / 2)
  let f := s.df n
  let s := s.setDc u ((s.dc u).upEnd n (l % 2) st rung bring)
  if follows (f.fld (DF.LINK.LANE.STATE l)) then s.setDf n (f.moveLane l st rung) else s

/-- The DC64's end of downlink `n` enters LOCK at a rung, where it follows. -/
def Dc.dnLock (d : Dc) (n rung : Nat) (bring : Bool) : Dc :=
  let p := (d.port n).lock (d.fld (DC.IBR.STAT.DN_STATE n)) (decide (d.fld (DC.IBR.STAT.DN_RUNG n) ≠ rung))
  let d := d.dnTo n lLock rung
  d.setPort n { d.port n with dn := (d.port n).dn.restart bring, slot := p.slot, pass := p.pass, dnDec := (0, 0) }

/-- What follows in the DC64s when a DF640 changed: lanes and downlinks that it sent to LOCK leave their states at the other end too; those that
a LINK_STEP restarts climb again from rung 0 (R158). DEDUCED (log entry 14). -/
def State.follow (s : State) (n : Nat) (old : Df) : State :=
  let f := s.df n
  let again (pick : Nat × Nat → Nat) (i : Nat) : Bool :=
    match old.cmd.step with | some (lanes, downs, restart) => restart && f.cmd.step.isNone && (pick (lanes, downs)).testBit i | none => false
  let lane (s : State) (l : Nat) : State :=
    let st := f.fld (DF.LINK.LANE.STATE l)
    let rung := f.fld (DF.LINK.LANE.RUNG l)
    let d := s.dc (unitAt (l / 2))
    if st = lLock ∧ (old.fld (DF.LINK.LANE.STATE l) = lRun ∨ (follows (old.fld (DF.LINK.LANE.STATE l)) ∧ rung ≠ old.fld (DF.LINK.LANE.RUNG l)))
        ∧ follows (d.fld (DC.IBR.LANE.STATE n (l % 2))) then s.setDc (unitAt (l / 2)) (d.upEnd n (l % 2) lLock rung (again (·.1) l))
    else s
  let down (s : State) (h : Nat) : State :=
    let rung := f.fld (DF.LINK.DN.RUNG h)
    let d := s.dc (unitAt h)
    if f.fld (DF.LINK.DN.STATE h) = lLock ∧ (old.fld (DF.LINK.DN.STATE h) = lRun ∨ rung ≠ old.fld (DF.LINK.DN.RUNG h)) ∧ d.dnRun n then
      s.setDc (unitAt h) (d.dnLock n rung (again (·.2) h))
    else s
  [0, 1].foldl down ([0, 1, 2, 3].foldl lane s)

/-- Replace a DF640 and let the DC64s follow what its lanes did. -/
def State.putDf (s : State) (n : Nat) (f : Df) : State := (s.setDf n f).follow n (s.df n)

/-- The downlink to receiver `h` of a DF640 moves to a ladder state at a rung, at both ends. -/
def State.moveDown (s : State) (n h st rung : Nat) (bring : Bool := false) : State :=
  let d := s.dc (unitAt h)
  let d := if !follows (d.fld (DC.IBR.STAT.DN_STATE n)) then d else if st = lLock then d.dnLock n rung bring else d.dnTo n st rung
  let s := s.setDc (unitAt h) (d.noteDegraded n)
  let f := s.df n
  if follows (f.fld (DF.LINK.DN.STATE h)) then
    let f := f.downTo h st rung
    let f := if st = lLock then f.setDown h { f.down h with train := (f.down h).train.restart bring } else f
    s.putDf n f
  else s

/-- A Causeway lane as unit `u` receives it moves to a ladder state at a rung, and its transmitter at the partner with it (R135). DEDUCED (log entry 11). -/
def State.moveCause (s : State) (u : DcId) (l st rung : Nat) (bring : Bool := false) : State :=
  let d := s.dc u
  let x := d.lane l
  let left := x.state == lRun && st != lRun
  let rx := if left then { x.rx with lastSeq := none, crcRun := 0, missRun := 0, mark := none } else x.rx
  let rx := if st = lLock then { rx with train := rx.train.restart bring } else rx
  let dec := if st = lLock then (0, 0) else x.dec
  let s := s.setDc u (d.setLane l { x with state := st, rung := rung, rx := rx, dec := dec, retrains := if left then satAdd 8 x.retrains 1 else x.retrains })
  let e := s.dc (otherUnit u)
  if st = lLock then s.setDc (otherUnit u) (e.setLane l { e.lane l with tx := (e.lane l).tx.lock x.state false (decide (x.rung ≠ rung)) }) else s

/-- Where a port's cap was lowered, the DF640's ends follow lanes and downlinks that the DC64 sent to LOCK (R158). -/
def State.capFollow (s : State) (u : DcId) (old : Dc) : State :=
  let d := s.dc u
  (List.range 64).foldl (fun (s : State) (n : Nat) =>
    let s := [0, 1].foldl (fun (s : State) (j : Nat) =>
      if old.rxRun n j ∧ d.fld (DC.IBR.LANE.STATE n j) = lLock then s.moveUp n (2 * unitNum u + j) lLock (d.fld (DC.IBR.LANE.RUNG n j)) else s) s
    if old.dnRun n ∧ d.fld (DC.IBR.STAT.DN_STATE n) = lLock then s.moveDown n (unitNum u) lLock (d.fld (DC.IBR.STAT.DN_RUNG n)) else s) s

/-- Replace a DC64 after a register write. -/
def State.putDc (s : State) (u : DcId) (d : Dc) : State := (s.setDc u d).capFollow u (s.dc u)

/-- The state code and rung of a direction at its DC64's end, and where its receiver's training is kept. -/
def State.dirState (s : State) (x : Dir) : Nat × Nat :=
  match x with
  | .up n l => let d := s.dc (unitAt (l.val / 2)); (d.fld (DC.IBR.LANE.STATE n (l.val % 2)), d.fld (DC.IBR.LANE.RUNG n (l.val % 2)))
  | .down n h => let d := s.dc (unitAt h.val); (d.fld (DC.IBR.STAT.DN_STATE n), d.fld (DC.IBR.STAT.DN_RUNG n))
  | .cause u l => let c := (s.dc u).lane l; (c.state, c.rung)

/-- A direction moves to a ladder state at a rung. -/
def State.move (s : State) (x : Dir) (st rung : Nat) (bring : Bool := false) : State :=
  match x with
  | .up n l => s.moveUp n l st rung bring
  | .down n h => s.moveDown n h st rung bring
  | .cause u l => s.moveCause u l st rung bring

/-- What the receiver of a direction remembers of its training. -/
def State.train (s : State) (x : Dir) : Train :=
  match x with
  | .up n l => ((s.dc (unitAt (l.val / 2))).recv (2 * n + l.val % 2)).train
  | .down n h => ((s.df n).down h).train
  | .cause u l => ((s.dc u).lane l).rx.train

/-- Change what the receiver of a direction remembers. -/
def State.setTrain (s : State) (x : Dir) (t : Train) : State :=
  match x with
  | .up n l =>
    let d := s.dc (unitAt (l.val / 2))
    s.setDc (unitAt (l.val / 2)) (d.setRecv (2 * n + l.val % 2) { d.recv (2 * n + l.val % 2) with train := t })
  | .down n h => let f := s.df n; s.setDf n (f.setDown h { f.down h with train := t })
  | .cause u l => let d := s.dc u; s.setDc u (d.setLane l { d.lane l with rx := { (d.lane l).rx with train := t } })

/-- A receiver in LOCK finds two markers at the right spacing (R153). The two ends must be at one rung; in LISTEN the DF640 finds the training
layout of rung 0 (R439). -/
def State.laneLock (s : State) (x : Dir) : State :=
  let (st, rung) := s.dirState x
  if st ≠ lLock then s
  else
    match x with
    | .up n l => let f := s.df n; if f.fld (DF.LINK.LANE.STATE l) = lLock ∧ f.fld (DF.LINK.LANE.RUNG l) = rung then s.moveUp n l lTrain rung else s
    | .down n h =>
      let f := s.df n
      if f.fld (DF.LINK.DN.STATE h) = lLock ∧ (f.fld (DF.LINK.DN.RUNG h) = rung ∨ (f.state = dfListen ∧ rung = 0)) then
        let s := s.moveDown n h lTrain rung
        s.setDf n ((s.df n).downLocked h)
      else s
    | .cause u l => s.moveCause u l lTrain rung

/-- The rung of a direction fails: the verdict is FAIL and the direction enters JUDGE. -/
def State.rungFails (s : State) (x : Dir) : State := (s.setTrain x { s.train x with verdict := 2 }).move x lJudge (s.dirState x).2

/-- A receiver in LOCK finds no markers in 4 periods (R153). -/
def State.lockTimeout (s : State) (x : Dir) : State :=
  match x with
  | .down n h => if (s.df n).fld (DF.LINK.DN.STATE h) = lLock ∧ (s.df n).state ≠ dfListen ∧ (s.dirState x).1 = lLock then s.rungFails x else s
  | x => if (s.dirState x).1 = lLock then s.rungFails x else s

/-- Errors that a pass of this direction may count (R156). -/
def State.errMax (s : State) (x : Dir) : Nat :=
  match x with
  | .up n l => (s.dc (unitAt (l.val / 2))).fld (DC.IBR.CFG.ERR_MAX n)
  | .down n h => (s.dc (unitAt h.val)).fld (DC.IBR.CFG.ERR_MAX n)
  | .cause _ _ => 0

/-- The PRBS31 pass of a direction ends (R153, R156). DEDUCED (log entry 10). -/
def State.passEnd (s : State) (x : Dir) (errors : Nat) (inStep : Bool) : State :=
  let (st, rung) := s.dirState x
  if st ≠ lTrain then s
  else
    let pass : Bool := inStep && decide (errors ≤ s.errMax x)
    (s.setTrain x { s.train x with verdict := if pass then 1 else 2, errors := min errors (2 ^ 32 - 1) }).move x lJudge rung

/-- A judge word has been seen in two consecutive judge slots (R155), of a direction that trains or is in RUN. From a DF640 it tells the DC64 the verdict on the downlink; from a DC64 it
tells the DF640 the decisions. -/
def State.judgeWord (s : State) (x : Dir) (w : Rec) : State :=
  if rb w 48 16 ≠ 0xA7E5 then s
  else
    match x with
    | .up n l =>
      let d := s.dc (unitAt (l.val / 2))
      if rb w 47 1 = 0 ∧ (training (s.dirState x).1 ∨ (s.dirState x).1 = lRun) ∧ d.fld (DC.IBR.STAT.DN_STATE n) = lJudge ∧ rb w 41 2 = d.fld (DC.IBR.STAT.DN_RUNG n) then
        s.setDc (unitAt (l.val / 2)) (d.setPort n { d.port n with dn := { (d.port n).dn with verdict := rb w 39 2, errors := rb w 0 32 } })
      else s
    | .down n h =>
      let f := s.df n
      if rb w 47 1 = 1 ∧ (training (f.fld (DF.LINK.DN.STATE h)) ∨ f.downRun h) then
        s.setDf n (f.setDown h { f.down h with train := { (f.down h).train with decision := rb w 35 4 } })
      else s
    | .cause u l => if training (s.dirState x).1 ∨ (s.dirState x).1 = lRun then s.setTrain (.cause u l) { s.train (.cause u l) with decision := rb w 35 4 } else s

/-- One decision takes effect on a direction (R156, R157). `dn`: what the DC64 remembers of the downlink steps down with it. -/
def State.decided (s : State) (x : Dir) (dec rung : Nat) : State :=
  let down (s : State) (t : Train) : State :=
    match x with
    | .down n h => let d := s.dc (unitAt h.val); s.setDc (unitAt h.val) (d.setPort n { d.port n with dn := { (d.port n).dn with stepTo := t.stepTo, steppedDown := t.steppedDown, faultFrame := t.faultFrame } })
    | _ => s
  let keep (t : Train) : State := down (s.setTrain x t) t
  let t := match x with | .down n h => { s.train x with steppedDown := ((s.dc (unitAt h.val)).port n).dn.steppedDown } | _ => s.train x
  if dec = decUp then (keep { t with stepTo := rung + 1 }).move x lStep rung
  else if dec = decDown then (keep { t with stepTo := rung - 1, steppedDown := true }).move x lStep rung
  else if dec = decRun then s.move x lRun rung
  else if dec = decFault then
    let frame := match x with | .up _ l => (s.dc (unitAt (l.val / 2))).frame | .down _ h => (s.dc (unitAt h.val)).frame | .cause u _ => (s.dc u).frame
    (keep { t with faultFrame := frame }).move x lFault rung
  else s

/-- The port has a direction that enters FAULT: the notice of R422. -/
def State.faultNotice (s : State) (u : DcId) (dec n : Nat) : State := if dec = decFault then s.setDc u ((s.dc u).notify 0x0401 n) else s

/-- The receiving unit's decision for a Causeway lane (R135, R156). -/
def CwLane.decision (x : CwLane) : Nat :=
  if x.rx.train.verdict = 0 then decHold else decide1 x.rung 3 (x.rx.train.verdict == 1) x.rx.train.steppedDown

/-- The judge word that a unit sends on Causeway lane `l`, which it sends at rung `out` (R155). DEDUCED (log entry 11). -/
def CwLane.judge (x : CwLane) (out : Nat) : Rec := judgeWord 1 out x.rung x.rx.train.verdict 0 (x.decision % 4) x.rx.train.errors

/-- A unit sends one slot on Causeway lane `l`, whose direction is in state `st` at a rung (R135, R140, R154, R155): a block, an idle slot or a
judge slot in RUN, a train or judge slot in training. -/
def Dc.causeSlot (d : Dc) (l st rung : Nat) : Dc :=
  let x := d.lane l
  let k := x.tx.slot
  let tx : TxLane := { x.tx with slot := k + 1 }
  let judge (d : Dc) : Dc :=
    (d.setLane l { x with tx := tx, dec := sentAgain x.dec x.decision }).emit (.cause l (upSlot l k (plainSlot 32 (x.judge rung))))
  if 4096 ≤ k then d
  else if st = lRun then
    match x.tx.todo with
    | b :: t => (d.setLane l { x with tx := { tx with todo := t } }).emit (.cause l (upSlot l k b))
    | [] => if training x.state then judge d else (d.setLane l { x with tx := tx }).emit (.cause l (upSlot l k (plainSlot 32 idleWord)))
  else if training st then
    if k < 512 then (d.setLane l { x with tx := tx }).emit (.cause l (trainSlot k)) else judge d
  else d

/-- A unit sends its marker slot on Causeway lane `l` once 4,096 other slots have passed, and stamps its departure (R135, R141, R175). -/
def Dc.causeMarkerSend (d : Dc) (l st rung m fine : Nat) : Dc :=
  let x := d.lane l
  if x.tx.slot < 4096 ∨ !(st == lRun || training st) then d
  else
    let d := d.until m
    let y := { x with tx := { x.tx with slot := 0, markers := (x.tx.markers + 1) % 2 ^ 24 }, left := ((1024 * m + fine, x.tx.markers) :: x.left).take 64 }
    (d.setLane l y).emit (.causeMarker l (markerSlotLine (markerWord l rung x.tx.markers)) m fine)

/-- A ladder decision of unit `u` that four judge slots in a row have carried takes effect at the next marker of its direction (R156, R157): the
lanes of a homing port that have reached JUDGE step together. -/
def State.decisionApply (s : State) (u : DcId) (x : Dir) : State :=
  match x with
  | .up n l =>
    if unitAt (l.val / 2) ≠ u ∨ (s.dirState x).1 ≠ lJudge then s
    else
      let d := s.dc u
      let go (s : State) (j : Nat) : State :=
        let k : Fin 4 := Fin.ofNat 4 (2 * unitNum u + j)
        if d.fld (DC.IBR.LANE.STATE n j) = lJudge ∧ sentEnough (d.port n).upDec (d.upDecision n j) then
          (s.decided (.up n k) (d.upDecision n j) (d.fld (DC.IBR.LANE.RUNG n j))).faultNotice u (d.upDecision n j) n
        else s
      let s := [0, 1].foldl go s
      let s := s.setDf n (s.df n).listenDone
      s.putDc u ((s.dc u).capRetrain n)
  | .down n h =>
    if unitAt h.val ≠ u ∨ (s.dirState x).1 ≠ lJudge then s
    else
      let dec := (s.dc u).dnDecision n
      if !sentEnough ((s.dc u).port n).dnDec dec then s
      else
      let s := (s.decided x dec (s.dirState x).2).faultNotice u dec n
      s.setDf n (s.df n).listenDone
  | .cause v l =>
    if v ≠ u ∨ (s.dirState x).1 ≠ lJudge then s
    else
      let dec := ((s.dc u).lane l).decision
      if sentEnough ((s.dc u).lane l).dec dec then s.decided x dec (s.dirState x).2 else s

/-- A direction in STEP reaches its next marker (R153). -/
def State.stepEnd (s : State) (x : Dir) : State := if (s.dirState x).1 = lStep then s.move x lLock (s.train x).stepTo else s

/-- A direction has been in FAULT for 4,096 frames (R153). -/
def State.faultEnd (s : State) (x : Dir) : State :=
  if (s.dirState x).1 ≠ lFault then s
  else
    let u := match x with | .up _ l => unitAt (l.val / 2) | .down _ h => unitAt h.val | .cause u _ => u
    let t := s.train x
    let s := s.setDc u ((s.dc u).until ((t.faultFrame + 4096) * frameTicks))
    (s.setTrain x { t with afterFault := true }).move x lLock 0 true

/-- A receiver misses one marker or frame marker; the second in a row takes a direction out of RUN (R158). DEDUCED (log entry 12). -/
def State.markerMiss (s : State) (x : Dir) : State :=
  match x with
  | .up n l =>
    let u := unitAt (l.val / 2)
    let y := (s.dc u).miss n (l.val % 2)
    let s := s.setDc u y.1
    if y.2 then s.moveUp n l lLock (s.dirState x).2 else s
  | .down n h => s.putDf n ((s.df n).downMiss h)
  | .cause u l =>
    let d := s.dc u
    let c := d.lane l
    if c.state ≠ lRun then s
    else
      let s := s.setDc u (d.setLane l { c with rx := { c.rx with missRun := c.rx.missRun + 1 } })
      if 2 ≤ c.rx.missRun + 1 then s.moveCause u l lLock c.rung else s

/-- The lanes of the Causeway in RUN whose latest markers belong to the pair of a marker at `f`, and lie within 32 ticks, are delayed to the
latest of them (R149). -/
def Dc.causeSkew (d : Dc) (f : Nat) : Dc :=
  let at' (a : Nat) : Option Nat := match (d.lane a).rx.mark with
    | some m => if (d.lane a).state = lRun ∧ markPair m.1 f then some m.1 else none
    | none => none
  let last := (List.range 4).foldl (fun (m : Nat) (a : Nat) => max m ((at' a).getD 0)) 0
  (List.range 4).foldl (fun (d : Dc) (a : Nat) => match at' a with
    | some m => if last - m ≤ 32 * 1024 then d.setLane a { d.lane a with delay := last - m } else d
    | none => d) d

/-- A Causeway receiver stamps a marker; a lane more than 32 ticks later than another leaves RUN and retrains (R149). -/
def State.causeMarker (s : State) (u : DcId) (l : Nat) (word : Rec) (f : Nat) : State :=
  let d := s.dc u
  let c := d.lane l
  if c.state = lOff ∨ c.state = lTest ∨ c.state = lFault ∨ rb word 56 8 ≠ 0x4D then s
  else
    let d := d.until (f / 1024)
    let d := (d.setLane l { c with rx := c.rx.stamp f (rb word 28 24) }).causeSkew f
    let s := s.setDc u d
    let late (a b : Nat) : Bool := match (d.lane a).rx.mark, (d.lane b).rx.mark with
      | some x, some y => (d.lane a).state == lRun && (d.lane b).state == lRun && markPair x.1 y.1 && decide (y.1 + 32 * 1024 < x.1)
      | _, _ => false
    (List.range 4).foldl (fun (s : State) (a : Nat) =>
      if (List.range 4).any (fun b => late a b) then s.moveCause u a lLock (d.lane a).rung else s) s

/-- A receiver of unit `u` stamps a marker (R149, R167). -/
def State.marker (s : State) (u : DcId) (x : Dir) (word : Rec) (f : Nat) : State :=
  match x with
  | .up n l => if unitAt (l.val / 2) = u then s.setDc u ((s.dc u).marker n (l.val % 2) word f) else s
  | .down _ _ => s
  | .cause v l => if v = u then s.causeMarker u l word f else s

/-- Both uplink lanes of a port have been out of RUN for 4 marker periods of the rung they last held (R158): the link comes up again. -/
def State.downlinkRestart (s : State) (u : DcId) (n : Nat) : State :=
  let d := s.dc u
  match (d.port n).outFrom with
  | none => s
  | some t =>
    if d.fld (DC.IBR.CFG.EN n) = 0 ∨ d.fld (DC.IBR.CFG.TEST n) = 1 then s
    else
      let rung := max (d.fld (DC.IBR.LANE.RUNG n 0)) (d.fld (DC.IBR.LANE.RUNG n 1))
      let s := s.setDc u ((d.until (t + 4 * markerPeriod rung)).startLadder n)
      let h := unitNum u
      ((s.moveDown n h lLock 0 true).moveUp n (2 * h) lLock 0 true).moveUp n (2 * h + 1) lLock 0 true

/-- A DC64's downlinks whose DF640 sleeps in DORMANT stop at the frame boundary, and the DF640's lanes towards it go OFF (R162, R441). DEDUCED (log entry 13). -/
def State.sleepPorts (s : State) (u : DcId) : State :=
  (s.dfs.map (·.1)).foldl (fun (s : State) (n : Nat) =>
    let f := s.df n
    let d := s.dc u
    if f.state = dfDormant ∧ f.cmd.sleepOk ∧ d.fld (DC.IBR.CFG.EN n) = 1 ∧ d.dnRun n then
      let d := (d.rxTo n 0 lOff (d.fld (DC.IBR.LANE.RUNG n 0)) true).rxTo n 1 lOff (d.fld (DC.IBR.LANE.RUNG n 1)) true
      let d := d.dnTo n lOff (d.fld (DC.IBR.STAT.DN_RUNG n))
      let d := d.setPort n { d.port n with asleep := true }
      let h := unitNum u
      let f := (f.moveLane (2 * h) lOff (f.fld (DF.LINK.LANE.RUNG (2 * h)))).moveLane (2 * h + 1) lOff (f.fld (DF.LINK.LANE.RUNG (2 * h + 1)))
      (s.setDc u d).setDf n (f.downTo h lOff (f.fld (DF.LINK.DN.RUNG h)))
    else s) s

/-- The DC64 wakes a sleeping downlink at the rung it last held; every direction's first pass brings a new verdict (R156, R162). -/
def State.downlinkWake (s : State) (u : DcId) (n : Nat) : State :=
  let d := s.dc u
  if !(d.port n).asleep ∨ d.fld (DC.IBR.CFG.EN n) = 0 then s
  else
    let d := d.setPort n { d.port n with asleep := false }
    let d := d.dnLock n (d.fld (DC.IBR.STAT.DN_RUNG n)) false
    let d := (d.rxTo n 0 lLock (d.fld (DC.IBR.LANE.RUNG n 0)) true).rxTo n 1 lLock (d.fld (DC.IBR.LANE.RUNG n 1)) true
    let fresh (d : Dc) (r : Nat) : Dc := d.setRecv r { d.recv r with train := (d.recv r).train.restart false }
    let d := (fresh (fresh d (2 * n)) (2 * n + 1)).setPort n { (d.port n) with upDec := (0, 0) }
    let f := s.df n
    let h := unitNum u
    let s := s.setDc u d
    if f.fld (DF.LINK.DN.STATE h) = lOff then s.setDf n (f.downTo h lLock (d.fld (DC.IBR.STAT.DN_RUNG n))) else s

end Sys2Proof.Machine
end

