-- ==== Sys2Proof/Machine/Access.lean ====
section
/-! DEFINITION. Register accesses as commands: what one read or write of either chip answers, and a write that changes one field of a register and
keeps the others (R14 to R17, R475, R477). -/
namespace Sys2Proof.Machine

/-- The RW bits a register now holds: what a write that changes one field writes to the others. -/
def Dc.rwBits (d : Dc) (a : Nat) : Word := match findReg dcTable a with | some r => d.word a &&& r.rwMask | none => 0
def Df.rwBits (d : Df) (a : Nat) : Word := match findReg dfTable a with | some r => d.word a &&& r.rwMask | none => 0

/-- Write one field of a register and keep its other RW fields. DESIGN CHOICE (log entry 16). -/
def Dc.fieldWrite (d : Dc) (f : Fd) (v : Nat) : Dc × Nat := d.busWrite f.addr (withField (d.rwBits f.addr) f.lo f.width v)
def Df.fieldWrite (d : Df) (f : Fd) (v : Nat) : Df × Nat := d.writeReg f.addr (withField (d.rwBits f.addr) f.lo f.width v)

/-- A DC64 after a register write, with what it answered. -/
def State.dcDone (s : State) (u : DcId) (x : Dc × Nat) : State := (s.setDc u x.1).answer x.2 0

/-- A DC64 after a write to `DC.IBR.CFG[n]`, whose lowered caps the DF640's ends follow (R158). -/
def State.cfgDone (s : State) (u : DcId) (x : Dc × Nat) : State := (s.putDc u x.1).answer x.2 0

/-- A DF640 after a register write, with what it answered. -/
def State.dfDone (s : State) (n : Nat) (x : Df × Nat) : State := (s.setDf n x.1).answer x.2 0

/-- One register read of a chip by a requester (R14, R16, R17, R477). -/
def State.readOne (s : State) (c : ChipRef) (req addr : Nat) : State :=
  match c with
  | .dc u =>
    let x := (s.dc u).busRead req addr 1
    (s.setDc u x.1).answer x.2.1 (x.2.2.headD 0)
  | .df n =>
    if dfMapped addr 1 then
      let x := (s.df n).readReg req addr true
      (s.setDf n x.1).answer stOk x.2
    else s.answer stBadParam 0

/-- `REGISTER_WRITE` (R14): one register write of a chip. -/
def execRegisterWrite (c : ChipRef) (_req addr : Nat) (value : Word) (s : State) : Host.Outcome State Fault Refusal :=
  match c with
  | .dc u => .next (if (elemOf (DC.IBR.CFG.addr 0) 64 64 addr).isSome then s.cfgDone u ((s.dc u).busWrite addr value) else s.dcDone u ((s.dc u).busWrite addr value))
  | .df n => .next (s.dfDone n ((s.df n).writeReg addr value))

/-- `RC_READ` (R17): a read that clears the RC fields of the register. -/
def execRcRead (c : ChipRef) (req addr : Nat) (s : State) : Host.Outcome State Fault Refusal := .next (s.readOne c req addr)

/-- `LO_READ_LATCH` (R477): a read that latches what the register's table names, for its requester. -/
def execLoReadLatch (c : ChipRef) (req addr : Nat) (s : State) : Host.Outcome State Fault Refusal := .next (s.readOne c req addr)

/-- `TXQ_HEAD` (R180): a read of `DC.TIME.TXQ_HEAD`. -/
def execTxqHead (u : DcId) (req : Nat) (s : State) : Host.Outcome State Fault Refusal := .next (s.readOne (.dc u) req DC.TIME.TXQ_HEAD.addr)

/-- `CONTEXT_WRITE` (R219): the host writes one word of the context window. -/
def execContextWrite (u : DcId) (i w : Nat) (value : Word) (s : State) : Host.Outcome State Fault Refusal :=
  .next (s.dcDone u ((s.dc u).busWrite (ctxWindow + 64 * i + 4 * w) value))

/-- `EPOCH_SET_GO` (R166): a 1 is written to `SET_HI.GO`. -/
def execEpochSetGo (u : DcId) (s : State) : Host.Outcome State Fault Refusal := .next (s.dcDone u ((s.dc u).fieldWrite DC.TIME.SET_HI.GO 1))

/-- `PORT_EN` (R164): `DC.IBR.CFG[n].EN` is written. -/
def execPortEn (u : DcId) (n : Nat) (en : Bool) (s : State) : Host.Outcome State Fault Refusal :=
  .next (s.cfgDone u ((s.dc u).fieldWrite (DC.IBR.CFG.EN n) en.toNat))

/-- `PORT_TEST` (R159): `DC.IBR.CFG[n].TEST` is written. -/
def execPortTest (u : DcId) (n : Nat) (on : Bool) (s : State) : Host.Outcome State Fault Refusal :=
  .next (s.cfgDone u ((s.dc u).fieldWrite (DC.IBR.CFG.TEST n) on.toNat))

/-- `LANE_TEST` (R159): `DF.LINK.TEST.LANES` is written. -/
def execLaneTest (n lanes : Nat) (s : State) : Host.Outcome State Fault Refusal := .next (s.dfDone n ((s.df n).fieldWrite DF.LINK.TEST.LANES lanes))

/-- `INJ_ERR` (R159): one transmitted bit of the port, or of the DF640's lanes in TEST, is inverted. -/
def execInjErr (c : ChipRef) (n : Nat) (s : State) : Host.Outcome State Fault Refusal :=
  match c with
  | .dc u => .next (s.cfgDone u ((s.dc u).fieldWrite (DC.IBR.CFG.INJ_ERR n) 1))
  | .df m => .next (s.dfDone m ((s.df m).fieldWrite DF.LINK.TEST.INJ_ERR 1))

/-- `RETRY` (R85): a 1 is written to `DF.REED.CH[n].RETRY`. -/
def execRetry (n ch : Nat) (s : State) : Host.Outcome State Fault Refusal := .next (s.dfDone n ((s.df n).fieldWrite (DF.REED.CH.RETRY ch) 1))

/-- `ENGINE_EN` (R241): `DC.TRG.CTRL.EN` is written. -/
def execEngineEn (u : DcId) (en : Bool) (s : State) : Host.Outcome State Fault Refusal := .next (s.dcDone u ((s.dc u).fieldWrite DC.TRG.CTRL.EN en.toNat))

/-- `PATTERN_EN` (R241): `DC.TRG.PCTRL[j]` is written. -/
def execPatternEn (u : DcId) (j : Nat) (value : Word) (s : State) : Host.Outcome State Fault Refusal :=
  .next (s.dcDone u ((s.dc u).busWrite (DC.TRG.PCTRL.addr j) value))

/-- `MASK_LOAD` (R277): the LOAD bit of mask `m` opens it for writing, or closes it. -/
def execMaskLoad (u : DcId) (m : Nat) (open' : Bool) (s : State) : Host.Outcome State Fault Refusal :=
  let d := s.dc u
  let l := d.fld DC.QLF.MASK_CTRL.LOAD
  .next (s.dcDone u (d.fieldWrite DC.QLF.MASK_CTRL.LOAD (if open' then l ||| 2 ^ m else l &&& (255 - 2 ^ m))))

/-- `LZD_FLUSH` (R289): FLUSH0 or FLUSH1 is written. -/
def execLzdFlush (u : DcId) (stream : Nat) (s : State) : Host.Outcome State Fault Refusal :=
  .next (s.dcDone u ((s.dc u).fieldWrite (if stream = 0 then DC.CMP.CTRL.FLUSH0 else DC.CMP.CTRL.FLUSH1) 1))

/-- `FOLD_START` (R293): a 1 is written to START of a Fold context. -/
def execFoldStart (u : DcId) (x : Nat) (s : State) : Host.Outcome State Fault Refusal := .next (s.dcDone u ((s.dc u).fieldWrite (DC.FOLD.CFG.START x) 1))

/-- `FOLD_DATA64` (R293): `DATA_LO` of a Fold context is written. -/
def execFoldData64 (u : DcId) (x : Nat) (value : Word) (s : State) : Host.Outcome State Fault Refusal :=
  .next (s.dcDone u ((s.dc u).busWrite (DC.FOLD.DATA_LO.addr x) value))

/-- `FOLD_DATA32` (R293): `DATA32` of a Fold context is written. -/
def execFoldData32 (u : DcId) (x : Nat) (value : Word) (s : State) : Host.Outcome State Fault Refusal :=
  .next (s.dcDone u ((s.dc u).busWrite (DC.FOLD.DATA32.addr x) value))

/-- `FOLD_VALUE_WRITE` (R293): one half of `VALUE` of a Fold context is written. -/
def execFoldValueWrite (u : DcId) (x : Nat) (hi : Bool) (value : Word) (s : State) : Host.Outcome State Fault Refusal :=
  .next (s.dcDone u ((s.dc u).busWrite (if hi then DC.FOLD.VALUE_HI.addr x else DC.FOLD.VALUE_LO.addr x) value))

/-- `PEAT_STORE_EN` (R307): `DC.PEAT.CTRL` is written. -/
def execPeatStoreEn (u : DcId) (value : Word) (s : State) : Host.Outcome State Fault Refusal := .next (s.dcDone u ((s.dc u).busWrite DC.PEAT.CTRL.addr value))

/-- `LOG_ACK` (R339): `DC.MEM.LOG_ACK` is written. -/
def execLogAck (u : DcId) (index : Nat) (s : State) : Host.Outcome State Fault Refusal :=
  .next (s.dcDone u ((s.dc u).busWrite DC.MEM.LOG_ACK.addr (BitVec.ofNat 32 index)))

/-- `HK_EN` (R378): `DF.HK.CTRL` is written. -/
def execHkEn (n : Nat) (value : Word) (s : State) : Host.Outcome State Fault Refusal := .next (s.dfDone n ((s.df n).writeReg DF.HK.CTRL.addr value))

/-- `HK_CALIBRATION` (R386): a 1 is written to `DF.HK.CTRL.CAL`. -/
def execHkCalibration (n : Nat) (s : State) : Host.Outcome State Fault Refusal := .next (s.dfDone n ((s.df n).fieldWrite DF.HK.CTRL.CAL 1))

/-- `SNAP` (R470): a 1 is written to `DC.LDG.CTRL.SNAP`. -/
def execSnap (u : DcId) (s : State) : Host.Outcome State Fault Refusal := .next (s.dcDone u ((s.dc u).fieldWrite DC.LDG.CTRL.SNAP 1))

/-- `GO_CLUSTER` (R436): a 1 is written to `DC.BOOT.CTRL.GO_CLUSTER`. -/
def execGoCluster (u : DcId) (s : State) : Host.Outcome State Fault Refusal := .next (s.dcDone u ((s.dc u).fieldWrite DC.BOOT.CTRL.GO_CLUSTER 1))

/-- `GO_RUN` (R438): a 1 is written to `DC.BOOT.CTRL.GO_RUN`. -/
def execGoRun (u : DcId) (s : State) : Host.Outcome State Fault Refusal := .next (s.dcDone u ((s.dc u).fieldWrite DC.BOOT.CTRL.GO_RUN 1))

/-- `DONE` (R439): a 1 is written to `DF.BOOT.CTRL.DONE`. -/
def execDone (n : Nat) (s : State) : Host.Outcome State Fault Refusal := .next (s.dfDone n (s.df n).done)

/-- `SOFT_RESET` (R443): a RESET register is written. -/
def execSoftReset (c : ChipRef) (value : Word) (s : State) : Host.Outcome State Fault Refusal :=
  match c with
  | .dc u => .next (s.dcDone u ((s.dc u).busWrite DC.BOOT.RESET.addr value))
  | .df n => .next (s.dfDone n ((s.df n).writeReg DF.BOOT.RESET.addr value))

end Sys2Proof.Machine
end

