-- ==== Sys2Proof/Machine/ExecDf.lean ====
section
/-! DEFINITION. The commands of the DF640's channels, Reed lines, hit stream, housekeeping and start-up (R35 to R130, R373 to R398, R439 to R446). -/
namespace Sys2Proof.Machine

/-- `LEADING_EDGE` (R46, R68): a rising edge of a channel. -/
def execLeadingEdge (n ch : Nat) (src : EdgeSource) (m : Nat) (x : EdgeSample) (s : State) : Host.Outcome State Fault Refusal :=
  onDf s n (·.leadingEdge ch src m x.taps x.level)

/-- `V_CROSSING` (R116): V is first sampled high. -/
def execVCrossing (n ch : Nat) (x : VSample) (s : State) : Host.Outcome State Fault Refusal := onDf s n (·.vCrossing ch x.tick x.level)

/-- `VALIDATION_WINDOW_END` (R46). -/
def execValidationWindowEnd (n ch : Nat) (s : State) : Host.Outcome State Fault Refusal := onDf s n (·.windowEnd ch)

/-- `GATE_CLOSE` (R50). -/
def execGateClose (n : Nat) (x : GateEnd) (s : State) : Host.Outcome State Fault Refusal := onDf s n (·.gateClose x.ch x.charge)

/-- `TRAILING_EDGE` (R53, R74). -/
def execTrailingEdge (n ch : Nat) (src : EdgeSource) (m : Nat) (taps : Taps) (s : State) : Host.Outcome State Fault Refusal :=
  onDf s n (·.trailingEdge ch src m taps)

/-- `TOT_SAT_TIMEOUT` (R53). -/
def execTotSatTimeout (n ch : Nat) (s : State) : Host.Outcome State Fault Refusal := onDf s n (·.totTimeout ch)

/-- `CLAMP_CONDUCTION` (R41). -/
def execClampConduction (n ch : Nat) (on : Bool) (s : State) : Host.Outcome State Fault Refusal := onDf s n (·.clamp ch on)

/-- `BLC_LIMIT` (R38). -/
def execBlcLimit (n ch : Nat) (on : Bool) (s : State) : Host.Outcome State Fault Refusal := onDf s n (·.blcLimit ch on)

/-- `BLANKING_END` (R49). -/
def execBlankingEnd (n ch : Nat) (s : State) : Host.Outcome State Fault Refusal := onDf s n (·.blankingEnd ch)

/-- `SOURCE_CHANGE_BLANK_END` (R94). -/
def execSourceChangeBlankEnd (n k : Nat) (s : State) : Host.Outcome State Fault Refusal := onDf s n (·.sourceBlankEnd k)

/-- `CALIBRATION_WINDOW_END` (R81). -/
def execCalibrationWindowEnd (n ch : Nat) (one two : Taps) (s : State) : Host.Outcome State Fault Refusal := onDf s n (·.calEnd ch one two)

/-- `REFRESH_TIMER_EXPIRY` (R77). -/
def execRefreshTimerExpiry (n ch : Nat) (s : State) : Host.Outcome State Fault Refusal := onDf s n (·.refreshExpiry ch)

/-- `CAL_RETRY_TIMER` (R85). -/
def execCalRetryTimer (n ch : Nat) (s : State) : Host.Outcome State Fault Refusal := onDf s n (·.calRetry ch)

/-- `ANCHOR_DLL_LOCK` (R91). -/
def execAnchorDllLock (n k : Nat) (s : State) : Host.Outcome State Fault Refusal := onDf s n (·.dllLock k)

/-- `ANCHOR_DLL_UNLOCK` (R92). -/
def execAnchorDllUnlock (n k : Nat) (s : State) : Host.Outcome State Fault Refusal := onDf s n (·.dllUnlock k)

/-- `ANCHOR_REARM` (R93). -/
def execAnchorRearm (n k : Nat) (s : State) : Host.Outcome State Fault Refusal := onDf s n (·.anchorRearm k)

/-- `ROOT_LOCK_LOSS` (R84). -/
def execRootLockLoss (n : Nat) (s : State) : Host.Outcome State Fault Refusal := onDf s n (·.rootLoss)

/-- `ROOT_LOCK_RETURN` (R84). -/
def execRootLockReturn (n : Nat) (s : State) : Host.Outcome State Fault Refusal := onDf s n (·.rootReturn)

/-- `INJECTION_LAUNCH` (R60). -/
def execInjectionLaunch (n slot : Nat) (levels : List (Nat × Bool × Int)) (s : State) : Host.Outcome State Fault Refusal := onDf s n (·.launch slot levels)

/-- `HIT_COMPLETE` (R108). -/
def execHitComplete (n ch : Nat) (s : State) : Host.Outcome State Fault Refusal := onDf s n (·.hitComplete ch)

/-- `DISPATCH` (R108, R109): one tick of the dispatcher; a reply that waited for room goes on (R416). -/
def execDispatch (n : Nat) (s : State) : Host.Outcome State Fault Refusal := onDf s n (·.dispatch.resume)

/-- `BLOCK_FLUSH_TIMEOUT` (R111). -/
def execBlockFlushTimeout (n p : Nat) (s : State) : Host.Outcome State Fault Refusal := onDf s n fun f => (f.flushTimeout p).resume

/-- `TUSSOCK_EVALUATION` (R118). -/
def execTussockEvaluation (n : Nat) (s : State) : Host.Outcome State Fault Refusal := onDf s n (·.tussockEval)

/-- `LEDGER_EMIT` (R129). -/
def execLedgerEmit (n : Nat) (s : State) : Host.Outcome State Fault Refusal := onDf s n (·.ledgerEmit)

/-- The DC64s note a change of the GATE in force of a DF640, from frame `b` on (R222). -/
def State.noteGates (s : State) (n b v : Nat) : State := (s.setDc .u0 (s.dc0.noteGate n b v)).setDc .u1 (s.dc1.noteGate n b v)

/-- `DF_FRAME_BOUNDARY` (R47, R124): what takes effect at the next frame boundary of the DF640, with what the lanes that it retrains do at the
other end (R158) and the GATE that the DC64s note (R222). -/
def execDfFrameBoundary (x : DfBoundary) (s : State) : Host.Outcome State Fault Refusal :=
  let f := s.df x.n
  let g := f.frameBoundary x.loopEnd
  let s := s.putDf x.n g
  let v := g.inForce DF.AFE.CONFIG.GATE
  .next (if v ≠ f.inForce DF.AFE.CONFIG.GATE ∧ g.state ≠ dfPower then s.noteGates x.n g.bt.boundary v else s)

/-- `HK_CONVERSION_SLOT` (R379). -/
def execHkConversionSlot (n : Nat) (codes wires : List Int) (clamped : Bool) (s : State) : Host.Outcome State Fault Refusal :=
  onDf s n (·.hkSlot codes wires clamped)

/-- `HK_CALIBRATION_DONE` (R386). -/
def execHkCalibrationDone (n : Nat) (points : List (Int × Int)) (s : State) : Host.Outcome State Fault Refusal := onDf s n (·.hkCalDone points)

/-- `HK_PORT_CLAMP` (R375). -/
def execHkPortClamp (n port : Nat) (on : Bool) (s : State) : Host.Outcome State Fault Refusal := onDf s n (·.hkClamp port on)

/-- `BIAS_EVALUATION` (R392). -/
def execBiasEvaluation (n : Nat) (s : State) : Host.Outcome State Fault Refusal := onDf s n (·.biasEval)

/-- `MONITOR_UPDATE` (R394, R395). -/
def execMonitorUpdate (n m age : Nat) (s : State) : Host.Outcome State Fault Refusal := onDf s n (·.monUpdate m age)

/-- `LISTEN_TIMEOUT` (R439). -/
def execListenTimeout (n : Nat) (s : State) : Host.Outcome State Fault Refusal := onDf s n (·.listenTimeout)

/-- `SAFE_ENTRY` (R442). -/
def execSafeEntry (n : Nat) (s : State) : Host.Outcome State Fault Refusal := onDf s n (·.safeEntry)

/-- `PHASE_SLEW_END` (R170). -/
def execPhaseSlewEnd (n : Nat) (s : State) : Host.Outcome State Fault Refusal := onDf s n (·.slewEnd)

/-- `PIN_RESET` (R443). -/
def execPinReset (n : Nat) (s : State) : Host.Outcome State Fault Refusal := onDf s n (·.resetBy causePin)

/-- `LEASE_EXPIRY` (R420). -/
def execLeaseExpiry (n : Nat) (s : State) : Host.Outcome State Fault Refusal := onDf s n (·.leaseExpiry)

/-- `ECHO_TIMEOUT` (R417). -/
def execEchoTimeout (n : Nat) (s : State) : Host.Outcome State Fault Refusal := onDf s n (·.echoTimeout)

end Sys2Proof.Machine
end

