-- ==== Sys2Proof/Machine/ExecHost.lean ====
section
/-! DEFINITION. The Absyn commands of the host, forwarded commands, and the frames that arrive beside them (R399 to R424, and the rules of each
command). -/
namespace Sys2Proof.Machine

/-- `SOFT` (R245). -/
def execSoft (u : DcId) (pkt : Pkt) (tag : Nat) (s : State) : Host.Outcome State Fault Refusal := onDc s u (·.cmdSoft pkt tag)

/-- `WINDOW` (R245). -/
def execWindow (u : DcId) (pkt : Pkt) (start stop tag : Nat) (s : State) : Host.Outcome State Fault Refusal := onDc s u (·.cmdWindow pkt start stop tag)

/-- `PEAT_CREDIT` (R317). -/
def execPeatCredit (u : DcId) (pkt : Pkt) (id limit : Nat) (s : State) : Host.Outcome State Fault Refusal := onDc (s.seeLog u) u (·.cmdCredit pkt id limit)

/-- `PEAT_ACK` (R317); for the partner's log, the items are those the partner holds. -/
def execPeatAck (u : DcId) (pkt : Pkt) (id pos : Nat) (s : State) : Host.Outcome State Fault Refusal :=
  onDc (s.seeLog u) u (·.cmdAck pkt id pos (s.dc (otherUnit u)).peat.flash.items)

/-- `PEAT_REWIND` (R317). -/
def execPeatRewind (u : DcId) (pkt : Pkt) (id pos : Nat) (s : State) : Host.Outcome State Fault Refusal := onDc (s.seeLog u) u (·.cmdRewind pkt id pos)

/-- `PEAT_CHECKPOINT` (R317). -/
def execPeatCheckpoint (u : DcId) (pkt : Pkt) (s : State) : Host.Outcome State Fault Refusal := onDc s u (·.cmdCheckpoint pkt)

/-- `PEAT_FORMAT` (R317). -/
def execPeatFormat (u : DcId) (pkt : Pkt) (word : Nat) (s : State) : Host.Outcome State Fault Refusal := onDc s u (·.cmdFormat pkt word)

/-- `PEAT_FENCE` (R317). -/
def execPeatFence (u : DcId) (pkt : Pkt) (index : Nat) (s : State) : Host.Outcome State Fault Refusal := onDc s u (·.cmdFence pkt index)

/-- `MEM_HEAL` (R341). -/
def execMemHeal (u : DcId) (pkt : Pkt) (c start len : Nat) (s : State) : Host.Outcome State Fault Refusal := onDc s u (·.cmdHeal pkt c start len)

/-- `MEM_RETIRE` (R343). -/
def execMemRetire (u : DcId) (pkt : Pkt) (c page : Nat) (s : State) : Host.Outcome State Fault Refusal := onDc s u (·.cmdRetire pkt c page)

/-- `PAIR_HANDOVER` (R369). -/
def execPairHandover (u : DcId) (pkt : Pkt) (s : State) : Host.Outcome State Fault Refusal := onDc s u (·.cmdHandover pkt)

/-- `PAIR_FORCE` (R369). -/
def execPairForce (u : DcId) (pkt : Pkt) (seq : Nat) (s : State) : Host.Outcome State Fault Refusal := onDc s u (·.cmdForce pkt seq)

/-- `ABSYN_READ` (R411). -/
def execAbsynRead (u : DcId) (pkt : Pkt) (addr count : Nat) (s : State) : Host.Outcome State Fault Refusal := onDc s u (·.cmdRead pkt addr count)

/-- `ABSYN_WRITE` (R411). -/
def execAbsynWrite (u : DcId) (pkt : Pkt) (addr : Nat) (value : Word) (s : State) : Host.Outcome State Fault Refusal :=
  .next (s.putDc u ((s.dc u).cmdWrite pkt addr value))

/-- `ABSYN_WRITE_BLOCK` (R411, R479). -/
def execAbsynWriteBlock (u : DcId) (pkt : Pkt) (addr : Nat) (values : List Word) (s : State) : Host.Outcome State Fault Refusal :=
  .next (s.putDc u ((s.dc u).cmdWriteBlock pkt addr values))

/-- `SESSION_OPEN` (R406): the session number is a free value. -/
def execSessionOpen (u : DcId) (pkt : Pkt) (nonce : Nat) (s : State) : Host.Outcome State Fault Refusal :=
  .next { s.setDc u ((s.dc u).cmdSessionOpen pkt nonce s.free) with free := s.free + 1 }

/-- `SESSION_CLOSE` (R411). -/
def execSessionClose (u : DcId) (pkt : Pkt) (s : State) : Host.Outcome State Fault Refusal := onDc s u (·.cmdSessionClose pkt)

/-- `NOTICE_ACK` (R423). -/
def execNoticeAck (u : DcId) (pkt : Pkt) (seq : Nat) (s : State) : Host.Outcome State Fault Refusal := onDc s u (·.cmdNoticeAck pkt seq)

/-- `NOTICE_RESEND` (R423). -/
def execNoticeResend (u : DcId) (s : State) : Host.Outcome State Fault Refusal := onDc s u (·.noticeResend)

/-- `FORWARDED` (R412). -/
def execForwarded (u : DcId) (pkt : Pkt) (params : List Rec) (s : State) : Host.Outcome State Fault Refusal := onDc s u (·.cmdForward pkt params)

/-- `COMMAND_FRAME_SEND` (R414). -/
def execCommandFrameSend (u : DcId) (n : Nat) (s : State) : Host.Outcome State Fault Refusal := onDc s u (·.frameSend n)

/-- `COMMAND_RETRY` (R414). -/
def execCommandRetry (u : DcId) (n : Nat) (s : State) : Host.Outcome State Fault Refusal := onDc s u (·.frameRetry n)

/-- `ARP_REQUEST` (R399). -/
def execArpRequest (u : DcId) (port ip asker : Nat) (s : State) : Host.Outcome State Fault Refusal := onDc s u (·.arpRequest port ip asker)

/-- `STRANGER_FRAME` (R400). -/
def execStrangerFrame (u : DcId) (port : Nat) (frame : EthFrame) (s : State) : Host.Outcome State Fault Refusal := onDc s u (·.frameIn (·.strangerFrame port frame))

/-- `RATE_LIMIT_LEAK` (R401). -/
def execRateLimitLeak (u : DcId) (s : State) : Host.Outcome State Fault Refusal := onDc s u (·.leak)

end Sys2Proof.Machine
end

