-- ==== Sys2Proof/Machine/ExecIbast.lean ====
section
/-! DEFINITION. The Ibast command frames as commands (R413 to R421): each row builds the frame of its opcode and the DF640's interpreter takes it. -/
namespace Sys2Proof.Machine

/-- A DF640 takes a command frame whose last word has arrived on downlink `down` (R413). DESIGN CHOICE (log entry 15). -/
def State.frame (s : State) (n op : Nat) (f : FrameHdr) (down : Nat) (params : List Rec) : State :=
  s.setDf n ((s.df n).takeFrame down (frameHeader op f.k f.epoch f.identity f.owner :: params))

/-- A frame on the clock-source downlink. -/
def State.sourceFrame (s : State) (n op : Nat) (f : FrameHdr) (params : List Rec) : State := s.frame n op f (s.df n).source params

/-- The parameter word of a register access: an address and a number below it (R417). -/
def addrWord (addr low : Nat) : Rec := BitVec.ofNat 64 (addr % 65536 * 2 ^ 32 + low % 2 ^ 32)

/-- Values of a WRITE_BLOCK two per word, the lower address in the upper half (R417). -/
def packValues : List Word → List Rec
  | [] => []
  | [a] => [BitVec.ofNat 64 (a.toNat * 2 ^ 32)]
  | a :: b :: t => BitVec.ofNat 64 (a.toNat * 2 ^ 32 + b.toNat) :: packValues t

/-- `IBAST_READ` (R417). -/
def execIbastRead (n : Nat) (f : FrameHdr) (addr count : Nat) (s : State) : Host.Outcome State Fault Refusal :=
  .next (s.sourceFrame n opRead f [addrWord addr ((count + 7) % 8)])

/-- `IBAST_WRITE` (R417). -/
def execIbastWrite (n : Nat) (f : FrameHdr) (addr : Nat) (value : Word) (s : State) : Host.Outcome State Fault Refusal :=
  .next (s.sourceFrame n opWrite f [addrWord addr value.toNat])

/-- `IBAST_WRITE_BLOCK` (R417). -/
def execIbastWriteBlock (n : Nat) (f : FrameHdr) (addr : Nat) (values : List Word) (s : State) : Host.Outcome State Fault Refusal :=
  .next (s.sourceFrame n opWriteBlock f (addrWord addr (values.length % 64) :: packValues values))

/-- `LOCK` (R418). -/
def execLock (n : Nat) (f : FrameHdr) (s : State) : Host.Outcome State Fault Refusal := .next (s.sourceFrame n opLock f [])

/-- `COMMIT` (R419). -/
def execCommit (n : Nat) (f : FrameHdr) (s : State) : Host.Outcome State Fault Refusal := .next (s.sourceFrame n opCommit f [])

/-- `ABANDON` (R421). -/
def execAbandon (n : Nat) (f : FrameHdr) (s : State) : Host.Outcome State Fault Refusal := .next (s.sourceFrame n opAbandon f [])

/-- `TAKE` (R362), on the downlink it arrives on. -/
def execTake (n : Nat) (f : FrameHdr) (d : Nat) (s : State) : Host.Outcome State Fault Refusal := .next (s.frame n opTake f d [])

/-- `SYNC` (R417). -/
def execSync (n : Nat) (f : FrameHdr) (s : State) : Host.Outcome State Fault Refusal := .next (s.sourceFrame n opSync f [])

/-- `ARM` (R417, R440). -/
def execArm (n : Nat) (f : FrameHdr) (s : State) : Host.Outcome State Fault Refusal := .next (s.sourceFrame n opArm f [])

/-- `DISARM` (R417, R440). -/
def execDisarm (n : Nat) (f : FrameHdr) (s : State) : Host.Outcome State Fault Refusal := .next (s.sourceFrame n opDisarm f [])

/-- `INJECT` (R57). -/
def execInject (n : Nat) (f : FrameHdr) (armMask stopMask : Nat) (s : State) : Host.Outcome State Fault Refusal :=
  .next (s.sourceFrame n opInject f [BitVec.ofNat 64 (armMask % 16 + stopMask % 16 * 16)])

/-- `HK_INJECT` (R385). -/
def execHkInject (n : Nat) (f : FrameHdr) (a b : Word) (s : State) : Host.Outcome State Fault Refusal :=
  .next (s.sourceFrame n opHkInject f [a.setWidth 64, b.setWidth 64])

/-- `LINK_STEP` (R158, R417). -/
def execLinkStep (n : Nat) (f : FrameHdr) (lanes downs : Nat) (restart : Bool) (s : State) : Host.Outcome State Fault Refusal :=
  .next (s.sourceFrame n opLinkStep f [BitVec.ofNat 64 (lanes % 16 + downs % 4 * 16 + restart.toNat * 256)])

/-- `SLEEP` (R417, R441). -/
def execSleep (n : Nat) (f : FrameHdr) (s : State) : Host.Outcome State Fault Refusal := .next (s.sourceFrame n opSleep f [])

/-- `DORMANT` (R441). -/
def execDormant (n : Nat) (f : FrameHdr) (s : State) : Host.Outcome State Fault Refusal := .next (s.sourceFrame n opDormant f [])

/-- `WAKE` (R441). -/
def execWake (n : Nat) (f : FrameHdr) (s : State) : Host.Outcome State Fault Refusal := .next (s.sourceFrame n opWake f [])

/-- `ECHO` (R171). -/
def execEcho (n : Nat) (f : FrameHdr) (s : State) : Host.Outcome State Fault Refusal := .next (s.sourceFrame n opEcho f [])

end Sys2Proof.Machine
end

