-- ==== Sys2Proof/Machine/ExecLink.lean ====
section
/-! DEFINITION. The commands of the lanes and downlinks: slots, markers, the training ladder and sleep (R133 to R162, R194). -/
namespace Sys2Proof.Machine

/-- `UPLINK_SLOT_SEND` (R135, R140): one slot of an uplink lane, or of a Causeway lane that unit `u` sends. -/
def execUplinkSlotSend (c : ChipRef) (l : Nat) (s : State) : Host.Outcome State Fault Refusal :=
  match c with
  | .df n => onDf s n fun f => (f.slotSend l).resume
  | .dc u => onDc s u (·.causeSlot l ((s.dc (otherUnit u)).lane l).state ((s.dc (otherUnit u)).lane l).rung)

/-- `MARKER_SLOT` (R135, R141, R171, R175): the marker slot of an uplink lane, or of a Causeway lane that unit `u` sends. -/
def execMarkerSlot (c : ChipRef) (l m fine : Nat) (s : State) : Host.Outcome State Fault Refusal :=
  match c with
  | .df n => onDf s n (·.markerSend l m fine)
  | .dc u => onDc s u (·.causeMarkerSend l ((s.dc (otherUnit u)).lane l).state ((s.dc (otherUnit u)).lane l).rung m fine)

/-- `LANE_SLEEP` (R160). -/
def execLaneSleep (n p : Nat) (s : State) : Host.Outcome State Fault Refusal := onDf s n (·.laneSleep p)

/-- `WAKE_SLOT_SEND` (R161). -/
def execWakeSlotSend (n l : Nat) (s : State) : Host.Outcome State Fault Refusal := onDf s n (·.wakeSlot l)

/-- An accepted block goes to the Mire, the calibration engine, the trigger engine and the ledger, and its replies to the core (R143, R195,
R223, R232, R415, R457). -/
def Dc.takeBlock (d : Dc) (n j f : Nat) (ws : List Rec) : Dc :=
  let arr := d.arrival n j f
  ((((d.stage n j ws arr).calTap n j ws arr).trgTap n j ws arr).ldgTap n j ws arr).takeReplies n ws

/-- `UPLINK_BLOCK_RECEIVE` (R144, R194): receiver 2n + j takes a slot. 64 CRC failures between two markers send the lane to LOCK (R158). DESIGN CHOICE (log entry 84). -/
def execUplinkBlockReceive (u : DcId) (n j k : Nat) (line : List Bool) (t fine : Nat) (s : State) : Host.Outcome State Fault Refusal :=
  let d := s.dc u
  let l := 2 * unitNum u + j
  if d.rxRun n j then
    match (d.until t).rxSlot n j l k line with
    | (d, .none) => .next (s.setDc u d)
    | (d, .retrain) => .next ((s.setDc u d).moveUp n l lLock (d.fld (DC.IBR.LANE.RUNG n j)))
    | (d, .block ws) => .next (s.setDc u (d.takeBlock n j (1024 * t + fine) ws))
  else .next s

/-- `SLEEP_SLOT_RECEIVE` (R160). -/
def execSleepSlotReceive (u : DcId) (n j : Nat) (s : State) : Host.Outcome State Fault Refusal :=
  onDc s u fun d => if d.rxRun n j then d.set (DC.IBR.LANE.ASLEEP n j) 1 else d

/-- `WAKE_SLOT_RECEIVE` (R161). -/
def execWakeSlotReceive (u : DcId) (n j : Nat) (s : State) : Host.Outcome State Fault Refusal :=
  onDc s u fun d => if d.rxRun n j then d.set (DC.IBR.LANE.ASLEEP n j) 0 else d

/-- `MARKER_RECEIVE` (R149, R167). -/
def execMarkerReceive (u : DcId) (d : Dir) (word : Rec) (t fine : Nat) (s : State) : Host.Outcome State Fault Refusal := .next (s.marker u d word (1024 * t + fine))

/-- `MARKER_MISS` (R158). -/
def execMarkerMiss (d : Dir) (s : State) : Host.Outcome State Fault Refusal := .next (s.markerMiss d)

/-- `DOWNLINK_RESTART` (R158). -/
def execDownlinkRestart (u : DcId) (n : Nat) (s : State) : Host.Outcome State Fault Refusal := .next (s.downlinkRestart u n)

/-- `LANE_LOCK` (R153). -/
def execLaneLock (d : Dir) (s : State) : Host.Outcome State Fault Refusal := .next (s.laneLock d)

/-- `LOCK_TIMEOUT` (R153). -/
def execLockTimeout (d : Dir) (s : State) : Host.Outcome State Fault Refusal := .next (s.lockTimeout d)

/-- `TRAIN_PASS_END` (R156). -/
def execTrainPassEnd (d : Dir) (errors : Nat) (inStep : Bool) (s : State) : Host.Outcome State Fault Refusal := .next (s.passEnd d errors inStep)

/-- `JUDGE_WORD_ACCEPT` (R155). -/
def execJudgeWordAccept (d : Dir) (word : Rec) (s : State) : Host.Outcome State Fault Refusal := .next (s.judgeWord d word)

/-- `DECISION_APPLY` (R157). -/
def execDecisionApply (u : DcId) (d : Dir) (s : State) : Host.Outcome State Fault Refusal := .next (s.decisionApply u d)

/-- `STEP_END` (R153). -/
def execStepEnd (d : Dir) (s : State) : Host.Outcome State Fault Refusal := .next (s.stepEnd d)

/-- `FAULT_TIMEOUT` (R153). -/
def execFaultTimeout (d : Dir) (s : State) : Host.Outcome State Fault Refusal := .next (s.faultEnd d)

/-- `DOWNLINK_WAKE` (R162). -/
def execDownlinkWake (u : DcId) (n : Nat) (s : State) : Host.Outcome State Fault Refusal := .next (s.downlinkWake u n)

/-- `DC_FRAME_BOUNDARY` (R145): what takes effect at the next frame boundary of the DC64, with the downlinks that stop there (R162). -/
def execDcFrameBoundary (u : DcId) (s : State) : Host.Outcome State Fault Refusal := .next ((s.putDc u (s.dc u).frameBoundary).sleepPorts u)

/-- `DOWNLINK_BLOCK_SEND` (R147). -/
def execDownlinkBlockSend (u : DcId) (n : Nat) (s : State) : Host.Outcome State Fault Refusal := onDc s u (·.downSlot n)

/-- `DOWNLINK_BLOCK_RECEIVE` (R148). -/
def execDownlinkBlockReceive (n d k : Nat) (line : List Bool) (s : State) : Host.Outcome State Fault Refusal := .next (s.putDf n ((s.df n).downSlot d k line))

/-- `FRAME_MARKER_RECEIVE` (R169, R171). -/
def execFrameMarkerReceive (n d : Nat) (word : Rec) (m fine : Nat) (s : State) : Host.Outcome State Fault Refusal := onDf s n (·.frameMarker d word m fine)

/-- `CLOCK_SOURCE_SWITCH` (R176). -/
def execClockSourceSwitch (n : Nat) (s : State) : Host.Outcome State Fault Refusal := .next (s.putDf n (s.df n).sourceLost)

/-- `PATTERN_WORD_CHECK` (R159). -/
def execPatternWordCheck (c : ChipRef) (n j : Nat) (word : Rec) (s : State) : Host.Outcome State Fault Refusal :=
  match c with
  | .dc u => onDc s u (·.patternCheck n j word)
  | .df m => onDf s m (·.patternCheck j word)

end Sys2Proof.Machine
end

