-- ==== Sys2Proof/Machine/ExecStore.lean ====
section
/-! DEFINITION. The commands of the Mire, the Sluice, contexts and calibration, triggers and captures, qualifier and coder, the Peat store, memory
integrity and the ledger (R193 to R350, R454 to R471). -/
namespace Sys2Proof.Machine

/-- `MIRE_SLOT_WRITE` (R196, R197). -/
def execMireSlotWrite (u : DcId) (c : Nat) (s : State) : Host.Outcome State Fault Refusal := onDc s u (·.slotWrite c)

/-- `FRAME_INDEX_WRITE` (R203). -/
def execFrameIndexWrite (u : DcId) (s : State) : Host.Outcome State Fault Refusal := onDc s u (·.indexWrite)

/-- `DRAM_REFRESH` (R206). -/
def execDramRefresh (u : DcId) (c t : Nat) (s : State) : Host.Outcome State Fault Refusal := onDc s u (·.refresh c t)

/-- `DRAM_TEMPERATURE_REPORT` (R207). -/
def execDramTemperatureReport (u : DcId) (c : Nat) (hot : Bool) (s : State) : Host.Outcome State Fault Refusal := onDc s u (·.hotReport c hot)

/-- `RDL` (R215): read and lock a line. -/
def execRdl (u : DcId) (r target line : Nat) (s : State) : Host.Outcome State Fault Refusal := onDcStatus s u (·.rdl r target line)

/-- `WR` (R215). -/
def execWr (u : DcId) (r target line : Nat) (x : LineWrite) (s : State) : Host.Outcome State Fault Refusal := onDc s u (·.wr r target line x.data x.marks)

/-- `WRU` (R215). -/
def execWru (u : DcId) (r target line : Nat) (x : LineWrite) (s : State) : Host.Outcome State Fault Refusal := onDc s u (·.wru r target line x.data x.marks)

/-- `UNL` (R215). -/
def execUnl (u : DcId) (r : Nat) (s : State) : Host.Outcome State Fault Refusal := onDc s u (·.unl r)

/-- `SEQUENCE_LEASE_EXPIRY` (R216). -/
def execSequenceLeaseExpiry (u : DcId) (r : Nat) (s : State) : Host.Outcome State Fault Refusal := onDc s u (·.leaseEnd r)

/-- `TORN_RELEASE` (R217). -/
def execTornRelease (u : DcId) (r : Nat) (s : State) : Host.Outcome State Fault Refusal := onDc s u (·.tornRelease r)

/-- `RATE_SWEEP` (R220). -/
def execRateSweep (u : DcId) (s : State) : Host.Outcome State Fault Refusal := onDc s u (·.sweep)

/-- `CALIBRATION_EVALUATION` (R224). -/
def execCalibrationEvaluation (u : DcId) (s : State) : Host.Outcome State Fault Refusal := onDc s u (·.calEval)

/-- `WM_WAIT_EXPIRY` (R233). -/
def execWmWaitExpiry (u : DcId) (s : State) : Host.Outcome State Fault Refusal := onDc s u (·.wmWait)

/-- `GROUP_EVALUATION` (R238 to R245). -/
def execGroupEvaluation (u : DcId) (s : State) : Host.Outcome State Fault Refusal := onDc s u (·.groupEval)

/-- `RATE_PERIOD_END` (R265). -/
def execRatePeriodEnd (u : DcId) (s : State) : Host.Outcome State Fault Refusal := onDc s u (·.ratePeriod)

/-- `CAPTURE_READY` (R254). -/
def execCaptureReady (u : DcId) (seq slots : Nat) (s : State) : Host.Outcome State Fault Refusal := onDc s u (·.captureReady seq slots)

/-- `FRAGMENT_CLOSE` (R258). -/
def execFragmentClose (u : DcId) (seq : Nat) (s : State) : Host.Outcome State Fault Refusal := onDc s u (·.fragmentClose seq)

/-- `EXTRACTION_COMPLETE` (R255). -/
def execExtractionComplete (u : DcId) (seq : Nat) (s : State) : Host.Outcome State Fault Refusal := onDc s u (·.extractionComplete seq)

/-- `QUALIFIER_FRAGMENT_ARRIVAL` (R272). -/
def execQualifierFragmentArrival (u : DcId) (s : State) : Host.Outcome State Fault Refusal := onDc s u (·.qualifierArrival)

/-- `CODE_RECORD` (R269, R291). -/
def execCodeRecord (u : DcId) (fault : List (Nat × Nat)) (s : State) : Host.Outcome State Fault Refusal := onDc s u (·.codeRecord fault)

/-- `RECORD_SUBMIT` (R304). -/
def execRecordSubmit (u : DcId) (s : State) : Host.Outcome State Fault Refusal := onDc s u (·.recordSubmit)

/-- `PAGE_FLUSH_TIMEOUT` (R308). -/
def execPageFlushTimeout (u : DcId) (s : State) : Host.Outcome State Fault Refusal := onDc s u (·.pageFlush)

/-- `PAGE_PROGRAM_DONE` (R308, R332). -/
def execPageProgramDone (u : DcId) (page : Nat) (ok : Bool) (t : Nat) (s : State) : Host.Outcome State Fault Refusal := onDc s u (·.pageDone page ok t)

/-- `JOURNAL_PAGE_PROGRAM` (R309). -/
def execJournalPageProgram (u : DcId) (s : State) : Host.Outcome State Fault Refusal := onDc s u (·.journalClose)

/-- `JOURNAL_PROGRAM_DONE` (R310). -/
def execJournalProgramDone (u : DcId) (okEven okOdd : Bool) (s : State) : Host.Outcome State Fault Refusal := onDc s u (·.journalDone okEven okOdd)

/-- `CHECKPOINT_START` (R311). -/
def execCheckpointStart (u : DcId) (s : State) : Host.Outcome State Fault Refusal := onDc s u (·.checkpointStart)

/-- `CHECKPOINT_DONE` (R311). -/
def execCheckpointDone (u : DcId) (s : State) : Host.Outcome State Fault Refusal := onDc s u (·.checkpointDone)

/-- `BLOCK_ERASE_DONE` (R314, R317). -/
def execBlockEraseDone (u : DcId) (c : Nat) (ok : Bool) (s : State) : Host.Outcome State Fault Refusal := onDc s u (·.blockEraseDone c ok)

/-- `BLOCK_RELOCATION` (R315). -/
def execBlockRelocation (u : DcId) (c block : Nat) (s : State) : Host.Outcome State Fault Refusal := onDc s u (·.relocate (2 ^ 20 * c + block % 2 ^ 20))

/-- `PFAIL` (R312). -/
def execPfail (u : DcId) (s : State) : Host.Outcome State Fault Refusal := onDc s u (·.pfail)

/-- `PEAT_RESUME` (R449). -/
def execPeatResume (u : DcId) (s : State) : Host.Outcome State Fault Refusal := onDc s u (·.resumeStore)

/-- `PEAT_REPLAY` (R313). -/
def execPeatReplay (u : DcId) (x : ReplayRead) (s : State) : Host.Outcome State Fault Refusal := onDc s u (·.replayed x.ms x.badRoots x.badPages)

/-- `DRAIN_DATAGRAM` (R316, R319): the page is read where the log lies, and the active unit sends what it holds. -/
def execDrainDatagram (u : DcId) (partner : Bool) (wrong : List Nat) (s : State) : Host.Outcome State Fault Refusal :=
  let o := if partner then otherUnit u else u
  let s := s.seeLog u
  match (s.dc u).drainPage partner with
  | none => .next s
  | some page =>
    let x := (s.dc o).pageRead page wrong
    let s := s.setDc o x.1
    onDc s u (·.drain partner x.2 (s.dc o).peat.flash.u (s.dc o).peat.flash.items)

/-- `MAP_REBUILD` (R316): of the own log's page first; the drain then goes on. -/
def execMapRebuild (u : DcId) (wrong : List Nat) (s : State) : Host.Outcome State Fault Refusal :=
  let d := s.dc u
  match d.peat.bad, d.peat.pbad with
  | some page, _ => onDc s u fun d => let d := d.rebuildPage page wrong; { d with peat := { d.peat with bad := none } }
  | none, some page =>
    let s := s.setDc (otherUnit u) ((s.dc (otherUnit u)).rebuildPage page wrong)
    onDc s u fun d => { d with peat := { d.peat with pbad := none } }
  | none, none => .next s

/-- `ACK_WAIT_TIMEOUT` (R318). -/
def execAckWaitTimeout (u : DcId) (s : State) : Host.Outcome State Fault Refusal := onDc s u (·.ackWait)

/-- `SRAM_SCRUB` (R329). -/
def execSramScrub (u : DcId) (array word : Nat) (found : SramFind) (s : State) : Host.Outcome State Fault Refusal := onDc s u (·.sramScrub array word found)

/-- `BUCKET_LEAK` (R330). -/
def execBucketLeak (u : DcId) (array : Nat) (s : State) : Host.Outcome State Fault Refusal := onDc s u (·.bucketLeak array)

/-- `SCRUB_READ` (R340). -/
def execScrubRead (u : DcId) (c addr : Nat) (found : DramFind) (s : State) : Host.Outcome State Fault Refusal := onDc s u (·.scrubRead c addr found)

/-- `MEM_HEAL_COMPLETE` (R341). -/
def execMemHealComplete (u : DcId) (s : State) : Host.Outcome State Fault Refusal := onDc s u (·.healDone)

/-- `CORE_RESTART_DONE` (R334). -/
def execCoreRestartDone (u : DcId) (s : State) : Host.Outcome State Fault Refusal := onDc s u (·.coreRestarted)

/-- `TMR_WALK` (R345): copies that disagreed are rewritten and counted. DEDUCED (log entry 83). -/
def execTmrWalk (c : ChipRef) (copies : Nat) (s : State) : Host.Outcome State Fault Refusal :=
  match c with
  | .dc u => onDc s u (·.add DC.MEM.TMR_FIX.COUNT copies)
  | .df n => onDf s n (·.add DF.MEM.TMR_FIX.COUNT copies)

/-- `LEDGER_SETTLEMENT` (R457). -/
def execLedgerSettlement (u : DcId) (n : Nat) (s : State) : Host.Outcome State Fault Refusal := onDc s u (·.settle n)

/-- `LEDGER_STALE` (R460). -/
def execLedgerStale (u : DcId) (n : Nat) (s : State) : Host.Outcome State Fault Refusal := onDc s u (·.ledgerStale n)

end Sys2Proof.Machine
end

