-- ==== Sys2Proof/Machine/ExecSystem.lean ====
section
/-! DEFINITION. The commands of the pair, of resets and of start-up (R351 to R370, R428 to R453). -/
namespace Sys2Proof.Machine

/-- `CAUSEWAY_BLOCK_RECEIVE` (R354): a Causeway receiver takes a slot; 64 CRC failures between two markers send its lane to LOCK (R158). -/
def execCausewayBlockReceive (u : DcId) (l k : Nat) (line : List Bool) (t _fine : Nat) (s : State) : Host.Outcome State Fault Refusal :=
  let d := s.dc u
  if (d.lane l).state = lRun then
    let x := (d.until t).causeReceive l k line (s.dc (otherUnit u))
    let s := s.setDc u x.1
    .next (if x.2 then s.moveCause u l lLock (d.lane l).rung else s)
  else .next s

/-- `HEARTBEAT_CHECK` (R355, R364). -/
def execHeartbeatCheck (u : DcId) (s : State) : Host.Outcome State Fault Refusal := onDc s u (·.heartbeatCheck)

/-- `ROLE_TIMEOUT` (R353). -/
def execRoleTimeout (u : DcId) (s : State) : Host.Outcome State Fault Refusal := onDc s u (·.roleTimeout)

/-- `STATE_COPY_SEND` (R357). -/
def execStateCopySend (u : DcId) (s : State) : Host.Outcome State Fault Refusal := onDc s u (·.copySend)

/-- `COPY_DEADLINE` (R357). -/
def execCopyDeadline (u : DcId) (s : State) : Host.Outcome State Fault Refusal := onDc s u (·.copyDeadline)

/-- `ACK_DEADLINE` (R361). -/
def execAckDeadline (u : DcId) (s : State) : Host.Outcome State Fault Refusal := onDc s u (·.ackDeadline)

/-- `OWNERSHIP_CHECK` (R362). -/
def execOwnershipCheck (u : DcId) (replies : List OwnReply) (s : State) : Host.Outcome State Fault Refusal := onDc s u (·.ownershipCheck replies)

/-- `TAKEOVER` (R365). -/
def execTakeover (u : DcId) (s : State) : Host.Outcome State Fault Refusal := onDc s u (·.takeoverAt)

/-- `HANDOVER` (R368). -/
def execHandover (u : DcId) (s : State) : Host.Outcome State Fault Refusal := onDc s u (·.handoverStep)

/-- `GRATUITOUS_ARP` (R365). -/
def execGratuitousArp (u : DcId) (s : State) : Host.Outcome State Fault Refusal := onDc s u (·.gratuitousArp)

/-- `POWER_ON` (R443). -/
def execPowerOn (c : ChipRef) (s : State) : Host.Outcome State Fault Refusal :=
  match c with
  | .dc u => onDc s u (·.resetBy dcCausePor)
  | .df n => onDf s n (·.resetBy causePor)

/-- `BROWN_OUT` (R443). -/
def execBrownOut (c : ChipRef) (s : State) : Host.Outcome State Fault Refusal :=
  match c with
  | .dc u => onDc s u (·.resetBy dcCauseBor)
  | .df n => onDf s n (·.resetBy causeBor)

/-- `POWER_RELEASE` (R428, R490). -/
def execPowerRelease (c : ChipRef) (pref pfailHigh : Bool) (s : State) : Host.Outcome State Fault Refusal :=
  match c with
  | .dc u => onDc s u (·.powerRelease pref pfailHigh)
  | .df n => onDf s n (·.powerRelease)

/-- `FUSE_LOAD` (R430). -/
def execFuseLoad (c : ChipRef) (fuses : Fuses) (s : State) : Host.Outcome State Fault Refusal :=
  match c with
  | .dc u => onDc s u (·.fuseLoad fuses)
  | .df n => onDf s n (·.fuseLoad fuses)

/-- Whether a unit serves its image to its partner: it has left IMAGE with a valid one (R434). -/
def Dc.servesImage (d : Dc) : Bool := decide (dcImage < d.state) && d.state != dcLimp && !d.bt.image.isEmpty

/-- `IMAGE_LOAD` (R432 to R434): the image of the SPI NOR, or the partner's own. -/
def execImageLoad (u : DcId) (image : List Nat) (fromPartner : Bool) (s : State) : Host.Outcome State Fault Refusal :=
  let p := s.dc (otherUnit u)
  if fromPartner then .next (if p.servesImage then s.setDc u ((s.dc u).imageLoad p.bt.image true) else s)
  else onDc s u (·.imageLoad image false)

/-- `IMAGE_RETRY` (R434). -/
def execImageRetry (u : DcId) (s : State) : Host.Outcome State Fault Refusal := onDc s u (·.imageRetry)

/-- `SELFTEST` (R347, R348). -/
def execSelftest (u : DcId) (fail : Nat) (s : State) : Host.Outcome State Fault Refusal := onDc s u (·.selfTest fail)

/-- `DRAM_TRAIN` (R199). -/
def execDramTrain (u : DcId) (caps : List (Option Nat)) (s : State) : Host.Outcome State Fault Refusal := onDc s u (·.dramTrain caps)

/-- `FILL` (R346). -/
def execFill (u : DcId) (ms : Nat) (s : State) : Host.Outcome State Fault Refusal := onDc s u (·.filled ms)

/-- `CORE_START` (R435, R298). -/
def execCoreStart (u : DcId) (image : List Nat) (flash : Option (List FlashChan)) (s : State) : Host.Outcome State Fault Refusal := onDc s u (·.coreStart image flash)

/-- `FRONT_END_CONFIG` (R437). -/
def execFrontEndConfig (u : DcId) (n : Nat) (s : State) : Host.Outcome State Fault Refusal := onDc s u (·.frontEndConfig n (s.df n).state)

/-- `DROOP_STEP` (R446). -/
def execDroopStep (c : ChipRef) (mv : Nat) (s : State) : Host.Outcome State Fault Refusal :=
  match c with
  | .dc u => onDc s u (·.droop mv)
  | .df n => onDf s n (·.droop mv)

/-- `DROOP_RECOVER` (R446). -/
def execDroopRecover (c : ChipRef) (s : State) : Host.Outcome State Fault Refusal :=
  match c with
  | .dc u => onDc s u (·.droopBack)
  | .df n => onDf s n (·.droopBack)

end Sys2Proof.Machine
end

