-- ==== Sys2Proof/Machine/ExecTime.lean ====
section
/-! DEFINITION. The commands of Drapo time, network time and alignment (R166 to R192). -/
namespace Sys2Proof.Machine

/-- `TRIG_IN_EDGE` (R167, R244). -/
def execTrigInEdge (u : DcId) (pin : Nat) (rising : Bool) (t fine : Nat) (s : State) : Host.Outcome State Fault Refusal := onDc s u (·.trigIn pin rising t fine)

/-- `PPS_IN_EDGE` (R187). -/
def execPpsInEdge (u : DcId) (t fine : Nat) (s : State) : Host.Outcome State Fault Refusal := onDc s u (·.ppsIn t fine)

/-- `PPS_OUT_EDGE` (R188). -/
def execPpsOutEdge (u : DcId) (s : State) : Host.Outcome State Fault Refusal := onDc s u (·.ppsOut)

/-- `PPS_OUT_END` (R188). -/
def execPpsOutEnd (u : DcId) (s : State) : Host.Outcome State Fault Refusal := onDc s u (·.ppsDown)

/-- The adjustment set in force, that of the clock source, in fine (R170). -/
def Df.adjustment (f : Df) : Int :=
  let h := f.fld DF.TIME.STATUS.SOURCE
  1024 * s16 (f.inForce (DF.TIME.ADJ.COARSE h)) + f.inForce (DF.TIME.ADJ.PHASE h)

/-- `ALIGNMENT` (R172, R173). -/
def execAlignment (u : DcId) (n : Nat) (e : EchoReply) (more : List EchoReply) (s : State) : Host.Outcome State Fault Refusal :=
  onDc s u (·.align n (e :: more) (s.df n).adjustment (s.df n).state)

/-- `PTP_SYNC_RECEIVE` (R182 to R185). -/
def execPtpSyncReceive (u : DcId) (port : Nat) (msg : PtpMsg) (s : State) : Host.Outcome State Fault Refusal := onDc s u (·.frameIn (·.ptpSync port msg))

/-- `PTP_ANNOUNCE_RECEIVE` (R178, R185). -/
def execPtpAnnounceReceive (u : DcId) (port : Nat) (msg : PtpMsg) (ds : Dataset) (s : State) : Host.Outcome State Fault Refusal := onDc s u (·.frameIn (·.ptpAnnounce port msg ds))

/-- `PTP_FOLLOW_UP_RECEIVE` (R177). -/
def execPtpFollowUpReceive (u : DcId) (port : Nat) (msg : PtpMsg) (s : State) : Host.Outcome State Fault Refusal := onDc s u (·.frameIn (·.ptpFollowUp port msg))

/-- `DELAY_REQ_SEND` (R177, R180). -/
def execDelayReqSend (u : DcId) (port tag t fine : Nat) (s : State) : Host.Outcome State Fault Refusal := onDc s u (·.delayReq port tag (1024 * t + fine))

/-- `PTP_DELAY_RESPONSE` (R177, R178). -/
def execPtpDelayResponse (u : DcId) (port : Nat) (msg : PtpMsg) (tag : Nat) (kind : DelayKind) (s : State) : Host.Outcome State Fault Refusal :=
  onDc s u (·.frameIn (·.delayResponse port msg tag kind))

/-- `MASTER_LOSS` (R185). -/
def execMasterLoss (u : DcId) (s : State) : Host.Outcome State Fault Refusal := onDc s u (·.masterLoss)

/-- `ETHERNET_PORT_LINK_CHANGE` (R316). -/
def execEthernetPortLinkChange (u : DcId) (port : Nat) (up : Bool) (s : State) : Host.Outcome State Fault Refusal := onDc s u (·.ethPort port up)

end Sys2Proof.Machine
end

