-- ==== Sys2Proof/Machine/Dispatch.lean ====
section
/-! DEFINITION. One arm per command: the meaning of each, called with its operands and the state. -/
namespace Sys2Proof.Machine

/-- What a command does to everything but the queue. -/
def exec (i : Instr) (s : State) : Host.Outcome State Fault Refusal :=
  match i with
  | .registerWrite c req addr value => Sys2Proof.Machine.execRegisterWrite c req addr value s
  | .rcRead c req addr => Sys2Proof.Machine.execRcRead c req addr s
  | .loReadLatch c req addr => Sys2Proof.Machine.execLoReadLatch c req addr s
  | .leadingEdge n ch src m x => Sys2Proof.Machine.execLeadingEdge n ch src m x s
  | .vCrossing n ch x => Sys2Proof.Machine.execVCrossing n ch x s
  | .validationWindowEnd n ch => Sys2Proof.Machine.execValidationWindowEnd n ch s
  | .gateClose n x => Sys2Proof.Machine.execGateClose n x s
  | .trailingEdge n ch src m taps => Sys2Proof.Machine.execTrailingEdge n ch src m taps s
  | .totSatTimeout n ch => Sys2Proof.Machine.execTotSatTimeout n ch s
  | .clampConduction n ch on => Sys2Proof.Machine.execClampConduction n ch on s
  | .blcLimit n ch on => Sys2Proof.Machine.execBlcLimit n ch on s
  | .blankingEnd n ch => Sys2Proof.Machine.execBlankingEnd n ch s
  | .sourceChangeBlankEnd n k => Sys2Proof.Machine.execSourceChangeBlankEnd n k s
  | .calibrationWindowEnd n ch one two => Sys2Proof.Machine.execCalibrationWindowEnd n ch one two s
  | .refreshTimerExpiry n ch => Sys2Proof.Machine.execRefreshTimerExpiry n ch s
  | .calRetryTimer n ch => Sys2Proof.Machine.execCalRetryTimer n ch s
  | .retry n ch => Sys2Proof.Machine.execRetry n ch s
  | .anchorDllLock n k => Sys2Proof.Machine.execAnchorDllLock n k s
  | .anchorDllUnlock n k => Sys2Proof.Machine.execAnchorDllUnlock n k s
  | .anchorRearm n k => Sys2Proof.Machine.execAnchorRearm n k s
  | .rootLockLoss n => Sys2Proof.Machine.execRootLockLoss n s
  | .rootLockReturn n => Sys2Proof.Machine.execRootLockReturn n s
  | .injectionLaunch n slot levels => Sys2Proof.Machine.execInjectionLaunch n slot levels s
  | .hitComplete n ch => Sys2Proof.Machine.execHitComplete n ch s
  | .dispatch n => Sys2Proof.Machine.execDispatch n s
  | .blockFlushTimeout n p => Sys2Proof.Machine.execBlockFlushTimeout n p s
  | .tussockEvaluation n => Sys2Proof.Machine.execTussockEvaluation n s
  | .ledgerEmit n => Sys2Proof.Machine.execLedgerEmit n s
  | .dfFrameBoundary x => Sys2Proof.Machine.execDfFrameBoundary x s
  | .uplinkSlotSend c l => Sys2Proof.Machine.execUplinkSlotSend c l s
  | .markerSlot c l m fine => Sys2Proof.Machine.execMarkerSlot c l m fine s
  | .laneSleep n p => Sys2Proof.Machine.execLaneSleep n p s
  | .wakeSlotSend n l => Sys2Proof.Machine.execWakeSlotSend n l s
  | .uplinkBlockReceive u n j k line t fine => Sys2Proof.Machine.execUplinkBlockReceive u n j k line t fine s
  | .sleepSlotReceive u n j => Sys2Proof.Machine.execSleepSlotReceive u n j s
  | .wakeSlotReceive u n j => Sys2Proof.Machine.execWakeSlotReceive u n j s
  | .markerReceive u d word t fine => Sys2Proof.Machine.execMarkerReceive u d word t fine s
  | .markerMiss d => Sys2Proof.Machine.execMarkerMiss d s
  | .downlinkRestart u n => Sys2Proof.Machine.execDownlinkRestart u n s
  | .laneLock d => Sys2Proof.Machine.execLaneLock d s
  | .lockTimeout d => Sys2Proof.Machine.execLockTimeout d s
  | .trainPassEnd d errors inStep => Sys2Proof.Machine.execTrainPassEnd d errors inStep s
  | .judgeWordAccept d word => Sys2Proof.Machine.execJudgeWordAccept d word s
  | .decisionApply u d => Sys2Proof.Machine.execDecisionApply u d s
  | .stepEnd d => Sys2Proof.Machine.execStepEnd d s
  | .faultTimeout d => Sys2Proof.Machine.execFaultTimeout d s
  | .portEn u n en => Sys2Proof.Machine.execPortEn u n en s
  | .portTest u n on => Sys2Proof.Machine.execPortTest u n on s
  | .laneTest n lanes => Sys2Proof.Machine.execLaneTest n lanes s
  | .injErr c n => Sys2Proof.Machine.execInjErr c n s
  | .downlinkWake u n => Sys2Proof.Machine.execDownlinkWake u n s
  | .dcFrameBoundary u => Sys2Proof.Machine.execDcFrameBoundary u s
  | .downlinkBlockSend u n => Sys2Proof.Machine.execDownlinkBlockSend u n s
  | .downlinkBlockReceive n d k line => Sys2Proof.Machine.execDownlinkBlockReceive n d k line s
  | .frameMarkerReceive n d word m fine => Sys2Proof.Machine.execFrameMarkerReceive n d word m fine s
  | .epochSetGo u => Sys2Proof.Machine.execEpochSetGo u s
  | .trigInEdge u pin rising t fine => Sys2Proof.Machine.execTrigInEdge u pin rising t fine s
  | .ppsInEdge u t fine => Sys2Proof.Machine.execPpsInEdge u t fine s
  | .ppsOutEdge u => Sys2Proof.Machine.execPpsOutEdge u s
  | .ppsOutEnd u => Sys2Proof.Machine.execPpsOutEnd u s
  | .alignment u n e more => Sys2Proof.Machine.execAlignment u n e more s
  | .clockSourceSwitch n => Sys2Proof.Machine.execClockSourceSwitch n s
  | .ptpSyncReceive u port msg => Sys2Proof.Machine.execPtpSyncReceive u port msg s
  | .ptpAnnounceReceive u port msg ds => Sys2Proof.Machine.execPtpAnnounceReceive u port msg ds s
  | .delayReqSend u port tag t fine => Sys2Proof.Machine.execDelayReqSend u port tag t fine s
  | .ptpDelayResponse u port msg tag kind => Sys2Proof.Machine.execPtpDelayResponse u port msg tag kind s
  | .txqHead u req => Sys2Proof.Machine.execTxqHead u req s
  | .masterLoss u => Sys2Proof.Machine.execMasterLoss u s
  | .mireSlotWrite u c => Sys2Proof.Machine.execMireSlotWrite u c s
  | .frameIndexWrite u => Sys2Proof.Machine.execFrameIndexWrite u s
  | .dramRefresh u c t => Sys2Proof.Machine.execDramRefresh u c t s
  | .rdl u r target line => Sys2Proof.Machine.execRdl u r target line s
  | .wr u r target line x => Sys2Proof.Machine.execWr u r target line x s
  | .wru u r target line x => Sys2Proof.Machine.execWru u r target line x s
  | .unl u r => Sys2Proof.Machine.execUnl u r s
  | .sequenceLeaseExpiry u r => Sys2Proof.Machine.execSequenceLeaseExpiry u r s
  | .tornRelease u r => Sys2Proof.Machine.execTornRelease u r s
  | .contextWrite u idx w value => Sys2Proof.Machine.execContextWrite u idx w value s
  | .rateSweep u => Sys2Proof.Machine.execRateSweep u s
  | .calibrationEvaluation u => Sys2Proof.Machine.execCalibrationEvaluation u s
  | .wmWaitExpiry u => Sys2Proof.Machine.execWmWaitExpiry u s
  | .groupEvaluation u => Sys2Proof.Machine.execGroupEvaluation u s
  | .soft u pkt tag => Sys2Proof.Machine.execSoft u pkt tag s
  | .window u pkt start stop tag => Sys2Proof.Machine.execWindow u pkt start stop tag s
  | .engineEn u en => Sys2Proof.Machine.execEngineEn u en s
  | .patternEn u j value => Sys2Proof.Machine.execPatternEn u j value s
  | .captureReady u seq slots => Sys2Proof.Machine.execCaptureReady u seq slots s
  | .fragmentClose u seq => Sys2Proof.Machine.execFragmentClose u seq s
  | .extractionComplete u seq => Sys2Proof.Machine.execExtractionComplete u seq s
  | .ratePeriodEnd u => Sys2Proof.Machine.execRatePeriodEnd u s
  | .qualifierFragmentArrival u => Sys2Proof.Machine.execQualifierFragmentArrival u s
  | .maskLoad u m open' => Sys2Proof.Machine.execMaskLoad u m open' s
  | .codeRecord u fault => Sys2Proof.Machine.execCodeRecord u fault s
  | .lzdFlush u stream => Sys2Proof.Machine.execLzdFlush u stream s
  | .foldStart u x => Sys2Proof.Machine.execFoldStart u x s
  | .foldData64 u x value => Sys2Proof.Machine.execFoldData64 u x value s
  | .foldData32 u x value => Sys2Proof.Machine.execFoldData32 u x value s
  | .foldValueWrite u x hi value => Sys2Proof.Machine.execFoldValueWrite u x hi value s
  | .recordSubmit u => Sys2Proof.Machine.execRecordSubmit u s
  | .pageFlushTimeout u => Sys2Proof.Machine.execPageFlushTimeout u s
  | .pageProgramDone u page ok t => Sys2Proof.Machine.execPageProgramDone u page ok t s
  | .journalPageProgram u => Sys2Proof.Machine.execJournalPageProgram u s
  | .journalProgramDone u okEven okOdd => Sys2Proof.Machine.execJournalProgramDone u okEven okOdd s
  | .checkpointStart u => Sys2Proof.Machine.execCheckpointStart u s
  | .checkpointDone u => Sys2Proof.Machine.execCheckpointDone u s
  | .blockEraseDone u c ok => Sys2Proof.Machine.execBlockEraseDone u c ok s
  | .blockRelocation u c block => Sys2Proof.Machine.execBlockRelocation u c block s
  | .pfail u => Sys2Proof.Machine.execPfail u s
  | .peatResume u => Sys2Proof.Machine.execPeatResume u s
  | .peatReplay u x => Sys2Proof.Machine.execPeatReplay u x s
  | .drainDatagram u partner wrong => Sys2Proof.Machine.execDrainDatagram u partner wrong s
  | .mapRebuild u wrong => Sys2Proof.Machine.execMapRebuild u wrong s
  | .ackWaitTimeout u => Sys2Proof.Machine.execAckWaitTimeout u s
  | .peatStoreEn u value => Sys2Proof.Machine.execPeatStoreEn u value s
  | .peatCredit u pkt id limit => Sys2Proof.Machine.execPeatCredit u pkt id limit s
  | .peatAck u pkt id pos => Sys2Proof.Machine.execPeatAck u pkt id pos s
  | .peatRewind u pkt id pos => Sys2Proof.Machine.execPeatRewind u pkt id pos s
  | .peatCheckpoint u pkt => Sys2Proof.Machine.execPeatCheckpoint u pkt s
  | .peatFormat u pkt word => Sys2Proof.Machine.execPeatFormat u pkt word s
  | .peatFence u pkt index => Sys2Proof.Machine.execPeatFence u pkt index s
  | .sramScrub u array word found => Sys2Proof.Machine.execSramScrub u array word found s
  | .bucketLeak u array => Sys2Proof.Machine.execBucketLeak u array s
  | .scrubRead u c addr found => Sys2Proof.Machine.execScrubRead u c addr found s
  | .memHeal u pkt c start len => Sys2Proof.Machine.execMemHeal u pkt c start len s
  | .memRetire u pkt c page => Sys2Proof.Machine.execMemRetire u pkt c page s
  | .logAck u index => Sys2Proof.Machine.execLogAck u index s
  | .tmrWalk c copies => Sys2Proof.Machine.execTmrWalk c copies s
  | .causewayBlockReceive u l k line t fine => Sys2Proof.Machine.execCausewayBlockReceive u l k line t fine s
  | .heartbeatCheck u => Sys2Proof.Machine.execHeartbeatCheck u s
  | .roleTimeout u => Sys2Proof.Machine.execRoleTimeout u s
  | .stateCopySend u => Sys2Proof.Machine.execStateCopySend u s
  | .copyDeadline u => Sys2Proof.Machine.execCopyDeadline u s
  | .ackDeadline u => Sys2Proof.Machine.execAckDeadline u s
  | .ownershipCheck u replies => Sys2Proof.Machine.execOwnershipCheck u replies s
  | .takeover u => Sys2Proof.Machine.execTakeover u s
  | .handover u => Sys2Proof.Machine.execHandover u s
  | .gratuitousArp u => Sys2Proof.Machine.execGratuitousArp u s
  | .pairHandover u pkt => Sys2Proof.Machine.execPairHandover u pkt s
  | .pairForce u pkt seq => Sys2Proof.Machine.execPairForce u pkt seq s
  | .hkConversionSlot n codes wires clamped => Sys2Proof.Machine.execHkConversionSlot n codes wires clamped s
  | .hkEn n value => Sys2Proof.Machine.execHkEn n value s
  | .hkCalibration n => Sys2Proof.Machine.execHkCalibration n s
  | .hkCalibrationDone n points => Sys2Proof.Machine.execHkCalibrationDone n points s
  | .hkPortClamp n port on => Sys2Proof.Machine.execHkPortClamp n port on s
  | .biasEvaluation n => Sys2Proof.Machine.execBiasEvaluation n s
  | .monitorUpdate n m age => Sys2Proof.Machine.execMonitorUpdate n m age s
  | .arpRequest u port ip asker => Sys2Proof.Machine.execArpRequest u port ip asker s
  | .strangerFrame u port frame => Sys2Proof.Machine.execStrangerFrame u port frame s
  | .rateLimitLeak u => Sys2Proof.Machine.execRateLimitLeak u s
  | .absynRead u pkt addr count => Sys2Proof.Machine.execAbsynRead u pkt addr count s
  | .absynWrite u pkt addr value => Sys2Proof.Machine.execAbsynWrite u pkt addr value s
  | .absynWriteBlock u pkt addr values => Sys2Proof.Machine.execAbsynWriteBlock u pkt addr values s
  | .sessionOpen u pkt nonce => Sys2Proof.Machine.execSessionOpen u pkt nonce s
  | .sessionClose u pkt => Sys2Proof.Machine.execSessionClose u pkt s
  | .noticeAck u pkt seq => Sys2Proof.Machine.execNoticeAck u pkt seq s
  | .noticeResend u => Sys2Proof.Machine.execNoticeResend u s
  | .forwarded u pkt params => Sys2Proof.Machine.execForwarded u pkt params s
  | .commandFrameSend u n => Sys2Proof.Machine.execCommandFrameSend u n s
  | .commandRetry u n => Sys2Proof.Machine.execCommandRetry u n s
  | .ibastRead n f addr count => Sys2Proof.Machine.execIbastRead n f addr count s
  | .ibastWrite n f addr value => Sys2Proof.Machine.execIbastWrite n f addr value s
  | .ibastWriteBlock n f addr values => Sys2Proof.Machine.execIbastWriteBlock n f addr values s
  | .lock n f => Sys2Proof.Machine.execLock n f s
  | .commit n f => Sys2Proof.Machine.execCommit n f s
  | .abandon n f => Sys2Proof.Machine.execAbandon n f s
  | .leaseExpiry n => Sys2Proof.Machine.execLeaseExpiry n s
  | .take n f d => Sys2Proof.Machine.execTake n f d s
  | .sync n f => Sys2Proof.Machine.execSync n f s
  | .arm n f => Sys2Proof.Machine.execArm n f s
  | .disarm n f => Sys2Proof.Machine.execDisarm n f s
  | .inject n f armMask stopMask => Sys2Proof.Machine.execInject n f armMask stopMask s
  | .hkInject n f a b => Sys2Proof.Machine.execHkInject n f a b s
  | .linkStep n f lanes downs restart => Sys2Proof.Machine.execLinkStep n f lanes downs restart s
  | .sleep n f => Sys2Proof.Machine.execSleep n f s
  | .dormant n f => Sys2Proof.Machine.execDormant n f s
  | .wake n f => Sys2Proof.Machine.execWake n f s
  | .echo n f => Sys2Proof.Machine.execEcho n f s
  | .echoTimeout n => Sys2Proof.Machine.execEchoTimeout n s
  | .powerOn c => Sys2Proof.Machine.execPowerOn c s
  | .brownOut c => Sys2Proof.Machine.execBrownOut c s
  | .pinReset n => Sys2Proof.Machine.execPinReset n s
  | .softReset c value => Sys2Proof.Machine.execSoftReset c value s
  | .powerRelease c pref pfailHigh => Sys2Proof.Machine.execPowerRelease c pref pfailHigh s
  | .fuseLoad c fuses => Sys2Proof.Machine.execFuseLoad c fuses s
  | .imageLoad u image fromPartner => Sys2Proof.Machine.execImageLoad u image fromPartner s
  | .imageRetry u => Sys2Proof.Machine.execImageRetry u s
  | .selftest u fail => Sys2Proof.Machine.execSelftest u fail s
  | .dramTrain u caps => Sys2Proof.Machine.execDramTrain u caps s
  | .fill u ms => Sys2Proof.Machine.execFill u ms s
  | .coreStart u image flash => Sys2Proof.Machine.execCoreStart u image flash s
  | .goCluster u => Sys2Proof.Machine.execGoCluster u s
  | .goRun u => Sys2Proof.Machine.execGoRun u s
  | .frontEndConfig u n => Sys2Proof.Machine.execFrontEndConfig u n s
  | .done n => Sys2Proof.Machine.execDone n s
  | .listenTimeout n => Sys2Proof.Machine.execListenTimeout n s
  | .safeEntry n => Sys2Proof.Machine.execSafeEntry n s
  | .droopStep c mv => Sys2Proof.Machine.execDroopStep c mv s
  | .droopRecover c => Sys2Proof.Machine.execDroopRecover c s
  | .ledgerSettlement u n => Sys2Proof.Machine.execLedgerSettlement u n s
  | .ledgerStale u n => Sys2Proof.Machine.execLedgerStale u n s
  | .snap u => Sys2Proof.Machine.execSnap u s
  | .patternWordCheck c n j word => Sys2Proof.Machine.execPatternWordCheck c n j word s
  | .phaseSlewEnd n => Sys2Proof.Machine.execPhaseSlewEnd n s
  | .ptpFollowUpReceive u port msg => Sys2Proof.Machine.execPtpFollowUpReceive u port msg s
  | .ethernetPortLinkChange u port up => Sys2Proof.Machine.execEthernetPortLinkChange u port up s
  | .dramTemperatureReport u c hot => Sys2Proof.Machine.execDramTemperatureReport u c hot s
  | .coreRestartDone u => Sys2Proof.Machine.execCoreRestartDone u s
  | .memHealComplete u => Sys2Proof.Machine.execMemHealComplete u s

end Sys2Proof.Machine
end

