-- ==== Sys2Proof/Machine/Step.lean ====
section
/-! DEFINITION. One step of the block: the command at the front of the queue, or one tick of every chip that runs. -/
namespace Sys2Proof.Machine

/-- One tick passes on a DC64 whose clock runs (R166). -/
def tickDc (d : Dc) : Dc := if d.state = dcPower then d else d.until (d.now + 1)

/-- One tick passes on a DF640 whose root is locked (R169). -/
def tickDf (f : Df) : Df := if f.tim.rootLocked then f.until (f.now + 1) else f

/-- One tick passes on every chip (log entry 1). -/
def State.tick (s : State) : State :=
  let s := { s with dc0 := tickDc s.dc0, dc1 := tickDc s.dc1 }
  (s.dfs.map (·.1)).foldl (fun (s : State) (n : Nat) => s.setDf n (tickDf (s.df n))) s

/-- One step: the command at the front of the queue runs on the state with the rest of the queue; on an empty queue one tick passes. DESIGN CHOICE (log entry 5). -/
def step (s : State) : Host.Outcome State Fault Refusal :=
  match s.pending with
  | [] => .next s.tick
  | c :: rest => exec c { s with pending := rest }

/-- `s` with the command that a word spells at the front of its queue. The table gives no command any bits, so no word spells one. -/
def State.withFetchWord (s : State) (nbits w : Nat) : State :=
  match decodeTableWord nbits w with
  | some c => { s with pending := c :: s.pending }
  | none => s

end Sys2Proof.Machine
end

