-- ==== Sys2Proof/Safety.lean ====
section
/-! DEFINITION. What counts as a safe block: the table of DF640s in its one canonical form over the 64 ports of a cluster (R18), what a command
may change at all, and the words in which a command's completion is stated. -/
namespace Sys2Proof.Machine

/-- The table of DF640s is canonical: ports rising, none listed that is as after its reset, and no port above 63 (R18). -/
def State.Inv (s : State) : Prop := FMap.wf dfFresh s.dfs = true ∧ ∀ p ∈ s.dfs, p.1 < 64

/-- The command answers a next state, and that state is as described. -/
def Ends (i : Instr) (s : State) (after : State → Prop) : Prop := ∃ t, exec i s = .next t ∧ after t

/-- Which chips a command may change: one DC64, one DF640, the two ends of the links of one DF640 (both DC64s and it), the two DC64s alone, or
any chip. -/
inductive Reach
  | dc (u : DcId)
  | df (n : Nat)
  | link (n : Nat)
  | pair
  | all
  deriving DecidableEq, Repr

/-- A command of one chip. -/
def Reach.chip : ChipRef → Reach
  | .dc u => .dc u
  | .df n => .df n

/-- A command of one direction of one lane. -/
def Reach.ofDir : Dir → Reach
  | .up n _ => .link n
  | .down n _ => .link n
  | .cause _ _ => .pair

/-- Which chips a command may change. A command that changes a port's settings reaches the far ends of the links it stops. -/
def reachOf : Instr → Reach
  | .registerWrite c _ _ _ => match c with | .dc _ => Reach.all | .df n => Reach.df n
  | .rcRead c _ _ => Reach.chip c
  | .loReadLatch c _ _ => Reach.chip c
  | .leadingEdge n _ _ _ _ => .df n
  | .vCrossing n _ _ => .df n
  | .validationWindowEnd n _ => .df n
  | .gateClose n _ => .df n
  | .trailingEdge n _ _ _ _ => .df n
  | .totSatTimeout n _ => .df n
  | .clampConduction n _ _ => .df n
  | .blcLimit n _ _ => .df n
  | .blankingEnd n _ => .df n
  | .sourceChangeBlankEnd n _ => .df n
  | .calibrationWindowEnd n _ _ _ => .df n
  | .refreshTimerExpiry n _ => .df n
  | .calRetryTimer n _ => .df n
  | .retry n _ => .df n
  | .anchorDllLock n _ => .df n
  | .anchorDllUnlock n _ => .df n
  | .anchorRearm n _ => .df n
  | .rootLockLoss n => .df n
  | .rootLockReturn n => .df n
  | .injectionLaunch n _ _ => .df n
  | .hitComplete n _ => .df n
  | .dispatch n => .df n
  | .blockFlushTimeout n _ => .df n
  | .tussockEvaluation n => .df n
  | .ledgerEmit n => .df n
  | .dfFrameBoundary x => .link x.n
  | .uplinkSlotSend c _ => Reach.chip c
  | .markerSlot c _ _ _ => Reach.chip c
  | .laneSleep n _ => .df n
  | .wakeSlotSend n _ => .df n
  | .uplinkBlockReceive _ n _ _ _ _ _ => .link n
  | .sleepSlotReceive u _ _ => .dc u
  | .wakeSlotReceive u _ _ => .dc u
  | .markerReceive _ d _ _ _ => Reach.ofDir d
  | .markerMiss d => Reach.ofDir d
  | .downlinkRestart _ n => .link n
  | .laneLock d => Reach.ofDir d
  | .lockTimeout d => Reach.ofDir d
  | .trainPassEnd d _ _ => Reach.ofDir d
  | .judgeWordAccept d _ => Reach.ofDir d
  | .decisionApply _ d => Reach.ofDir d
  | .stepEnd d => Reach.ofDir d
  | .faultTimeout d => Reach.ofDir d
  | .portEn _ _ _ => .all
  | .portTest _ _ _ => .all
  | .laneTest n _ => .df n
  | .injErr c _ => match c with | .dc _ => Reach.all | .df n => Reach.df n
  | .downlinkWake _ n => .link n
  | .dcFrameBoundary _ => .all
  | .downlinkBlockSend u _ => .dc u
  | .downlinkBlockReceive n _ _ _ => .link n
  | .frameMarkerReceive n _ _ _ _ => .df n
  | .epochSetGo u => .dc u
  | .trigInEdge u _ _ _ _ => .dc u
  | .ppsInEdge u _ _ => .dc u
  | .ppsOutEdge u => .dc u
  | .ppsOutEnd u => .dc u
  | .alignment u _ _ _ => .dc u
  | .clockSourceSwitch n => .link n
  | .ptpSyncReceive u _ _ => .dc u
  | .ptpAnnounceReceive u _ _ _ => .dc u
  | .delayReqSend u _ _ _ _ => .dc u
  | .ptpDelayResponse u _ _ _ _ => .dc u
  | .txqHead u _ => .dc u
  | .masterLoss u => .dc u
  | .mireSlotWrite u _ => .dc u
  | .frameIndexWrite u => .dc u
  | .dramRefresh u _ _ => .dc u
  | .rdl u _ _ _ => .dc u
  | .wr u _ _ _ _ => .dc u
  | .wru u _ _ _ _ => .dc u
  | .unl u _ => .dc u
  | .sequenceLeaseExpiry u _ => .dc u
  | .tornRelease u _ => .dc u
  | .contextWrite u _ _ _ => .dc u
  | .rateSweep u => .dc u
  | .calibrationEvaluation u => .dc u
  | .wmWaitExpiry u => .dc u
  | .groupEvaluation u => .dc u
  | .soft u _ _ => .dc u
  | .window u _ _ _ _ => .dc u
  | .engineEn u _ => .dc u
  | .patternEn u _ _ => .dc u
  | .captureReady u _ _ => .dc u
  | .fragmentClose u _ => .dc u
  | .extractionComplete u _ => .dc u
  | .ratePeriodEnd u => .dc u
  | .qualifierFragmentArrival u => .dc u
  | .maskLoad u _ _ => .dc u
  | .codeRecord u _ => .dc u
  | .lzdFlush u _ => .dc u
  | .foldStart u _ => .dc u
  | .foldData64 u _ _ => .dc u
  | .foldData32 u _ _ => .dc u
  | .foldValueWrite u _ _ _ => .dc u
  | .recordSubmit u => .dc u
  | .pageFlushTimeout u => .dc u
  | .pageProgramDone u _ _ _ => .dc u
  | .journalPageProgram u => .dc u
  | .journalProgramDone u _ _ => .dc u
  | .checkpointStart u => .dc u
  | .checkpointDone u => .dc u
  | .blockEraseDone u _ _ => .dc u
  | .blockRelocation u _ _ => .dc u
  | .pfail u => .dc u
  | .peatResume u => .dc u
  | .peatReplay u _ => .dc u
  | .drainDatagram _ _ _ => .pair
  | .mapRebuild _ _ => .pair
  | .ackWaitTimeout u => .dc u
  | .peatStoreEn u _ => .dc u
  | .peatCredit u _ _ _ => .dc u
  | .peatAck u _ _ _ => .dc u
  | .peatRewind u _ _ _ => .dc u
  | .peatCheckpoint u _ => .dc u
  | .peatFormat u _ _ => .dc u
  | .peatFence u _ _ => .dc u
  | .sramScrub u _ _ _ => .dc u
  | .bucketLeak u _ => .dc u
  | .scrubRead u _ _ _ => .dc u
  | .memHeal u _ _ _ _ => .dc u
  | .memRetire u _ _ _ => .dc u
  | .logAck u _ => .dc u
  | .tmrWalk c _ => Reach.chip c
  | .causewayBlockReceive _ _ _ _ _ _ => .pair
  | .heartbeatCheck u => .dc u
  | .roleTimeout u => .dc u
  | .stateCopySend u => .dc u
  | .copyDeadline u => .dc u
  | .ackDeadline u => .dc u
  | .ownershipCheck u _ => .dc u
  | .takeover u => .dc u
  | .handover u => .dc u
  | .gratuitousArp u => .dc u
  | .pairHandover u _ => .dc u
  | .pairForce u _ _ => .dc u
  | .hkConversionSlot n _ _ _ => .df n
  | .hkEn n _ => .df n
  | .hkCalibration n => .df n
  | .hkCalibrationDone n _ => .df n
  | .hkPortClamp n _ _ => .df n
  | .biasEvaluation n => .df n
  | .monitorUpdate n _ _ => .df n
  | .arpRequest u _ _ _ => .dc u
  | .strangerFrame u _ _ => .dc u
  | .rateLimitLeak u => .dc u
  | .absynRead u _ _ _ => .dc u
  | .absynWrite _ _ _ _ => .all
  | .absynWriteBlock _ _ _ _ => .all
  | .sessionOpen u _ _ => .dc u
  | .sessionClose u _ => .dc u
  | .noticeAck u _ _ => .dc u
  | .noticeResend u => .dc u
  | .forwarded u _ _ => .dc u
  | .commandFrameSend u _ => .dc u
  | .commandRetry u _ => .dc u
  | .ibastRead n _ _ _ => .df n
  | .ibastWrite n _ _ _ => .df n
  | .ibastWriteBlock n _ _ _ => .df n
  | .lock n _ => .df n
  | .commit n _ => .df n
  | .abandon n _ => .df n
  | .leaseExpiry n => .df n
  | .take n _ _ => .df n
  | .sync n _ => .df n
  | .arm n _ => .df n
  | .disarm n _ => .df n
  | .inject n _ _ _ => .df n
  | .hkInject n _ _ _ => .df n
  | .linkStep n _ _ _ _ => .df n
  | .sleep n _ => .df n
  | .dormant n _ => .df n
  | .wake n _ => .df n
  | .echo n _ => .df n
  | .echoTimeout n => .df n
  | .powerOn c => Reach.chip c
  | .brownOut c => Reach.chip c
  | .pinReset n => .df n
  | .softReset c _ => Reach.chip c
  | .powerRelease c _ _ => Reach.chip c
  | .fuseLoad c _ => Reach.chip c
  | .imageLoad u _ _ => .dc u
  | .imageRetry u => .dc u
  | .selftest u _ => .dc u
  | .dramTrain u _ => .dc u
  | .fill u _ => .dc u
  | .coreStart u _ _ => .dc u
  | .goCluster u => .dc u
  | .goRun u => .dc u
  | .frontEndConfig u _ => .dc u
  | .done n => .df n
  | .listenTimeout n => .df n
  | .safeEntry n => .df n
  | .droopStep c _ => Reach.chip c
  | .droopRecover c => Reach.chip c
  | .ledgerSettlement u _ => .dc u
  | .ledgerStale u _ => .dc u
  | .snap u => .dc u
  | .patternWordCheck c _ _ _ => Reach.chip c
  | .phaseSlewEnd n => .df n
  | .ptpFollowUpReceive u _ _ => .dc u
  | .ethernetPortLinkChange u _ _ => .dc u
  | .dramTemperatureReport u _ _ => .dc u
  | .coreRestartDone u => .dc u
  | .memHealComplete u => .dc u

/-- What lies outside a reach is as it was. -/
def Reach.keeps (r : Reach) (s t : State) : Prop :=
  match r with
  | .dc u => t.dc (otherUnit u) = s.dc (otherUnit u) ∧ ∀ m, t.df m = s.df m
  | .df n => (∀ u, t.dc u = s.dc u) ∧ ∀ m, m ≠ n → t.df m = s.df m
  | .link n => ∀ m, m ≠ n → t.df m = s.df m
  | .pair => ∀ m, t.df m = s.df m
  | .all => True

/-- A register word of a DF640 outside a list of addresses is as it was. -/
def Df.wordsKept (f g : Df) (l : List Nat) : Prop := ∀ a, a ∉ l → g.word a = f.word a

/-- A register word of a DC64 outside a list of addresses is as it was. -/
def Dc.wordsKept (d e : Dc) (l : List Nat) : Prop := ∀ a, a ∉ l → e.word a = d.word a

/-- Register words of a DF640 from one address up to another are the same in two of its states. -/
def Df.wordsSame (f g : Df) (lo hi : Nat) : Prop := ∀ a, lo ≤ a → a < hi → g.word a = f.word a

/-- Register words of a DC64 from one address up to another are the same in two of its states. -/
def Dc.wordsSame (d e : Dc) (lo hi : Nat) : Prop := ∀ a, lo ≤ a → a < hi → e.word a = d.word a

/-- The parts of a DF640, each with its block of registers (R473). -/
inductive DfPart
  | channels | hits | tussocks | links | time | commands | housekeeping | startUp | staged | fixed
  deriving DecidableEq, Repr

/-- The parts of a DC64, each with its block of registers (R474). -/
inductive DcPart
  | link | causeway | time | mire | sluice | contexts | trigger | qualifier
  | coder | store | memory | pair | absyn | ledger | startUp | fixed
  deriving DecidableEq, Repr

/-- One part of a DF640 is the same in two of its states. -/
def Df.same (f g : Df) : DfPart → Prop
  | .channels => f.chans = g.chans ∧ f.slots = g.slots ∧ f.deltas = g.deltas ∧ f.loopEnd = g.loopEnd ∧ Df.wordsSame f g 0x1000 0x4000
  | .hits => f.hit = g.hit ∧ Df.wordsSame f g 0x100 0x200
  | .tussocks => f.tus = g.tus ∧ Df.wordsSame f g 0x800 0x1000
  | .links => f.lanes = g.lanes ∧ f.downs = g.downs ∧ Df.wordsSame f g 0x80 0xC0
  | .time => f.tim = g.tim ∧ Df.wordsSame f g 0xC0 0x100
  | .commands => f.cmd = g.cmd ∧ Df.wordsSame f g 0x50 0x70
  | .housekeeping => f.hk = g.hk ∧ Df.wordsSame f g 0x200 0x600
  | .startUp => f.bt = g.bt ∧ Df.wordsSame f g 0x40 0x50
  | .staged => f.eff = g.eff ∧ f.pend = g.pend
  | .fixed => f.latch = g.latch ∧ Df.wordsSame f g 0 0x40 ∧ Df.wordsSame f g 0x70 0x80

/-- One part of a DC64 is the same in two of its states. -/
def Dc.same (d e : Dc) : DcPart → Prop
  | .link => d.rx = e.rx ∧ d.ports = e.ports ∧ Dc.wordsSame d e 0x10000 0x11000
  | .causeway => d.cw = e.cw
  | .time => d.tim = e.tim ∧ Dc.wordsSame d e 0x4000 0x6000
  | .mire => d.mire = e.mire ∧ Dc.wordsSame d e 0x6000 0x7000
  | .sluice => d.slu = e.slu ∧ Dc.wordsSame d e 0x7000 0x8000
  | .contexts => d.ctx = e.ctx ∧ Dc.wordsSame d e 0x400000 0x800000
  | .trigger => d.trg = e.trg ∧ Dc.wordsSame d e 0x40000 0x80000
  | .qualifier => d.qlf = e.qlf ∧ Dc.wordsSame d e 0x80000 0xC0000
  | .coder => d.cmp = e.cmp ∧ Dc.wordsSame d e 0x8000 0xA000
  | .store => d.peat = e.peat ∧ Dc.wordsSame d e 0xA000 0xB000
  | .memory => d.mem = e.mem ∧ Dc.wordsSame d e 0xB000 0xC000
  | .pair => d.pair = e.pair ∧ Dc.wordsSame d e 0x3000 0x4000
  | .absyn => d.abs = e.abs ∧ Dc.wordsSame d e 0x2000 0x3000
  | .ledger => d.ldg = e.ldg ∧ Dc.wordsSame d e 0xC000 0x10000
  | .startUp => d.bt = e.bt ∧ Dc.wordsSame d e 0x1000 0x2000
  | .fixed => d.latch = e.latch ∧ Dc.wordsSame d e 0 0x1000

/-- The parts of its DF640 that a command may change, for the commands whose effect on it stays in some of its parts. -/
def dfChanged : Instr → Option (List DfPart)
  | .markerReceive .. => some []
  | .validationWindowEnd .. | .gateClose .. | .trailingEdge .. | .totSatTimeout .. | .clampConduction .. | .blcLimit .. | .blankingEnd ..
  | .sourceChangeBlankEnd .. | .calibrationWindowEnd .. | .refreshTimerExpiry .. | .calRetryTimer .. | .anchorDllLock ..
  | .anchorDllUnlock .. | .anchorRearm .. | .injectionLaunch .. => some [.channels]
  | .leaseExpiry .. => some [.commands]
  | .tmrWalk .. => some [.fixed]
  | .hkConversionSlot .. | .hkCalibrationDone .. | .hkPortClamp .. | .biasEvaluation .. | .monitorUpdate .. => some [.housekeeping]
  | .laneSleep .. | .judgeWordAccept .. | .patternWordCheck .. => some [.links]
  | .powerRelease .. | .droopStep .. | .droopRecover .. => some [.startUp]
  | .phaseSlewEnd .. => some [.time]
  | .leadingEdge .. | .hitComplete .. => some [.channels, .hits]
  | .rootLockLoss .. | .rootLockReturn .. => some [.channels, .time]
  | .ledgerEmit .. => some [.hits, .commands]
  | .listenTimeout .. => some [.links, .startUp]
  | .vCrossing .. => some [.channels, .hits, .tussocks]
  | .wakeSlotSend .. | .uplinkBlockReceive .. => some [.hits, .links, .commands]
  | .tussockEvaluation .. => some [.hits, .tussocks, .commands]
  | .markerSlot .. => some [.hits, .links, .time, .commands]
  | .fuseLoad .. => some [.links, .time, .startUp, .fixed]
  | .safeEntry .. => some [.channels, .commands, .housekeeping, .startUp, .staged]
  | .markerMiss .. | .downlinkRestart .. | .laneLock .. | .lockTimeout .. | .trainPassEnd .. | .decisionApply .. | .stepEnd ..
  | .faultTimeout .. | .portEn .. | .portTest .. | .downlinkWake .. | .dcFrameBoundary .. | .clockSourceSwitch .. | .absynWrite ..
  | .absynWriteBlock .. => some [.hits, .links, .time, .commands, .startUp]
  | .frameMarkerReceive .. => some [.hits, .tussocks, .links, .time, .commands, .startUp]
  | _ => none

/-- The parts of the DC64s that a command may change, for the commands whose effect on them stays in some of their parts. -/
def dcChanged : Instr → Option (List DcPart)
  | .rateLimitLeak .. | .frontEndConfig .. | .ethernetPortLinkChange .. => some [.absyn]
  | .uplinkSlotSend .. | .markerSlot .. => some [.causeway]
  | .ledgerStale .. => some [.ledger]
  | .sleepSlotReceive .. | .wakeSlotReceive .. | .patternWordCheck .. => some [.link]
  | .bucketLeak .. | .tmrWalk .. => some [.memory]
  | .dramRefresh .. | .dramTemperatureReport .. => some [.mire]
  | .copyDeadline .. | .ackDeadline .. => some [.pair]
  | .imageRetry .. | .droopRecover .. => some [.startUp]
  | .checkpointDone .. | .ackWaitTimeout .. => some [.store]
  | .ppsInEdge .. | .ppsOutEdge .. | .ppsOutEnd .. => some [.time]
  | .wmWaitExpiry .. | .ratePeriodEnd .. => some [.trigger]
  | .imageLoad .. => some [.absyn, .startUp]
  | .journalPageProgram .. | .checkpointStart .. => some [.coder, .store]
  | .ledgerSettlement .. => some [.contexts, .ledger]
  | .downlinkBlockSend .. | .commandFrameSend .. => some [.link, .absyn]
  | .markerReceive .. | .judgeWordAccept .. => some [.link, .causeway]
  | .downlinkRestart .. | .downlinkWake .. | .downlinkBlockReceive .. | .clockSourceSwitch .. => some [.link, .trigger]
  | .peatFence .. | .memHeal .. | .arpRequest .. | .strangerFrame .. | .sessionOpen .. | .sessionClose .. | .noticeAck ..
  | .noticeResend .. | .forwarded .. | .coreRestartDone .. | .memHealComplete .. => some [.memory, .absyn]
  | .stateCopySend .. | .gratuitousArp .. => some [.memory, .pair]
  | .frameIndexWrite .. => some [.mire, .memory]
  | .peatResume .. | .coreStart .. => some [.store, .startUp]
  | .delayReqSend .. => some [.time, .memory]
  | .pfail .. | .droopStep .. => some [.coder, .store, .startUp]
  | .markerMiss .. | .laneLock .. | .lockTimeout .. | .trainPassEnd .. | .stepEnd .. | .faultTimeout .. => some [.link, .causeway, .trigger]
  | .dfFrameBoundary .. => some [.link, .contexts, .trigger]
  | .commandRetry .. => some [.link, .memory, .absyn]
  | .selftest .. => some [.memory, .absyn, .startUp]
  | .heartbeatCheck .. | .pairHandover .. => some [.memory, .pair, .absyn]
  | .sramScrub .. => some [.mire, .memory, .absyn]
  | .mireSlotWrite .. => some [.mire, .memory, .ledger]
  | .mapRebuild .. | .peatRewind .. | .peatFormat .. => some [.store, .memory, .absyn]
  | .alignment .. | .ptpSyncReceive .. | .ptpAnnounceReceive .. | .ptpDelayResponse .. | .masterLoss .. | .ptpFollowUpReceive ..
    => some [.time, .memory, .absyn]
  | .fill .. => some [.trigger, .memory, .startUp]
  | .trigInEdge .. => some [.trigger, .pair, .ledger]
  | .powerRelease .. => some [.causeway, .store, .pair, .startUp]
  | .drainDatagram .. | .peatCredit .. | .peatCheckpoint .. => some [.coder, .store, .memory, .absyn]
  | .scrubRead .. => some [.mire, .sluice, .memory, .absyn]
  | .memRetire .. => some [.mire, .trigger, .memory, .absyn]
  | .dramTrain .. => some [.mire, .trigger, .memory, .startUp]
  | .codeRecord .. => some [.qualifier, .coder, .memory, .absyn]
  | .fuseLoad .. => some [.time, .absyn, .startUp, .fixed]
  | .roleTimeout .. => some [.trigger, .memory, .pair, .absyn]
  | .fragmentClose .. => some [.trigger, .qualifier, .memory, .ledger]
  | .decisionApply .. => some [.link, .causeway, .trigger, .memory, .absyn]
  | .ownershipCheck .. => some [.link, .trigger, .memory, .pair, .absyn]
  | .recordSubmit .. | .pageFlushTimeout .. | .journalProgramDone .. | .blockEraseDone .. => some [.trigger, .coder, .store, .memory, .absyn]
  | .groupEvaluation .. | .soft .. | .window .. => some [.trigger, .memory, .pair, .absyn, .ledger]
  | .peatReplay .. => some [.trigger, .store, .memory, .absyn, .startUp]
  | .rdl .. | .unl .. | .sequenceLeaseExpiry .. | .tornRelease .. | .rateSweep .. | .calibrationEvaluation ..
    => some [.mire, .sluice, .contexts, .store, .memory, .absyn]
  | .captureReady .. | .extractionComplete .. => some [.mire, .sluice, .contexts, .trigger, .memory, .absyn]
  | .wr .. => some [.mire, .sluice, .contexts, .trigger, .store, .memory]
  | .qualifierFragmentArrival .. => some [.trigger, .qualifier, .coder, .memory, .absyn, .ledger]
  | .causewayBlockReceive .. => some [.causeway, .time, .mire, .trigger, .memory, .pair, .absyn]
  | .pageProgramDone .. => some [.mire, .sluice, .contexts, .coder, .store, .memory, .absyn]
  | .wru .. => some [.mire, .sluice, .contexts, .trigger, .store, .memory, .absyn]
  | .blockRelocation .. | .peatAck .. => some [.mire, .sluice, .contexts, .trigger, .coder, .store, .memory, .absyn]
  | .uplinkBlockReceive .. => some [.link, .mire, .sluice, .contexts, .trigger, .store, .memory, .absyn, .ledger, .startUp]
  | _ => none

/-- The port and channel of an event of one channel, and the register words that it may set. -/
def channelEvent : Instr → Option (Nat × Nat × List Nat)
  | .leadingEdge n ch _ _ _ => some (n, ch, [DF.REED.UNARMED.addr, DF.REED.PILEUP.addr ch, DF.REED.CH.addr ch, DF.REED.COARSE.addr ch])
  | .vCrossing n ch _ => some (n, ch, [DF.REED.COARSE.addr ch])
  | .validationWindowEnd n ch => some (n, ch, [DF.AFE.TONLY.addr ch])
  | .gateClose n x => some (n, x.ch, [])
  | .trailingEdge n ch _ _ _ => some (n, ch, [DF.REED.CH.addr ch, DF.REED.COARSE.addr ch])
  | .totSatTimeout n ch => some (n, ch, [])
  | .clampConduction n ch _ => some (n, ch, [DF.AFE.CH.addr ch])
  | .blcLimit n ch _ => some (n, ch, [DF.AFE.CH.addr ch])
  | .blankingEnd n ch => some (n, ch, [DF.REED.CH.addr ch])
  | .sourceChangeBlankEnd n k => some (n, 632 + k, [])
  | .calibrationWindowEnd n ch _ _ => some (n, ch, [DF.REED.NCAL.addr ch, DF.REED.LOOP.addr, DF.REED.CH.addr ch])
  | .refreshTimerExpiry n ch => some (n, ch, [])
  | .calRetryTimer n ch => some (n, ch, [])
  | .anchorDllLock n k => some (n, 632 + k, [DF.REED.ANCHOR.addr k])
  | .anchorDllUnlock n k => some (n, 632 + k, [DF.REED.ANCHOR.addr k])
  | .anchorRearm n k => some (n, 632 + k, [])
  | .hitComplete n ch => some (n, ch, [])
  | _ => none

end Sys2Proof.Machine
end

