-- ==== Sys2Proof/Certificates/Slice0/Obligations.lean ====
section
/-! DEFINITION. The statements for the provers. `Ends c s P` says that the command `c` answers a next state from `s`, and that `P` holds of it. -/
open Sys2Proof Sys2Proof.Machine

/-- The table of DF640s is canonical after reset. Model's choice: log entry 4. -/
def Obligations.ResetHasTheInvariant : Prop :=
  State.reset.Inv

/-- R18: no command names a port above 63, so the table of DF640s keeps its one canonical form over the 64 ports whatever runs. Model's choice: log
entry 4. -/
def Obligations.StepKeepsTheInvariant : Prop :=
  ∀ s t : State, s.Inv → step s = .next t → t.Inv

/-- A step with a command at the front of the queue is that command on the state with the rest of the queue. Model's choice: log entry 5. -/
def Obligations.StepRunsTheFrontCommand : Prop :=
  ∀ (c : Instr) (s : State), step { s with pending := c :: s.pending } = exec c s

/-- The model's choice (log entry 1): on an empty queue one tick passes on every DC64 outside POWER and on every DF640 whose root is locked, and
nothing else changes. Model's choice: log entry 1. -/
def Obligations.IdleStepIsOneTick : Prop :=
  ∀ s : State, s.Inv → s.pending = [] → ∃ t, step s = .next t ∧ t.pending = [] ∧ t.result = s.result ∧ t.free = s.free ∧
    (∀ u, t.dc u = if (s.dc u).state = dcPower then s.dc u else (s.dc u).until ((s.dc u).now + 1)) ∧
    ∀ n, t.df n = if (s.df n).tim.rootLocked then (s.df n).until ((s.df n).now + 1) else s.df n

/-- Frame of every command, which answers a next state from every state: what lies outside the chips that it may change is as it was. -/
def Obligations.CommandsStayInTheirReach : Prop :=
  ∀ (c : Instr) (s : State), Ends c s fun t => (reachOf c).keeps s t

/-- Frame of every command, which answers a next state from every state: the commands that wait stay as they are, only SESSION_OPEN draws a free
value, and only a direct register access answers a result. Model's choices: log entries 2, 17. -/
def Obligations.CommandsLeaveTheQueue : Prop :=
  ∀ (c : Instr) (s : State), Ends c s fun t =>
    t.pending = s.pending ∧
    (t.free = s.free ∨ (∃ u p x, c = .sessionOpen u p x) ∧ t.free = s.free + 1) ∧
    (t.result = s.result ∨
      match c with
      | .registerWrite _ _ _ _ | .rcRead _ _ _ | .loReadLatch _ _ _ | .txqHead _ _ | .contextWrite _ _ _ _ | .epochSetGo _ | .portEn _ _ _
      | .portTest _ _ _ | .laneTest _ _ | .injErr _ _ | .retry _ _ | .engineEn _ _ | .patternEn _ _ _ | .maskLoad _ _ _ | .lzdFlush _ _
      | .foldStart _ _ | .foldData64 _ _ _ | .foldData32 _ _ _ | .foldValueWrite _ _ _ _ | .peatStoreEn _ _ | .logAck _ _ | .hkEn _ _
      | .hkCalibration _ | .snap _ | .goCluster _ | .goRun _ | .done _ | .softReset _ _ | .rdl _ _ _ _ => True
      | _ => False)

/-- Frame of the commands of the DC64s, part by part: what a command is not listed as changing of either DC64, its hidden state and the words of its
block of registers alike, is as it was. Model's choice: log entry 4. -/
def Obligations.PartsOfADc64StayAsTheyWere : Prop :=
  ∀ (c : Instr) (s : State) (l : List DcPart), dcChanged c = some l → Ends c s fun t => ∀ (u : DcId) (p : DcPart), p ∉ l → (s.dc u).same (t.dc u) p

/-- Frame of the commands of a DF640, part by part, and of the events of one channel: every other channel, every register word but those listed, the
staged settings, the lanes, the receivers, the time, the command interpreter, the housekeeping and what was sent are as they were. Model's choice: log
entry 4. -/
def Obligations.PartsOfADf640StayAsTheyWere : Prop :=
  (∀ (c : Instr) (s : State) (l : List DfPart), dfChanged c = some l → Ends c s fun t => ∀ (n : Nat) (p : DfPart), p ∉ l → (s.df n).same (t.df n) p) ∧
  ∀ (c : Instr) (s : State) (n ch : Nat) (l : List Nat), channelEvent c = some (n, ch, l) → Ends c s fun t =>
    (∀ k, k ≠ ch → (t.df n).chan k = (s.df n).chan k) ∧ (s.df n).wordsKept (t.df n) l ∧ (t.df n).hit = { (s.df n).hit with frames := (t.df n).hit.frames } ∧
    (t.df n).out = (s.df n).out ∧ (t.df n).slots = (s.df n).slots ∧ (t.df n).loopEnd = (s.df n).loopEnd

/-- R136 to R140, R145: what an uplink, Causeway or downlink transmitter makes of a slot of words, its receiver reads as the same words, at every slot
position, lane and rung. Model's choice: log entry 39. -/
def Obligations.LineCodeRoundTrip : Prop :=
  (∀ (l k : Nat) (ws : List Rec), ws.length = 32 → (upSlot l k ws).length = 2134 ∧ upWords l k (upSlot l k ws) = some ws) ∧
  ∀ (rung k : Nat) (ws : List Rec), ws.length = 8 →
    (downCoded k ws).length = 534 ∧ downWords rung k (repeatBits (downRepeat rung) (downCoded k ws)) = some ws

/-- R46, R50, R71, R88: on a ready channel that is not busy a leading edge opens a candidate with the converted time and the constants in force,
detected at once where validation is direct or V is high, and opens the gate; during a hit in progress it marks that hit PILEUP and counts; on a
channel that is not ready it counts in UNARMED; on one that is OFF, blanked or not armed, and at an edge of another source or below the threshold,
only the tick count goes on. Model's choices: log entries 18, 19. -/
def Obligations.LeadingEdge : Prop :=
  (∀ (n : Fin 64) (ch : Fin 640) (m : Nat) (src : EdgeSource) (tp : Taps) (lev : Int) (s : State), ch.val < 632 → (s.df n).takesEdge ch true src →
    discriminator ((s.df n).thresholdT ch) false lev → (s.df n).mode ch ≠ modeOff → ((s.df n).chan ch).blankEnd = none → ((s.df n).chan ch).srcBlank =
    none → ((s.df n).chan ch).armed → ((s.df n).chan ch).ready → ((s.df n).chan ch).running = none → ((s.df n).chan ch).wins = [] → ((s.df n).chan
    ch).rearmAt = none → (reedTime ((s.df n).fld (DF.REED.CH.RA ch)) ((s.df n).fld (DF.REED.CH.RB ch)) m (reading tp)).2 → Ends (.leadingEdge n ch src
    m ⟨tp, lev⟩) s fun t => ((t.df n).chan ch).cands.dropLast = ((s.df n).chan ch).cands ∧ ((t.df n).chan ch).cands.getLast?.map (fun h => (h.lead,
    h.coarse, h.tot, h.rA, h.rB, h.valid, h.masked)) = some ((reedTime ((s.df n).fld (DF.REED.CH.RA ch)) ((s.df n).fld (DF.REED.CH.RB ch)) m (reading
    tp)).1, false, none, (s.df n).fld (DF.REED.CH.RA ch), (s.df n).fld (DF.REED.CH.RB ch), (if (s.df n).inForce DF.AFE.CONFIG.VALMODE = 0 ∨
    discriminator ((s.df n).thresholdV ch) false lev then some true else none), decide ((s.df n).mode ch = modeMasked)) ∧ ((t.df n).chan ch).gateEnd =
    some ((reedTime ((s.df n).fld (DF.REED.CH.RA ch)) ((s.df n).fld (DF.REED.CH.RB ch)) m (reading tp)).1 / 1024 + (s.df n).inForce DF.AFE.CONFIG.GATE
    + 1) ∧ (t.df n).now = laterTick (s.df n).now m) ∧
  (∀ (n : Fin 64) (ch : Fin 640) (m : Nat) (src : EdgeSource) (tp : Taps) (lev : Int) (s : State) (h : Cand), (s.df n).takesEdge ch true src → (((s.df
    n).refin ch ∨ discriminator ((s.df n).thresholdT ch) false lev)) → (s.df n).mode ch ≠ modeOff → ((s.df n).chan ch).blankEnd = none → ((s.df
    n).chan ch).srcBlank = none → ((s.df n).chan ch).armed → ((s.df n).chan ch).ready → ((s.df n).chan ch).running = some h → Ends (.leadingEdge n ch
    src m ⟨tp, lev⟩) s fun t => ((t.df n).chan ch).running = some { h with pileup := true } ∧ (t.df n).fld (DF.REED.PILEUP.COUNT ch) = satAdd 24
    ((s.df n).fld (DF.REED.PILEUP.COUNT ch)) 1) ∧
  (∀ (n : Fin 64) (ch : Fin 640) (m : Nat) (src : EdgeSource) (tp : Taps) (lev : Int) (s : State), (s.df n).takesEdge ch true src → (((s.df n).refin ch
    ∨ discriminator ((s.df n).thresholdT ch) false lev)) → (s.df n).mode ch ≠ modeOff → ((s.df n).chan ch).blankEnd = none → ((s.df n).chan
    ch).srcBlank = none → ((s.df n).chan ch).armed → ((s.df n).chan ch).ready = false → Ends (.leadingEdge n ch src m ⟨tp, lev⟩) s fun t => ((t.df
    n).chan ch) = ((s.df n).chan ch) ∧ (t.df n).fld DF.REED.UNARMED.COUNT = satAdd 32 ((s.df n).fld DF.REED.UNARMED.COUNT) 1) ∧
  ∀ (n : Fin 64) (ch : Fin 640) (m : Nat) (src : EdgeSource) (tp : Taps) (lev : Int) (s : State), ((s.df n).takesEdge ch true src = false ∨ ((s.df
    n).refin ch = false ∧ discriminator ((s.df n).thresholdT ch) false lev = false) ∨ (s.df n).mode ch = modeOff ∨ ((s.df n).chan ch).srcBlank ≠ none
    ∨ ((s.df n).chan ch).blankEnd ≠ none ∨ ((s.df n).chan ch).armed = false) → Ends (.leadingEdge n ch src m ⟨tp, lev⟩) s fun t => (t.df n) = (s.df
    n).until m

/-- R70: a reading within the calibrated span becomes the nearest fine, an exact half up, in tick m − 3, m − 2 or m − 1; one outside it leaves the
tick m − 2 alone, COARSE_ONLY, and counts in CALFAIL. -/
def Obligations.ReedConversion : Prop :=
  (∀ rA rB m r : Nat, calValid rA rB → 3 ≤ m → (r : Int) < (rA : Int) - 64 ∨ (r : Int) > (rB : Int) + 64 → reedTime rA rB m r = (1024 * (m - 2), false)) ∧
  (∀ rA rB m r : Nat, calValid rA rB → 3 ≤ m → (rA : Int) - 64 ≤ r → (r : Int) ≤ (rB : Int) + 64 → ∃ t : Nat, reedTime rA rB m r = (t, true) ∧ 2 * ((rB
    : Int) - rA) * ((t : Int) - 1024 * ((m : Int) - 2)) ≤ 2048 * ((rB : Int) - r) + ((rB : Int) - rA) ∧ 2048 * ((rB : Int) - r) + ((rB : Int) - rA) <
    2 * ((rB : Int) - rA) * ((t : Int) - 1024 * ((m : Int) - 2) + 1) ∧ (t / 1024 = m - 3 ∨ t / 1024 = m - 2 ∨ t / 1024 = m - 1)) ∧
  ∀ (n : Fin 64) (ch : Fin 640) (m : Nat) (src : EdgeSource) (tp : Taps) (lev : Int) (s : State), ch.val < 632 → (s.df n).takesEdge ch true src →
    discriminator ((s.df n).thresholdT ch) false lev → (s.df n).mode ch ≠ modeOff → ((s.df n).chan ch).blankEnd = none → ((s.df n).chan ch).srcBlank =
    none → ((s.df n).chan ch).armed → ((s.df n).chan ch).ready → ((s.df n).chan ch).running = none → ((s.df n).chan ch).wins = [] → ((s.df n).chan
    ch).rearmAt = none → (reedTime ((s.df n).fld (DF.REED.CH.RA ch)) ((s.df n).fld (DF.REED.CH.RB ch)) m (reading tp)).2 = false → Ends (.leadingEdge
    n ch src m ⟨tp, lev⟩) s fun t => (t.df n).fld (DF.REED.CH.CALFAIL ch) = satAdd 8 ((s.df n).fld (DF.REED.CH.CALFAIL ch)) 1 ∧ ((t.df n).chan
    ch).cands.length = ((s.df n).chan ch).cands.length + 1 ∧ ((t.df n).chan ch).cands.getLast?.map (fun h => (h.coarse, h.lead)) = some (true, 1024 *
    (m - 2))

/-- R46, R63, R116: V high inside the window validates the candidate and counts it in account 0 of its frame, and a crossing of a LIVE channel is
noted for the tussocks; a window that ends undecided counts in TONLY. Model's choice: log entry 18. -/
def Obligations.Validation : Prop :=
  (∀ (n : Fin 64) (ch : Fin 640) (m : Nat) (lev : Int) (s : State) (h : Cand), discriminator ((s.df n).thresholdV ch) false lev → (s.df n).mode ch ≠
    modeOff → ((s.df n).chan ch).blankEnd = none → ((s.df n).chan ch).cands = [h] → h.valid = none → h.coarse = false → h.lead / 1024 ≤ m → m ≤
    h.valEnd → Ends (.vCrossing n ch ⟨m, lev⟩) s fun t => ((t.df n).chan ch).cands = [{ h with valid := some true }] ∧ FMap.get 0 (t.df n).hit.frames
    (6 * (h.lead / 1024 / frameTicks)) = FMap.get 0 (s.df n).hit.frames (6 * (h.lead / 1024 / frameTicks)) + 1) ∧
  (∀ (n : Fin 64) (ch : Fin 640) (m : Nat) (lev : Int) (s : State), discriminator ((s.df n).thresholdV ch) false lev → (s.df n).mode ch ≠ modeOff →
    ((s.df n).chan ch).blankEnd = none → (s.df n).crossingCounts ch m → Ends (.vCrossing n ch ⟨m, lev⟩) s fun t => (m / 4, ch.val) ∈ (t.df
    n).tus.crossings) ∧
  ∀ (n : Fin 64) (ch : Fin 640) (s : State) (h : Cand), ((s.df n).chan ch).cands = [h] → h.valid = none → Ends (.validationWindowEnd n ch) s fun t =>
    ((t.df n).chan ch).cands = (if h.tot.isSome then [] else [{ h with valid := some false }]) ∧ (t.df n).fld (DF.AFE.TONLY.COUNT ch) = satAdd 24
    ((s.df n).fld (DF.AFE.TONLY.COUNT ch)) 1 ∧ (t.df n).now = laterTick (s.df n).now h.valEnd

/-- R50, R51, R53, R74, R76: the gate closes at its tick, and the hit in progress holds the charge collected, clipped at full scale; the trailing edge
gives the hit its ToT in units of 16 fine, at most 0xFFFF, and starts the post-hit calibration; after 1,088 ticks without one the record carries
0xFFFF with TOT_SAT (that the reset of the integrator stands for the trailing edge is the model's choice, log entry 22). Model's choices: log entries
22, 88, 92. -/
def Obligations.GateAndTrailingEdge : Prop :=
  (∀ (n : Fin 64) (ch : Fin 640) (charge : Nat) (s : State) (e : Nat) (h : Cand), ((s.df n).chan ch).gateEnd = some e → ((s.df n).chan ch).running =
    some h → Ends (.gateClose n ⟨ch, charge⟩) s fun t => ((t.df n).chan ch).gateEnd = none ∧ (t.df n).now = laterTick (s.df n).now e ∧ ((t.df n).chan
    ch).running = some
    { h with charge := some (min charge 170000), sat := h.sat || decide (170000 ≤ charge), ramp := rampTot (h.gate - h.lead / 1024) 0 charge ((s.df n).inForce DF.AFE.CONFIG.DISCH) }) ∧
  (∀ (n : Fin 64) (ch : Fin 640) (charge : Nat) (s : State) (e : Nat), ((s.df n).chan ch).gateEnd = some e → ((s.df n).chan ch).running = none → Ends
    (.gateClose n ⟨ch, charge⟩) s fun t => ((t.df n).chan ch) = { ((s.df n).chan ch) with gateEnd := none } ∧ (t.df n).now = laterTick (s.df n).now e) ∧
  (∀ (n : Fin 64) (ch : Fin 640) (m : Nat) (src : EdgeSource) (tp : Taps) (s : State) (h : Cand), ch.val < 632 → (s.df n).takesEdge ch false src →
    ((s.df n).chan ch).srcBlank = none → ((s.df n).chan ch).armed → ((s.df n).chan ch).running = some h → h.valid = some true → h.counted → ((s.df
    n).chan ch).wins = [] → (reedTime h.rA h.rB m (reading tp)).2 → h.gate ≤ (reedTime h.rA h.rB m (reading tp)).1 / 1024 → Ends (.trailingEdge n ch
    src m tp) s fun t => ((t.df n).chan ch).cands.getLast? = some
    { h with tot := some (min (((reedTime h.rA h.rB m (reading tp)).1 - h.lead + 8) / 16) 65535), sat := h.sat || decide (65535 < ((reedTime h.rA h.rB m (reading tp)).1 - h.lead + 8) / 16), doneAt := m + 3 }
    ∧ ((t.df n).chan ch).gateEnd = none ∧ ((t.df n).chan ch).wins = [⟨(reedTime h.rA h.rB m (reading tp)).1 + 5120, true⟩]) ∧
  ∀ (n : Fin 64) (ch : Fin 640) (s : State) (h : Cand), ((s.df n).chan ch).running = some h → h.valid = some true → Ends (.totSatTimeout n ch) s fun t
    => ((t.df n).chan ch).cands.getLast? = some { h with tot := some 0xFFFF, sat := true, doneAt := h.lead / 1024 + 1091 } ∧ (t.df n).now = laterTick
    (s.df n).now (h.lead / 1024 + 1088)

/-- R38, R41: a clamp that conducts marks the hit in progress and, unless the channel is OFF, sets its sticky bit, and one that stops changes no
register; the baseline compensator at its limit sets its own sticky bit. R49, R84, R94: blanking that ends in RUN arms the channel, which begins its
first calibration of 5 ticks; an armed ordinary channel calibrates; the blanking after an anchor source change just ends. Model's choice: log entry
93. -/
def Obligations.ClampBaselineAndBlanking : Prop :=
  (∀ (n : Fin 64) (ch : Fin 640) (s : State), (s.df n).mode ch ≠ modeOff → Ends (.clampConduction n ch true) s fun t => (t.df n).fld (DF.AFE.CH.CLAMP
    ch) = 1 ∧ ((t.df n).chan ch).clampOn ∧ ((t.df n).chan ch).running = ((s.df n).chan ch).running.map fun h => { h with clamp := true }) ∧
  (∀ (n : Fin 64) (ch : Fin 640) (s : State), Ends (.clampConduction n ch false) s fun t => ((t.df n).chan ch) =
    { ((s.df n).chan ch) with clampOn := false } ∧ (t.df n).regs = (s.df n).regs) ∧
  (∀ (n : Fin 64) (ch : Fin 640) (on : Bool) (s : State), (s.df n).inForce DF.AFE.CONFIG.BLC_EN = 1 → Ends (.blcLimit n ch on) s fun t => ((t.df n).chan
    ch) = { ((s.df n).chan ch) with blcOn := on } ∧ (t.df n).fld (DF.AFE.CH.BLC_LIM ch) = (if on then 1 else (s.df n).fld (DF.AFE.CH.BLC_LIM ch))) ∧
  (∀ (n : Fin 64) (ch : Fin 640) (on : Bool) (s : State), (s.df n).inForce DF.AFE.CONFIG.BLC_EN = 0 → Ends (.blcLimit n ch on) s fun t => (t.df n) =
    (s.df n)) ∧
  (∀ (n : Fin 64) (ch : Fin 640) (s : State) (e : Nat), ch.val < 632 → ((s.df n).chan ch).blankEnd = some e → ((s.df n).chan ch).armed = false → (s.df
    n).state = dfRun → (s.df n).mode ch ≠ modeOff → (s.df n).tim.rootLocked → Ends (.blankingEnd n ch) s fun t => ((t.df n).chan ch).blankEnd = none ∧
    ((t.df n).chan ch).armed ∧ ((t.df n).chan ch).ready = false ∧ ((t.df n).chan ch).wins = [⟨1024 * (laterTick (s.df n).now e + 5), false⟩] ∧ (t.df
    n).fld (DF.REED.CH.NOTCAL ch) = 1) ∧
  (∀ (n : Fin 64) (ch : Fin 640) (s : State) (e : Nat), ch.val < 632 → ((s.df n).chan ch).blankEnd = some e → ((s.df n).chan ch).armed → Ends
    (.blankingEnd n ch) s fun t => ((t.df n).chan ch).blankEnd = none ∧ ((t.df n).chan ch).wins = ((s.df n).chan ch).wins ++ [⟨1024 * (laterTick (s.df
    n).now e + 5), true⟩]) ∧
  ∀ (n : Fin 64) (k : Fin 8) (s : State) (e : Nat), ((s.df n).chan (632 + k)).srcBlank = some e → Ends (.sourceChangeBlankEnd n k) s fun t => (t.df
    n).chan (632 + k) = { (s.df n).chan (632 + k) with srcBlank := none } ∧ (t.df n).now = laterTick (s.df n).now e

/-- R69, R77, R81, R85: a calibration window that ends with a valid pair of readings sets the constants, clears NOTCAL, makes the channel ready and
sets the next refresh; an invalid pair counts in CALFAIL, leaves the constants, and the sixteenth in a row of a channel that is not ready sets
CALDEAD. Model's choices: log entries 18, 19. -/
def Obligations.CalibrationWindow : Prop :=
  (∀ (n : Fin 64) (ch : Fin 640) (tp tq : Taps) (s : State) (w : CalWin) (ws : List CalWin), ch.val < 632 → ((s.df n).chan ch).wins = w :: ws → calValid
    (reading tp) (reading tq) → Ends (.calibrationWindowEnd n ch tp tq) s fun t => ((t.df n).chan ch).wins = ws ∧ ((t.df n).chan ch).ready ∧ ((t.df
    n).chan ch).lastCal = w.endF ∧ (t.df n).fld (DF.REED.CH.RA ch) = reading tp ∧ (t.df n).fld (DF.REED.CH.RB ch) = reading tq ∧ (t.df n).fld
    (DF.REED.CH.NOTCAL ch) = 0 ∧ (t.df n).deltas = ((reading tq - reading tp) :: (s.df n).deltas).take 1024 ∧ (((s.df n).chan ch).spread = false →
    (s.df n).inForce DF.REED.REFRESH.INTERVAL ≠ 0 → ((t.df n).chan ch).refreshAt = some ((w.endF + 1023) / 1024 + (s.df n).inForce
    DF.REED.REFRESH.INTERVAL))) ∧
  (∀ (n : Fin 64) (ch : Fin 640) (tp tq : Taps) (s : State) (w : CalWin) (ws : List CalWin), ch.val < 632 → ((s.df n).chan ch).wins = w :: ws → calValid
    (reading tp) (reading tq) = false → Ends (.calibrationWindowEnd n ch tp tq) s fun t => ((t.df n).chan ch).wins = ws ∧ ((t.df n).chan ch).ready =
    ((s.df n).chan ch).ready ∧ (t.df n).fld (DF.REED.CH.RA ch) = (s.df n).fld (DF.REED.CH.RA ch) ∧ (t.df n).fld (DF.REED.CH.RB ch) = (s.df n).fld
    (DF.REED.CH.RB ch) ∧ (t.df n).fld (DF.REED.CH.CALFAIL ch) = satAdd 8 ((s.df n).fld (DF.REED.CH.CALFAIL ch)) 1 ∧ (((s.df n).chan ch).ready = false
    → ((s.df n).chan ch).badRun = 15 → (t.df n).fld (DF.REED.CH.CALDEAD ch) = 1 ∧ ((t.df n).chan ch).retryAt = none)) ∧
  ∀ rA rB : Nat, calValid rA rB = true ↔ 4 ≤ rA ∧ rA ≤ 120 ∧ 900 ≤ rB ∧ rB ≤ 1020 ∧ 880 ≤ (rB : Int) - rA ∧ (rB : Int) - rA ≤ 1008

/-- R77, R80, R85: an expired refresh timer of a ready channel with no hit in progress and no launch near starts a calibration of 5 ticks; the retry
timer of a channel that is not ready does too; RETRY clears CALDEAD and CALFAIL and leaves the constants. Model's choice: log entry 19. -/
def Obligations.RefreshAndRetry : Prop :=
  (∀ (n : Fin 64) (ch : Fin 640) (s : State) (e : Nat), ch.val < 632 → ((s.df n).chan ch).refreshAt = some e → ((s.df n).chan ch).ready → ((s.df n).chan
    ch).running = none → (s.df n).nearLaunch ch e = false → Ends (.refreshTimerExpiry n ch) s fun t => ((t.df n).chan ch).refreshAt = none ∧ ((t.df
    n).chan ch).wins = ((s.df n).chan ch).wins ++ [⟨1024 * (e + 5), false⟩] ∧ (t.df n).now = laterTick (s.df n).now e) ∧
  (∀ (n : Fin 64) (ch : Fin 640) (s : State) (e : Nat), ((s.df n).chan ch).retryAt = some e → ((s.df n).chan ch).ready = false → ((s.df n).chan
    ch).armed → Ends (.calRetryTimer n ch) s fun t => ((t.df n).chan ch) =
    { ((s.df n).chan ch) with retryAt := none, wins := ((s.df n).chan ch).wins ++ [⟨1024 * (e + 5), false⟩] }) ∧
  ∀ (n : Fin 64) (ch : Fin 640) (s : State), ch.val < 632 → Ends (.retry n ch) s fun t => (t.df n).fld (DF.REED.CH.CALDEAD ch) = 0 ∧ (t.df n).fld
    (DF.REED.CH.CALFAIL ch) = 0 ∧ (t.df n).fld (DF.REED.CH.RA ch) = (s.df n).fld (DF.REED.CH.RA ch) ∧ t.result = (0, 0)

/-- R84, R91 to R93: an anchor DLL that locks while the root is locked makes its channel ready and one that loses lock sets UNLOCK; an anchor re-arms
2 ticks after its trailing edge; the loss of the root stops every ordinary line and unlocks every DLL, and its return arms the channels in RUN. R55,
R57, R60: an armed slot fires at its launch tick; slot 0 injects every idle channel that takes part and whose output is low, no channel outside the
slot is touched, the next firing is PERIOD frames on, and the slot disarms after its last one. Model's choices: log entries 25, 94, 95, 96. -/
def Obligations.AnchorsRootAndInjection : Prop :=
  (∀ (n : Fin 64) (k : Fin 8) (s : State), (s.df n).tim.rootLocked → Ends (.anchorDllLock n k) s fun t => (t.df n).fld (DF.REED.ANCHOR.LOCKED k) = 1 ∧
    ((t.df n).chan (632 + k)).ready) ∧
  (∀ (n : Fin 64) (k : Fin 8) (s : State), (s.df n).fld (DF.REED.ANCHOR.LOCKED k) = 1 → Ends (.anchorDllUnlock n k) s fun t => (t.df n).fld
    (DF.REED.ANCHOR.LOCKED k) = 0 ∧ (t.df n).fld (DF.REED.ANCHOR.UNLOCK k) = 1 ∧ (t.df n).chan (632 + k) = (s.df n).chan (632 + k)) ∧
  (∀ (n : Fin 64) (k : Fin 8) (s : State) (e : Nat), ((s.df n).chan (632 + k)).rearmAt = some e → Ends (.anchorRearm n k) s fun t => (t.df n).chan (632
    + k) = { (s.df n).chan (632 + k) with rearmAt := none } ∧ (t.df n).now = laterTick (s.df n).now e) ∧
  (∀ (n : Fin 64) (s : State), Ends (.rootLockLoss n) s fun t => (t.df n).tim.rootLocked = false ∧ (∀ ch < 632, ((t.df n).chan ch).armed = false) ∧ ∀ k
    < 8, (t.df n).fld (DF.REED.ANCHOR.LOCKED k) = 0 ∧ ((t.df n).chan (632 + k)).ready = false) ∧
  (∀ (n : Fin 64) (s : State), Ends (.rootLockReturn n) s fun t => (t.df n).tim.rootLocked ∧ ((s.df n).state = dfRun → ∀ ch < 640, (s.df n).mode ch ≠
    modeOff → ((s.df n).chan ch).blankEnd = none → ((t.df n).chan ch).armed) ∧ ((s.df n).state ≠ dfRun → (t.df n).chans = (s.df n).chans)) ∧
  ∀ (n : Fin 64) (q : Fin 4) (th : List (Nat × Bool × Int)) (s : State), (s.df n).slotArmed q → Ends (.injectionLaunch n q th) s fun t => (t.df n).now =
    laterTick (s.df n).now ((s.df n).launchTick q) ∧ (FMap.get {} (t.df n).slots q).lastLaunch = (s.df n).launchTick q ∧ (FMap.get {} (t.df n).slots
    q).next = (FMap.get {} (s.df n).slots q).next + (if (s.df n).fld (DF.AFE.INJ_B.PERIOD q) = 0 then 256 else (s.df n).fld (DF.AFE.INJ_B.PERIOD q)) ∧
    ((FMap.get {} (s.df n).slots q).left = some 1 → (t.df n).slotArmed q = false) ∧ ((FMap.get {} (s.df n).slots q).left ≠ some 1 → (t.df n).slotArmed
    q) ∧ (q.val = 0 → ∀ ch < 640, (s.df n).selects 0 ch → (s.df n).injBusy ch = false → (s.df n).tHigh th ch = false → ((t.df n).chan ch).injAt = some
    ((s.df n).launchTick 0)) ∧ ∀ ch < 640, (s.df n).selects q ch = false → (t.df n).chan ch = (s.df n).chan ch

/-- R104, R108, R113, R128: the oldest complete record of a channel enters its derandomiser with its HIT word and frame; a masked one is dropped and
counted in account 4; with 8 records waiting it is dropped and counted in account 2. -/
def Obligations.HitsEnterTheDerandomiser : Prop :=
  (∀ (n : Fin 64) (ch : Fin 640) (s : State) (h : Cand) (rest : List Cand), takeComplete ((s.df n).chan ch).cands = some (h, rest) → h.masked = false →
    ((s.df n).chan ch).derand.length < 8 → Ends (.hitComplete n ch) s fun t => ((t.df n).chan ch).cands = rest ∧ ((t.df n).chan ch).derand = ((s.df
    n).chan ch).derand ++ [⟨h.word ch, h.lead / 1024 / frameTicks, 0⟩] ∧ (t.df n).now = laterTick (s.df n).now h.doneAt ∧ (t.df n).hit = (s.df n).hit) ∧
  (∀ (n : Fin 64) (ch : Fin 640) (s : State) (h : Cand) (rest : List Cand), takeComplete ((s.df n).chan ch).cands = some (h, rest) → h.masked → Ends
    (.hitComplete n ch) s fun t => ((t.df n).chan ch).cands = rest ∧ ((t.df n).chan ch).derand = ((s.df n).chan ch).derand ∧ FMap.get 0 (t.df
    n).hit.frames (6 * (h.lead / 1024 / frameTicks) + 4) = FMap.get 0 (s.df n).hit.frames (6 * (h.lead / 1024 / frameTicks) + 4) + 1) ∧
  (∀ (n : Fin 64) (ch : Fin 640) (s : State) (h : Cand) (rest : List Cand), takeComplete ((s.df n).chan ch).cands = some (h, rest) → h.masked = false →
    8 ≤ ((s.df n).chan ch).derand.length → Ends (.hitComplete n ch) s fun t => ((t.df n).chan ch).cands = rest ∧ ((t.df n).chan ch).derand = ((s.df
    n).chan ch).derand ∧ FMap.get 0 (t.df n).hit.frames (6 * (h.lead / 1024 / frameTicks) + 2) = FMap.get 0 (s.df n).hit.frames (6 * (h.lead / 1024 /
    frameTicks) + 2) + 1) ∧
  ∀ (h : Cand) (ch : Nat), ch < 640 → rb (h.word ch) 60 4 = 1 ∧ rb (h.word ch) 50 10 = ch ∧ rb (h.word ch) 34 16 = h.lead / 1024 % 65536 ∧ rb (h.word
    ch) 24 10 = (if h.coarse then 0 else h.lead % 1024) ∧ rb (h.word ch) 8 16 = h.tot.getD 0 % 65536 ∧ rb (h.word ch) 0 8 = h.flags

/-- R101, R108, R109, R111, R113: one tick of the dispatcher takes the next record of a quarter to the lane queue of the position that is up, or
counts it in account 5 when none is; when the oldest record of an open block has waited FLUSH ticks the block closes with the next sequence. Model's
choices: log entries 23, 97. -/
def Obligations.DispatchAndFlush : Prop :=
  (∀ (n : Fin 64) (ch : Fin 640) (s : State) (h : HitRec) (rest : List HitRec), (s.df n).offer 0 = some ch.val → ch.val < 160 → (s.df n).offer 1 = none
    → (s.df n).offer 2 = none → (s.df n).offer 3 = none → ((s.df n).chan ch).derand = h :: rest → (s.df n).posUp 0 → (s.df n).posUp 1 = false → ((s.df
    n).pos 0).closed.isSome → (s.df n).laneFill 0 < laneLimit ((s.df n).posRung 0) → (s.df n).cmd.held = [] → (s.df n).cmd.waiting = none → Ends
    (.dispatch n) s fun t => ((t.df n).chan ch).derand = rest ∧ ((t.df n).pos 0).hits = ((s.df n).pos 0).hits ++ [{ h with since := (s.df n).now }] ∧
    ((t.df n).pos 0).closed = ((s.df n).pos 0).closed) ∧
  (∀ (n : Fin 64) (ch : Fin 640) (s : State) (h : HitRec) (rest : List HitRec), (s.df n).offer 0 = some ch.val → ch.val < 160 → (s.df n).offer 1 = none
    → (s.df n).offer 2 = none → (s.df n).offer 3 = none → ((s.df n).chan ch).derand = h :: rest → (s.df n).posUp 0 = false → (s.df n).posUp 1 = false
    → (s.df n).cmd.held = [] → (s.df n).cmd.waiting = none → Ends (.dispatch n) s fun t => ((t.df n).chan ch).derand = rest ∧ FMap.get 0 (t.df
    n).hit.frames (6 * h.frame + 5) = FMap.get 0 (s.df n).hit.frames (6 * h.frame + 5) + 1) ∧
  ∀ (n : Fin 64) (p : Fin 2) (s : State) (e : Nat), ((s.df n).compose p).oldest = some e → (s.df n).posUp p → ((s.df n).pos p).closed = none → (s.df
    n).fld DF.ID.INDEX.SET = 1 → (s.df n).cmd.held = [] → (s.df n).cmd.waiting = none → Ends (.blockFlushTimeout n p) s fun t => ((t.df n).pos
    p).closed = some (makeBlock ((s.df n).fld DF.ID.INDEX.N) p ((s.df n).pos p).seq (laterTick (s.df n).now (e + (s.df n).inForce DF.HIT.CTRL.FLUSH) /
    frameTicks) (((s.df n).pos p).hitTotal + ((s.df n).compose p).nHit) ((s.df n).compose p).payload) ∧ ((t.df n).pos p).seq = (((s.df n).pos p).seq +
    1) % 2 ^ 24 ∧ ((t.df n).pos p).hits = ((s.df n).pos p).hits.drop ((s.df n).compose p).nHit

/-- R117, R118, R129, R130: an evaluation gives each of the 64 tussocks its state at the slice, on exactly when its rule is enabled and its
multiplicity reaches M, and goes on to the next slice; at tick 16,384 of a frame the counts of the frames before it enter the running totals modulo
2^48. -/
def Obligations.TussocksAndLedger : Prop :=
  (∀ (n : Fin 64) (s : State), Ends (.tussockEvaluation n) s fun t => (t.df n).tus.nextSlice = (s.df n).tus.nextSlice + 1 ∧ (t.df n).now = laterTick
    (s.df n).now (4 * ((s.df n).tus.nextSlice + 3)) ∧ ∀ k < 64, (t.df n).tus.state.testBit k = ((s.df n).tusFld (s.df n).tus.nextSlice (DF.TUS.RULE.EN
    k) == 1 && decide ((s.df n).tusFld (s.df n).tus.nextSlice (DF.TUS.RULE.M k) ≤ (s.df n).multiplicity k (s.df n).tus.nextSlice))) ∧
  ∀ (n : Fin 64) (s : State), (s.df n).hit.ledgerFrame = none → 0 < (s.df n).frame → Ends (.ledgerEmit n) s fun t => (t.df n).hit.ledgerFrame = some
    (s.df n).frame ∧ (t.df n).now = laterTick (s.df n).now ((s.df n).frame * frameTicks + 16384) ∧ ∀ a < 6, FMap.get 0 (t.df n).hit.totals a =
    (FMap.get 0 (s.df n).hit.totals a + framesUpTo (s.df n).hit.frames ((s.df n).frame - 1) a) % 2 ^ 48

/-- R47, R125, R419, R443: at the next frame boundary the staged settings take effect together; a committed shadow is written first and the lock
released; a soft reset due there takes the chip to POWER with its cause. Model's choices: log entries 77, 88, 98. -/
def Obligations.FrameBoundaryOfADf640 : Prop :=
  (∀ (n : Fin 64) (on : Bool) (s : State), (s.df n).bt.softIn = none → (s.df n).cmd.goTo = none → (s.df n).cmd.step = none → (s.df n).cmd.sync = none →
    (s.df n).cmd.held = [] → (s.df n).cmd.waiting = none → (s.df n).cmd.commit = none → Ends (.dfFrameBoundary ⟨n, on⟩) s fun t => (t.df
    n).bt.boundary = (s.df n).nextBoundary ∧ (t.df n).inForce DF.AFE.CONFIG.GATE = (s.df n).fld DF.AFE.CONFIG.GATE ∧ (t.df n).inForce
    DF.AFE.GLOBAL.T_DAC = (s.df n).fld DF.AFE.GLOBAL.T_DAC ∧ (∀ ch < 640, (t.df n).mode ch = (s.df n).fld (DF.AFE.CH.MODE ch)) ∧ (∀ k < 64, (t.df
    n).inForce (DF.TUS.RULE.M k) = (s.df n).fld (DF.TUS.RULE.M k)) ∧ (t.df n).pend = false) ∧
  (∀ (n : Fin 64) (on : Bool) (s : State) (i : Nat) (w : Word), (s.df n).bt.softIn = none → (s.df n).cmd.goTo = none → (s.df n).cmd.step = none → (s.df
    n).cmd.sync = none → (s.df n).cmd.held = [] → (s.df n).cmd.waiting = none → (s.df n).cmd.commit = some (i, false) → (s.df n).cmd.shadow =
    [(DF.AFE.CONFIG.addr, w)] → (s.df n).fld DF.CMD.LOCK.HELD = 1 → (s.df n).nextBoundary ≤ (s.df n).cmd.leaseAt → Ends (.dfFrameBoundary ⟨n, on⟩) s
    fun t => (t.df n).inForce DF.AFE.CONFIG.GATE = fieldOf w 12 6 ∧ (t.df n).inForce DF.AFE.CONFIG.VALWIN = fieldOf w 1 3 ∧ (t.df n).fld
    DF.CMD.LOCK.HELD = 0 ∧ (t.df n).cmd.shadow = [] ∧ (t.df n).cmd.commit = none ∧ (t.df n).cmd.last = some (i, replyRecs i 0 [1])) ∧
  ∀ (n : Fin 64) (on : Bool) (s : State), (s.df n).bt.softIn = some 1 → Ends (.dfFrameBoundary ⟨n, on⟩) s fun t => (t.df n).state = dfPower ∧ (t.df
    n).fld DF.BOOT.CAUSE.SOFT = 1 ∧ (t.df n).chans = [] ∧ (t.df n).now = 0 ∧ (t.df n).out = (s.df n).out

/-- R375, R378, R381, R385, R386: a slot of the sequencer runs the injection at the head of its queue, else the next enabled entry, whose raw code,
VALID flag and count it stores; enabling writes the control word, a requested calibration waits, and one that ends says whether it passed; a port
clamp that conducts sets its bit. Model's choices: log entries 28, 29, 131, 134. -/
def Obligations.HousekeepingConversions : Prop :=
  (∀ (n : Fin 64) (s : State) (e : Nat) (c : Int) (clamped : Bool), (s.df n).fld DF.HK.STATUS.CAL_BUSY = 0 → (s.df n).hk.queue = [] → (s.df n).hk.calReq
    = false → (s.df n).fld DF.HK.CTRL.EN = 1 → (s.df n).nextEnabled = some e → ((s.df n).entry e).input ≠ 8 → ((s.df n).entry e).curve = 0 → ((s.df
    n).entry e).wire ≠ 1 → ((s.df n).hk.cal[((s.df n).entry e).gain]?).getD (0, 0) = (0, 0) → -32768 ≤ c → c ≤ 32767 → Ends (.hkConversionSlot n
    (List.replicate ((s.df n).entry e).repeats c) [] clamped) s fun t => (t.df n).fld (DF.HK.RESULT.COUNT e) = ((s.df n).fld (DF.HK.RESULT.COUNT e) +
    1) % 256 ∧ (t.df n).fld (DF.HK.RESULT.VALUE e) = unsigned 16 c ∧ ((t.df n).fld (DF.HK.RESULT.FLAGS e)).testBit 0 ∧ ((t.df n).fld
    (DF.HK.RESULT.FLAGS e)).testBit 7 = false ∧ (t.df n).fld DF.HK.STATUS.ENTRY = e % 32 ∧ (t.df n).hk.nextEntry = (e + 1) % 32) ∧
  (∀ (n : Fin 64) (s : State) (i : Nat) (j : HkJob) (rest : List (Nat × HkJob)) (codes wires : List Int) (clamped : Bool), (s.df n).fld
    DF.HK.STATUS.CAL_BUSY = 0 → ((s.df n).hk.calReq = false ∨ (s.df n).hk.calAhead ≠ 0) → (s.df n).hk.queue = (i, j) :: rest → i < 4 → Ends
    (.hkConversionSlot n codes wires clamped) s fun t => (t.df n).hk.queue = rest ∧ (t.df n).fld (DF.HK.INJ_RESULT.COUNT i) = ((s.df n).fld
    (DF.HK.INJ_RESULT.COUNT i) + 1) % 256 ∧ ((t.df n).fld (DF.HK.INJ_RESULT.FLAGS i)).testBit 0 ∧ ((t.df n).fld (DF.HK.INJ_RESULT.FLAGS i)).testBit 7) ∧
  (∀ (n : Fin 64) (w : Word) (s : State), fieldOf w 1 1 = 0 → Ends (.hkEn n w) s fun t => (t.df n).fld DF.HK.CTRL.EN = fieldOf w 0 1 ∧ (t.df n).fld
    DF.HK.CTRL.LP = 0 ∧ (t.df n).fld DF.HK.CTRL.RECOVERY = fieldOf w 3 8 ∧ t.result = (0, 0)) ∧
  (∀ (n : Fin 64) (s : State), (s.df n).fld DF.HK.STATUS.CAL_BUSY = 0 → (s.df n).fld DF.HK.CTRL.LP = 0 → Ends (.hkCalibration n) s fun t => (t.df
    n).hk.calReq ∧ (t.df n).fld DF.HK.CTRL.EN = (s.df n).fld DF.HK.CTRL.EN ∧ (t.df n).fld DF.HK.CTRL.RECOVERY = (s.df n).fld DF.HK.CTRL.RECOVERY ∧
    t.result = (0, 0)) ∧
  (∀ (n : Fin 64) (points : List (Int × Int)) (s : State), (s.df n).fld DF.HK.STATUS.CAL_BUSY = 1 → Ends (.hkCalibrationDone n points) s fun t => (t.df
    n).fld DF.HK.STATUS.CAL_BUSY = 0 ∧ (t.df n).fld DF.HK.STATUS.CAL_DONE = (if points.all calPointOk then 1 else (s.df n).fld DF.HK.STATUS.CAL_DONE)
    ∧ (t.df n).fld DF.HK.STATUS.CAL_FAIL = (if points.all calPointOk then (s.df n).fld DF.HK.STATUS.CAL_FAIL else 1) ∧ (t.df n).hk.cal = (if
    points.all calPointOk then points else (s.df n).hk.cal)) ∧
  (∀ (n : Fin 64) (i : Fin 8) (s : State), Ends (.hkPortClamp n i true) s fun t => FMap.get false (t.df n).hk.portClamp i ∧ ((t.df n).fld
    DF.HK.PORTS.CLAMP).testBit i) ∧
  ∀ (n : Fin 64) (i : Fin 8) (s : State), Ends (.hkPortClamp n i false) s fun t => FMap.get false (t.df n).hk.portClamp i = false ∧ (t.df n).regs =
    (s.df n).regs

/-- R392, R394, R395, R442: outside SAFE an evaluation gives a group without a loop its BASE as target and steps its code by at most STEP_MAX once the
gap reaches DEADBAND while a lane position is up; a monitor output presents the level of its source, or its fault value while it is disabled. Model's
choice: log entry 33. -/
def Obligations.BiasAndMonitors : Prop :=
  (∀ (n : Fin 64) (s : State), (s.df n).state ≠ dfSafe → Ends (.biasEvaluation n) s fun t => (∀ g < 40, (s.df n).fld (DF.BIAS.GROUP_A.LOOP g) = 0 →
    (t.df n).fld (DF.BIAS.TRIM.TARGET g) = (s.df n).fld (DF.BIAS.GROUP_A.BASE g)) ∧ ∀ g < 40, (s.df n).fld (DF.BIAS.GROUP_A.LOOP g) = 0 → (s.df
    n).posUp 0 → (s.df n).groupOff g = false → (s.df n).fld (DF.BIAS.TRIM.CODE g) + (s.df n).fld DF.BIAS.CTRL.DEADBAND ≤ (s.df n).fld
    (DF.BIAS.GROUP_A.BASE g) → FMap.get none (t.df n).hk.steps g = some ((s.df n).fld (DF.BIAS.TRIM.CODE g) + min ((s.df n).fld (DF.BIAS.GROUP_A.BASE
    g) - (s.df n).fld (DF.BIAS.TRIM.CODE g)) ((s.df n).fld DF.BIAS.CTRL.STEP_MAX), 0)) ∧
  (∀ (n : Fin 64) (i : Fin 2) (age : Nat) (s : State), (s.df n).fld (DF.HK.MON_CFG.EN i) = 0 → Ends (.monitorUpdate n i age) s fun t => (t.df n).fld
    (DF.HK.MON_CFG.FAULT i) = 1 ∧ FMap.get 0 (t.df n).hk.monOut i = (s.df n).monFaultLevel i) ∧
  ∀ (n : Fin 64) (i : Fin 2) (age : Nat) (s : State), (s.df n).monFault i age = false → FMap.get none (s.df n).hk.monY i = none → (s.df n).fld
    (DF.HK.RESULT.COUNT ((s.df n).fld (DF.HK.MON_CFG.SRC i))) ≠ FMap.get 0 (s.df n).hk.monSeen i → usableFlags ((s.df n).fld (DF.HK.RESULT.FLAGS
    ((s.df n).fld (DF.HK.MON_CFG.SRC i)))) → Ends (.monitorUpdate n i age) s fun t => (t.df n).fld (DF.HK.MON_CFG.FAULT i) = 0 ∧ FMap.get none (t.df
    n).hk.monY i = some (s16 ((s.df n).fld (DF.HK.RESULT.VALUE ((s.df n).fld (DF.HK.MON_CFG.SRC i))))) ∧ FMap.get 0 (t.df n).hk.monOut i = (s.df
    n).monLevel i (s16 ((s.df n).fld (DF.HK.RESULT.VALUE ((s.df n).fld (DF.HK.MON_CFG.SRC i)))))

/-- R430, R439, R443, R446: power-on, brown-out and the pin each take the DF640 to POWER with their cause and every other register at its reset value;
released it goes to FUSE, and with its fuses read to LISTEN on receiver 0; after 4 ms without a source it tries the other receiver. Model's choices:
log entries 8, 77. -/
def Obligations.ResetsOfADf640 : Prop :=
  (∀ (n : Fin 64) (s : State), Ends (.powerOn (.df n)) s fun t => (t.df n).state = dfPower ∧ (t.df n).fld DF.BOOT.CAUSE.POR = 1 ∧ (t.df n).chans = [] ∧
    (t.df n).cmd = {} ∧ (t.df n).now = 0 ∧ (t.df n).out = (s.df n).out ∧ ∀ a, a ≠ DF.BOOT.CAUSE.addr → a ≠ DF.BOOT.STATE.addr → (t.df n).word a =
    dfReset a) ∧
  (∀ (n : Fin 64) (s : State), Ends (.brownOut (.df n)) s fun t => (t.df n).state = dfPower ∧ (t.df n).fld DF.BOOT.CAUSE.BOR = 1 ∧ (t.df n).chans = [] ∧
    (t.df n).cmd = {} ∧ (t.df n).now = 0 ∧ (t.df n).out = (s.df n).out ∧ ∀ a, a ≠ DF.BOOT.CAUSE.addr → a ≠ DF.BOOT.STATE.addr → (t.df n).word a =
    dfReset a) ∧
  (∀ (n : Fin 64) (s : State), Ends (.pinReset n) s fun t => (t.df n).state = dfPower ∧ (t.df n).fld DF.BOOT.CAUSE.PIN = 1 ∧ (t.df n).chans = [] ∧ (t.df
    n).cmd = {} ∧ (t.df n).now = 0 ∧ (t.df n).out = (s.df n).out ∧ ∀ a, a ≠ DF.BOOT.CAUSE.addr → a ≠ DF.BOOT.STATE.addr → (t.df n).word a = dfReset a) ∧
  (∀ (n : Fin 64) (pref pf : Bool) (s : State), (s.df n).state = dfPower → Ends (.powerRelease (.df n) pref pf) s fun t => (t.df n).state = dfFuse ∧
    (t.df n).fld DF.BOOT.STATE.PREV = dfPower ∧ (t.df n).chans = (s.df n).chans) ∧
  (∀ (n : Fin 64) (s : State) (fu : Fuses) (i g a b : Nat), (s.df n).state = dfFuse → fu.dieId = some i → fu.grade = some g → fu.l1 = some a → fu.l2 =
    some b → a < 1024 → b < 1024 → Ends (.fuseLoad (.df n) fu) s fun t => (t.df n).state = dfListen ∧ (t.df n).fld (DF.LINK.DN.STATE 0) = lLock ∧
    (t.df n).fld DF.ID.DIE_LO.ID = i % 2 ^ 32 ∧ (t.df n).fld DF.ID.DIE_HI.ID = i / 2 ^ 32 % 2 ^ 32 ∧ (t.df n).fld DF.BOOT.DROOP_CFG.L1 = a ∧ (t.df
    n).fld DF.BOOT.DROOP_CFG.L2 = b) ∧
  ∀ (n : Fin 64) (s : State), (s.df n).state = dfListen → (s.df n).fld (DF.LINK.DN.SOURCE 0) = 0 → (s.df n).fld (DF.LINK.DN.SOURCE 1) = 0 → (s.df
    n).bt.listen = 0 → Ends (.listenTimeout n) s fun t => (t.df n).bt.listen = 1 ∧ (t.df n).fld (DF.LINK.DN.STATE 0) = lOff ∧ (t.df n).fld
    (DF.LINK.DN.STATE 1) = lLock

/-- R439, R442, R443, R446: DONE asks for ALIGN in CONFIG after a TAKE and answers STATE elsewhere; 4,096 frames without a downlink take a running
chip to SAFE with every channel OFF and every slot disarmed; a droop below a level steps the clock down and counts, and a recovery steps it back; the
reset key falls due at the second boundary, any other value is refused. Model's choices: log entries 27, 38. -/
def Obligations.RunningStatesOfADf640 : Prop :=
  (∀ (n : Fin 64) (s : State), (s.df n).state = dfConfig → (s.df n).bt.taken → Ends (.done n) s fun t => (t.df n).cmd.goTo = some dfAlign ∧ t.result =
    (0, 0)) ∧
  (∀ (n : Fin 64) (s : State), ((s.df n).state ≠ dfConfig ∨ (s.df n).bt.taken = false) → Ends (.done n) s fun t => (t.df n) = (s.df n) ∧ t.result =
    (0x12, 0)) ∧
  (∀ (n : Fin 64) (s : State) (e : Nat), (s.df n).bt.noDownSince = some e → (s.df n).state = dfRun → Ends (.safeEntry n) s fun t => (t.df n).state =
    dfSafe ∧ (t.df n).fld DF.BOOT.STATE.PREV = dfRun ∧ (∀ ch < 640, (t.df n).fld (DF.AFE.CH.MODE ch) = 0 ∧ ((t.df n).chan ch).armed = false) ∧ (∀ q <
    4, (t.df n).slotArmed q = false) ∧ (t.df n).fld DF.CMD.LOCK.HELD = 0 ∧ (t.df n).now = laterTick (s.df n).now (e + 4096 * frameTicks)) ∧
  (∀ (n : Fin 64) (mv : Nat) (s : State), mv < (s.df n).fld DF.BOOT.DROOP_CFG.L2 → (s.df n).fld DF.BOOT.DROOP_STAT.STEP < 2 → Ends (.droopStep (.df n)
    mv) s fun t => (t.df n).fld DF.BOOT.DROOP_STAT.STEP = 2 ∧ (t.df n).fld DF.BOOT.DROOP_STAT.MIN = min ((s.df n).fld DF.BOOT.DROOP_STAT.MIN) mv ∧
    (t.df n).fld DF.BOOT.DROOP_N.N4 = satAdd 16 ((s.df n).fld DF.BOOT.DROOP_N.N4) 1) ∧
  (∀ (n : Fin 64) (s : State), (s.df n).fld DF.BOOT.DROOP_STAT.STEP = 2 → (s.df n).fld DF.BOOT.DROOP_CFG.L2 + 10 ≤ (s.df n).bt.droopMv → Ends
    (.droopRecover (.df n)) s fun t => (t.df n).fld DF.BOOT.DROOP_STAT.STEP = 1) ∧
  (∀ (n : Fin 64) (s : State), Ends (.softReset (.df n) 0xB007) s fun t => (t.df n).bt.softIn = some 2 ∧ t.result = (0, 0)) ∧
  ∀ (n : Fin 64) (w : Word) (s : State), w ≠ 0xB007 → Ends (.softReset (.df n) w) s fun t => (t.df n) = (s.df n) ∧ t.result = (3, 0)

/-- R170, R345, R417, R420: at its boundary the lease of a held lock falls by one and at 0 the lock is released, its shadow discarded and LEASE_EXP
counted; an ECHO that waited 64 frames is answered TIMEOUT and its probe still latches what comes later; a slew that ends leaves PHASE at the set in
force; copies that a TMR walk rewrites are counted. Model's choices: log entries 83, 135. -/
def Obligations.DelayedEffectsOfADf640 : Prop :=
  (∀ (n : Fin 64) (s : State), (s.df n).fld DF.CMD.LOCK.HELD = 1 → (s.df n).cmd.leaseAt < (s.df n).nextBoundary → 1 < (s.df n).fld DF.CMD.LOCK.LEASE →
    Ends (.leaseExpiry n) s fun t => (t.df n).fld DF.CMD.LOCK.LEASE = (s.df n).fld DF.CMD.LOCK.LEASE - 1 ∧ (t.df n).fld DF.CMD.LOCK.HELD = 1 ∧ (t.df
    n).cmd.shadow = (s.df n).cmd.shadow) ∧
  (∀ (n : Fin 64) (s : State), (s.df n).fld DF.CMD.LOCK.HELD = 1 → (s.df n).cmd.leaseAt < (s.df n).nextBoundary → (s.df n).fld DF.CMD.LOCK.LEASE = 1 →
    Ends (.leaseExpiry n) s fun t => (t.df n).fld DF.CMD.LOCK.HELD = 0 ∧ (t.df n).cmd.shadow = [] ∧ (t.df n).fld DF.CMD.LEASE_EXP.COUNT = satAdd 16
    ((s.df n).fld DF.CMD.LEASE_EXP.COUNT) 1) ∧
  (∀ (n : Fin 64) (s : State) (e : EchoRun), (s.df n).tim.echo = some e → e.answered = false → (s.df n).cmd.held = [] → (s.df n).cmd.waiting = none →
    Ends (.echoTimeout n) s fun t => (t.df n).tim.echo = some { e with answered := true } ∧ (t.df n).cmd.last = some (e.identity, replyRecs e.identity
    10 (s.df n).echoWords) ∧ (t.df n).fld DF.CMD.LAST.STATUS = 10) ∧
  (∀ (n : Fin 64) (s : State), (s.df n).fld DF.TIME.STATUS.SLEWING = 1 → Ends (.phaseSlewEnd n) s fun t => (t.df n).fld DF.TIME.STATUS.SLEWING = 0 ∧
    (t.df n).tim.phase = (s.df n).inForce (DF.TIME.ADJ.PHASE (s.df n).source) ∧ (t.df n).tim.slewLen = 0) ∧
  (∀ (n : Fin 64) (x : Nat) (s : State), Ends (.tmrWalk (.df n) x) s fun t => (t.df n).fld DF.MEM.TMR_FIX.COUNT = satAdd 32 ((s.df n).fld
    DF.MEM.TMR_FIX.COUNT) x) ∧
  ∀ (u : DcId) (x : Nat) (s : State), Ends (.tmrWalk (.dc u) x) s fun t => (t.dc u).fld DC.MEM.TMR_FIX.COUNT = satAdd 32 ((s.dc u).fld
    DC.MEM.TMR_FIX.COUNT) x

/-- R111, R140, R141, R154, R159, R160, R161: in RUN an uplink lane sends the next block handed to it, scrambled, stuffed and filled at its slot
position, and an idle slot when there is none; its marker slot carries its rung and marker count and starts the slot count again; a position that
stayed at or below LOW for HOLD ticks sends its sleep slot and sleeps, and a woken lane sends a wake slot; in training it sends the train slots first,
and in TEST its pattern. Model's choices: log entries 32, 39, 101, 102. -/
def Obligations.UplinkSlots : Prop :=
  (∀ (n : Fin 64) (l : Fin 4) (s : State) (b : List Rec) (rest : List (List Rec)), (s.df n).laneRun l → (s.df n).fld (DF.LINK.LANE.ASLEEP l) = 0 →
    ((s.df n).lane l).slot < 4096 → ((s.df n).lane l).todo = b :: rest → (s.df n).cmd.held = [] → (s.df n).cmd.waiting = none → Ends (.uplinkSlotSend
    (.df n) l) s fun t => ((t.df n).lane l).todo = rest ∧ ((t.df n).lane l).slot = ((s.df n).lane l).slot + 1 ∧ (t.df n).out = .slot l (upSlot l
    ((s.df n).lane l).slot b) :: (s.df n).out) ∧
  (∀ (n : Fin 64) (l : Fin 4) (s : State), (s.df n).laneRun l → (s.df n).fld (DF.LINK.LANE.ASLEEP l) = 0 → ((s.df n).lane l).slot < 4096 → ((s.df
    n).lane l).todo = [] → ((s.df n).pos (l % 2)).closed = none → training ((s.df n).fld (DF.LINK.DN.STATE (l / 2))) = false → (s.df n).cmd.held = []
    → (s.df n).cmd.waiting = none → Ends (.uplinkSlotSend (.df n) l) s fun t => ((t.df n).lane l).slot = ((s.df n).lane l).slot + 1 ∧ (t.df n).out =
    .slot l (upSlot l ((s.df n).lane l).slot (plainSlot 32 idleWord)) :: (s.df n).out) ∧
  (∀ (n : Fin 64) (l : Fin 4) (m fine : Nat) (s : State), (s.df n).laneRun l → (s.df n).fld (DF.LINK.LANE.ASLEEP l) = 0 → 4096 ≤ ((s.df n).lane l).slot
    → Ends (.markerSlot (.df n) l m fine) s fun t => ((t.df n).lane l).slot = 0 ∧ ((t.df n).lane l).markers = (((s.df n).lane l).markers + 1) % 2 ^ 24
    ∧ (t.df n).now = laterTick (s.df n).now m ∧ (t.df n).out = .marker l (markerSlotLine (markerWord l ((s.df n).fld (DF.LINK.LANE.RUNG l)) ((s.df
    n).lane l).markers)) m fine :: (s.df n).out) ∧
  (∀ (n : Fin 64) (l : Fin 4) (s : State), training ((s.df n).fld (DF.LINK.LANE.STATE l)) → ((s.df n).lane l).slot < 512 → Ends (.uplinkSlotSend (.df n)
    l) s fun t => ((t.df n).lane l).slot = ((s.df n).lane l).slot + 1 ∧ (t.df n).out = .slot l (trainSlot ((s.df n).lane l).slot) :: (s.df n).out) ∧
  (∀ (n : Fin 64) (l : Fin 4) (s : State), (s.df n).fld (DF.LINK.LANE.STATE l) = lTest → (s.df n).fld DF.LINK.TEST.LOOP ≠ 3 → Ends (.uplinkSlotSend (.df
    n) l) s fun t => (t.df n).out = .pattern l (patternBits ((s.df n).fld DF.LINK.TEST.PAT) 2134 ((s.df n).lane l).gen ((s.df n).lane l).invert).1 ::
    (s.df n).out ∧ ((t.df n).lane l).invert = false) ∧
  (∀ (n : Fin 64) (p : Fin 2) (s : State) (e : Nat), ((s.df n).pos p).lowSince = some e → (s.df n).posUp p → 2 ≤ (s.df n).posRung p → (s.df n).fld
    DF.LINK.SLEEP.EN = 1 → ([p.val, p.val + 2].all fun l => !(s.df n).laneRun l || decide (((s.df n).lane l).slot < 4096)) = true → Ends (.laneSleep n
    p) s fun t => (∀ l : Fin 4, l.val % 2 = p.val → (s.df n).laneRun l → (t.df n).fld (DF.LINK.LANE.ASLEEP l) = 1) ∧ (t.df n).now = laterTick (s.df
    n).now (e + (s.df n).fld DF.LINK.SLEEP.HOLD)) ∧
  ∀ (n : Fin 64) (l : Fin 4) (s : State) (e : Nat), ((s.df n).pos (l % 2)).wakeAt = some e → (s.df n).laneRun l → (s.df n).fld (DF.LINK.LANE.ASLEEP l) =
    1 → Ends (.wakeSlotSend n l) s fun t => (t.df n).fld (DF.LINK.LANE.ASLEEP l) = 0 ∧ (t.df n).out.tail = (s.df n).out ∧ (t.df n).out.length = (s.df
    n).out.length + 1

/-- R138, R143, R144, R158, R160, R161, R196: a receiver in RUN takes a block whose CRC holds, whose sequence is new or follows none, remembers its
sequence and hit total and stages it under the next slot number; a block whose CRC fails counts in CRC; a sleep slot and a wake slot set and clear
ASLEEP. Model's choices: log entries 34, 43, 84. -/
def Obligations.UplinkReception : Prop :=
  (∀ (u : DcId) (n : Fin 64) (j : Fin 2) (kk : Nat) (line : List Bool) (tt fine : Nat) (s : State) (ws : List Rec), (s.dc u).rxRun n j → (s.dc u).fld
    (DC.IBR.CFG.EN n) = 1 → (s.dc u).fld (DC.IBR.LANE.ASLEEP n j) = 0 → upWords (2 * unitNum u + j) kk line = some ws → ws.getD 0 0 ≠ idleWord →
    ws.getD 0 0 ≠ sleepWord → ws.getD 0 0 ≠ wakeWord → rb (ws.getD 0 0) 48 16 ≠ 0xA7E5 → blockCrcOk n j ws → ((s.dc u).recv (2 * n + j)).lastSeq =
    none → (FMap.get [] (s.dc u).mire.staged ((s.dc u).mire.next % 8)).length < 64 → Ends (.uplinkBlockReceive u n j kk line tt fine) s fun t =>
    ((t.dc u).recv (2 * n + j)).lastSeq = some (rb (ws.getD 0 0) 32 24) ∧ ((t.dc u).recv (2 * n + j)).lastTotal = rb (ws.getD 31 0) 32 32 ∧ (t.dc
    u).mire.next = (s.dc u).mire.next + 1 ∧ (FMap.get [] (t.dc u).mire.staged ((s.dc u).mire.next % 8)).length = (FMap.get [] (s.dc u).mire.staged
    ((s.dc u).mire.next % 8)).length + 1) ∧
  (∀ (u : DcId) (n : Fin 64) (j : Fin 2) (kk : Nat) (line : List Bool) (tt fine : Nat) (s : State) (ws : List Rec), (s.dc u).rxRun n j → (s.dc u).fld
    (DC.IBR.CFG.EN n) = 1 → (s.dc u).fld (DC.IBR.LANE.ASLEEP n j) = 0 → upWords (2 * unitNum u + j) kk line = some ws → ws.getD 0 0 ≠ idleWord →
    ws.getD 0 0 ≠ sleepWord → ws.getD 0 0 ≠ wakeWord → rb (ws.getD 0 0) 48 16 ≠ 0xA7E5 → blockCrcOk n j ws = false → ((s.dc u).recv (2 * n +
    j)).crcRun < 63 → Ends (.uplinkBlockReceive u n j kk line tt fine) s fun t => (t.dc u).fld (DC.IBR.ERR.CRC n j) = satAdd 16 ((s.dc u).fld
    (DC.IBR.ERR.CRC n j)) 1 ∧ ((t.dc u).recv (2 * n + j)).crcRun = ((s.dc u).recv (2 * n + j)).crcRun + 1 ∧ (t.dc u).mire = (s.dc u).mire) ∧
  (∀ (u : DcId) (n : Fin 64) (j : Fin 2) (s : State), (s.dc u).rxRun n j → Ends (.sleepSlotReceive u n j) s fun t => (t.dc u).fld (DC.IBR.LANE.ASLEEP n
    j) = 1) ∧
  (∀ (u : DcId) (n : Fin 64) (j : Fin 2) (s : State), (s.dc u).rxRun n j → Ends (.wakeSlotReceive u n j) s fun t => (t.dc u).fld (DC.IBR.LANE.ASLEEP n
    j) = 0) ∧
  (∀ (u : DcId) (n : Fin 64) (l : Fin 4) (word : Rec) (tt fine : Nat) (s : State), unitAt (l / 2) = u → (s.dc u).rxRun n (l % 2) → rb word 56 8 = 0x4D →
    fine < 1024 → Ends (.markerReceive u (.up n l) word tt fine) s fun t => ((t.dc u).recv (2 * n + l % 2)).mark = some (1024 * tt + fine, rb word 28
    24) ∧ ((t.dc u).recv (2 * n + l % 2)).missRun = 0 ∧ (t.dc u).now = laterTick (s.dc u).now tt) ∧
  (∀ (u : DcId) (n : Fin 64) (l : Fin 4) (s : State), unitAt (l / 2) = u → (s.dc u).rxRun n (l % 2) → (s.dc u).fld (DC.IBR.LANE.ASLEEP n (l % 2)) = 0 →
    ((s.dc u).recv (2 * n + l % 2)).missRun = 0 → Ends (.markerMiss (.up n l)) s fun t => (t.dc u).fld (DC.IBR.ERR.MARKER_MISS n (l % 2)) = satAdd 8
    ((s.dc u).fld (DC.IBR.ERR.MARKER_MISS n (l % 2))) 1 ∧ (t.dc u).rxRun n (l % 2) ∧ ((t.dc u).recv (2 * n + l % 2)).missRun = 1) ∧
  (∀ (u : DcId) (n : Fin 64) (l : Fin 4) (s : State), unitAt (l / 2) = u → (s.dc u).rxRun n (l % 2) → (s.dc u).fld (DC.IBR.LANE.ASLEEP n (l % 2)) = 0 →
    ((s.dc u).recv (2 * n + l % 2)).missRun = 1 → Ends (.markerMiss (.up n l)) s fun t => (t.dc u).fld (DC.IBR.LANE.STATE n (l % 2)) = lLock ∧ (t.dc
    u).fld (DC.IBR.LANE.RUNG n (l % 2)) = (s.dc u).fld (DC.IBR.LANE.RUNG n (l % 2)) ∧ (t.dc u).fld (DC.IBR.LANE.RETRAINS n (l % 2)) = satAdd 8 ((s.dc
    u).fld (DC.IBR.LANE.RETRAINS n (l % 2))) 1) ∧
  ∀ (n : Fin 64) (dd : Fin 2) (s : State), Ends (.markerMiss (.down n dd)) s fun t => (t.df n).fld (DF.LINK.DN.MARKER_MISS dd) = satAdd 8 ((s.df n).fld
    (DF.LINK.DN.MARKER_MISS dd)) 1

/-- R145, R147, R153, R158, R159, R162, R164: enabling a port in RUN starts its ladder in LOCK at rung 0 and TEST takes it to TEST; a port whose lanes
have been out of RUN too long starts again, and a sleeping downlink wakes in LOCK; lanes of a DF640 named in TEST enter TEST; INJ_ERR marks one bit to
be inverted; a downlink in RUN sends waiting frame words six to a block and else an idle slot. Model's choices: log entries 9, 13, 39, 101, 102, 103.
-/
def Obligations.PortsAndDownlinks : Prop :=
  (∀ (u : DcId) (n : Fin 64) (s : State), (s.dc u).fld (DC.IBR.CFG.EN n) = 0 → (s.dc u).fld (DC.IBR.CFG.TEST n) = 0 → (s.dc u).fld (DC.IBR.CFG.DN_CAP n)
    ≠ 3 → (s.dc u).dnRun n = false → (s.dc u).state = dcRun → Ends (.portEn u n true) s fun t => (t.dc u).fld (DC.IBR.CFG.EN n) = 1 ∧ (t.dc u).fld
    (DC.IBR.STAT.DN_STATE n) = lLock ∧ (t.dc u).fld (DC.IBR.STAT.DN_RUNG n) = 0 ∧ (∀ j < 2, (t.dc u).fld (DC.IBR.LANE.STATE n j) = lLock ∧ (t.dc
    u).fld (DC.IBR.LANE.RUNG n j) = 0) ∧ t.result = (0, 0)) ∧
  (∀ (u : DcId) (n : Fin 64) (s : State), (s.dc u).fld (DC.IBR.CFG.EN n) = 1 → (s.dc u).fld (DC.IBR.CFG.TEST n) = 0 → (s.dc u).fld (DC.IBR.CFG.DN_CAP n)
    ≠ 3 → (s.dc u).state = dcRun → Ends (.portTest u n true) s fun t => (t.dc u).fld (DC.IBR.CFG.TEST n) = 1 ∧ (t.dc u).fld (DC.IBR.STAT.DN_STATE n) =
    lTest ∧ (∀ j < 2, (t.dc u).fld (DC.IBR.LANE.STATE n j) = lTest) ∧ t.result = (0, 0)) ∧
  (∀ (n : Fin 64) (x : Nat) (s : State), x < 16 → (s.df n).fld DF.LINK.TEST.LOOP = 0 → (s.df n).fld DF.LINK.TEST.LANES = 0 → Ends (.laneTest n x) s fun
    t => (t.df n).fld DF.LINK.TEST.LANES = x ∧ (∀ l < 4, x.testBit l → (t.df n).fld (DF.LINK.LANE.STATE l) = lTest) ∧ t.result = (0, 0)) ∧
  (∀ (u : DcId) (n : Fin 64) (s : State), (s.dc u).fld (DC.IBR.STAT.DN_STATE n) = lTest → (s.dc u).fld (DC.IBR.CFG.DN_CAP n) ≠ 3 → Ends (.injErr (.dc u)
    n) s fun t => ((t.dc u).port n).invert ∧ (t.dc u).out = (s.dc u).out ∧ t.result = (0, 0)) ∧
  (∀ (u : DcId) (n : Fin 64) (s : State) (e : Nat), ((s.dc u).port n).outFrom = some e → (s.dc u).fld (DC.IBR.CFG.EN n) = 1 → (s.dc u).fld
    (DC.IBR.CFG.TEST n) = 0 → Ends (.downlinkRestart u n) s fun t => (t.dc u).fld (DC.IBR.STAT.DN_STATE n) = lLock ∧ (t.dc u).fld (DC.IBR.STAT.DN_RUNG
    n) = 0 ∧ (∀ j < 2, (t.dc u).fld (DC.IBR.LANE.STATE n j) = lLock ∧ (t.dc u).fld (DC.IBR.LANE.RUNG n j) = 0) ∧ ((t.dc u).port n).outFrom = none) ∧
  (∀ (u : DcId) (n : Fin 64) (s : State), ((s.dc u).port n).asleep → (s.dc u).fld (DC.IBR.CFG.EN n) = 1 → Ends (.downlinkWake u n) s fun t => (t.dc
    u).fld (DC.IBR.STAT.DN_STATE n) = lLock ∧ (t.dc u).fld (DC.IBR.STAT.DN_RUNG n) = (s.dc u).fld (DC.IBR.STAT.DN_RUNG n) ∧ ((t.dc u).port n).asleep =
    false ∧ ∀ j < 2, (t.dc u).fld (DC.IBR.LANE.STATE n j) = lLock ∧ (t.dc u).fld (DC.IBR.LANE.RUNG n j) = (s.dc u).fld (DC.IBR.LANE.RUNG n j)) ∧
  (∀ (u : DcId) (n : Fin 64) (s : State), (s.dc u).dnRun n → ((s.dc u).port n).slot < downSlots ((s.dc u).fld (DC.IBR.STAT.DN_RUNG n)) → ((s.dc u).port
    n).tx = [] → (s.dc u).judges n = false → Ends (.downlinkBlockSend u n) s fun t => ((t.dc u).port n).slot = ((s.dc u).port n).slot + 1 ∧ (t.dc
    u).out = .down n (repeatBits (downRepeat ((s.dc u).fld (DC.IBR.STAT.DN_RUNG n))) (downCoded ((s.dc u).port n).slot (plainSlot 8 idleWord))) ::
    (s.dc u).out) ∧
  (∀ (u : DcId) (n : Fin 64) (s : State), (s.dc u).dnRun n → ((s.dc u).port n).slot < downSlots ((s.dc u).fld (DC.IBR.STAT.DN_RUNG n)) → ((s.dc u).port
    n).tx ≠ [] → Ends (.downlinkBlockSend u n) s fun t => ((t.dc u).port n).slot = ((s.dc u).port n).slot + 1 ∧ ((t.dc u).port n).tx = ((s.dc u).port
    n).tx.drop 6 ∧ ((t.dc u).port n).seq = (((s.dc u).port n).seq + 1) % 2 ^ 24 ∧ (t.dc u).out = .down n (repeatBits (downRepeat ((s.dc u).fld
    (DC.IBR.STAT.DN_RUNG n))) (downCoded ((s.dc u).port n).slot (makeDownBlock n ((s.dc u).port n).seq (((s.dc u).port n).tx.take 6)))) :: (s.dc
    u).out) ∧
  ∀ (u : DcId) (s : State), (s.dc u).state = dcClusterUp → (s.dc u).bt.goTo = some dcRun → (s.dc u).bt.softAt = none → (s.dc u).tim.epoch = none → (s.dc
    u).active → (s.dc u).paired = false → Ends (.dcFrameBoundary u) s fun t => (t.dc u).state = dcRun ∧ (t.dc u).fld DC.BOOT.STATE.PREV = dcClusterUp
    ∧ (t.dc u).bt.boundary = (s.dc u).nextBoundary ∧ (t.dc u).now = laterTick (s.dc u).now ((s.dc u).nextBoundary * frameTicks)

/-- R147, R148, R159, R169, R171, R176: a receiver in RUN takes a block whose CRC holds for its index and whose sequence follows none, and counts one
it has had; a frame marker is stamped and clears the counts of misses and CRC failures; when the source downlink is lost and the other is in RUN the
clock source moves there; a pattern checker without a seed takes the received bits as its seed. Model's choices: log entries 31, 34. -/
def Obligations.DownlinkReception : Prop :=
  (∀ (n : Fin 64) (dd : Fin 2) (kk : Nat) (line : List Bool) (s : State) (ws : List Rec), (s.df n).downRun dd → downWords ((s.df n).fld (DF.LINK.DN.RUNG
    dd)) kk line = some ws → ws.getD 0 0 ≠ idleWord → rb (ws.getD 0 0) 48 16 ≠ 0xA7E5 → (s.df n).fld DF.ID.INDEX.SET = 1 → downCrcOk ((s.df n).fld
    DF.ID.INDEX.N) ws → ((s.df n).down dd).lastSeq = none → ((s.df n).down dd).rx = [] → rb (ws.getD 0 0) 24 8 = 0 → (s.df n).cmd.held = [] → (s.df
    n).cmd.waiting = none → Ends (.downlinkBlockReceive n dd kk line) s fun t => ((t.df n).down dd).lastSeq = some (rb (ws.getD 0 0) 32 24) ∧ (t.df
    n).fld (DF.LINK.DN.CRC_ERR dd) = (s.df n).fld (DF.LINK.DN.CRC_ERR dd)) ∧
  (∀ (n : Fin 64) (dd : Fin 2) (kk : Nat) (line : List Bool) (s : State) (ws : List Rec), (s.df n).downRun dd → downWords ((s.df n).fld (DF.LINK.DN.RUNG
    dd)) kk line = some ws → ws.getD 0 0 ≠ idleWord → rb (ws.getD 0 0) 48 16 ≠ 0xA7E5 → (s.df n).fld DF.ID.INDEX.SET = 1 → downCrcOk ((s.df n).fld
    DF.ID.INDEX.N) ws → ((s.df n).down dd).lastSeq = some (rb (ws.getD 0 0) 32 24) → Ends (.downlinkBlockReceive n dd kk line) s fun t => (t.df n).fld
    (DF.LINK.DN.SEQ_GAP dd) = satAdd 8 ((s.df n).fld (DF.LINK.DN.SEQ_GAP dd)) 1 ∧ (t.df n).down dd = (s.df n).down dd) ∧
  (∀ (n : Fin 64) (dd : Fin 2) (word : Rec) (m fine : Nat) (s : State), (s.df n).downRun dd → Ends (.frameMarkerReceive n dd word m fine) s fun t =>
    FMap.get none (t.df n).tim.probes dd = some (1024 * m + fine, rb word 16 48) ∧ ((t.df n).down dd).missRun = 0 ∧ ((t.df n).down dd).crcRun = 0 ∧
    ((s.df n).source = dd → (s.df n).tim.labelled = false → (t.df n).tim.labelled ∧ (t.df n).now = unsigned 64 (((rb word 16 48 * frameTicks : Nat) :
    Int) + s16 ((s.df n).inForce (DF.TIME.ADJ.COARSE dd))))) ∧
  (∀ (n : Fin 64) (s : State), (s.df n).source = 0 → (s.df n).downRun 1 → Ends (.clockSourceSwitch n) s fun t => (t.df n).source = 1 ∧ (t.df n).fld
    DF.TIME.STATUS.SWITCHED = 1 ∧ (t.df n).fld (DF.LINK.DN.SOURCE 1) = 1 ∧ (t.df n).fld (DF.LINK.DN.SOURCE 0) = 0 ∧ (t.df n).fld (DF.LINK.DN.LOCKED 1)
    = 1 ∧ (t.df n).fld (DF.LINK.DN.LOCKED 0) = 0 ∧ (t.df n).fld (DF.LINK.DN.STATE 0) = lLock) ∧
  (∀ (n m_ : Fin 64) (jj : Fin 2) (word : Rec) (s : State), (s.df n).fld DF.LINK.TEST.LANES ≠ 0 → ((s.df n).down jj).check.seed = none → Ends
    (.patternWordCheck (.df n) m_ jj word) s fun t => ((t.df n).down jj).check.seed ≠ none ∧ ((t.df n).down jj).check.good = 0 ∧ ((t.df n).fld
    DF.LINK.TEST.SYNC).testBit jj = false ∧ (t.df n).fld (DF.LINK.PRBS_ERR.COUNT jj) = (s.df n).fld (DF.LINK.PRBS_ERR.COUNT jj)) ∧
  ∀ (u : DcId) (n : Fin 64) (jj : Fin 2) (word : Rec) (s : State), (s.dc u).fld (DC.IBR.LANE.STATE n jj) = lTest → ((s.dc u).recv (2 * n +
    jj)).check.seed = none → Ends (.patternWordCheck (.dc u) n jj word) s fun t => ((t.dc u).recv (2 * n + jj)).check.seed ≠ none ∧ ((t.dc u).fld
    (DC.IBR.STAT.SYNC n)).testBit jj = false

/-- R166, R180, R187, R188, R244: a GO in HOSTWAIT with a frame not before the next boundary keeps the frame for that boundary, an earlier one is
BAD_PARAM and another state LOCKED; an edge of PPS_IN is stamped and counted; PPS_OUT in MODE 2 rises at the next multiple of 320,000,000 ticks for
WIDTH + 1 ms; an enabled edge of TRIG_IN raises an EXT trigger; a read of TXQ_HEAD takes the oldest stamp. Model's choice: log entry 7. -/
def Obligations.EdgesAndEpochSet : Prop :=
  (∀ (u : DcId) (s : State), (s.dc u).state = dcHostwait → (s.dc u).frame + 1 ≤ (s.dc u).fld DC.TIME.SET_LO.FRAME + 2 ^ 32 * (s.dc u).fld
    DC.TIME.SET_HI.FRAME → Ends (.epochSetGo u) s fun t => (t.dc u).tim.epoch = some ((s.dc u).fld DC.TIME.SET_LO.FRAME + 2 ^ 32 * (s.dc u).fld
    DC.TIME.SET_HI.FRAME) ∧ t.result = (0, 0)) ∧
  (∀ (u : DcId) (s : State), (s.dc u).state = dcHostwait → (s.dc u).fld DC.TIME.SET_LO.FRAME + 2 ^ 32 * (s.dc u).fld DC.TIME.SET_HI.FRAME < (s.dc
    u).frame + 1 → Ends (.epochSetGo u) s fun t => (t.dc u).tim = (s.dc u).tim ∧ (t.dc u).now = (s.dc u).now ∧ t.result = (3, 0)) ∧
  (∀ (u : DcId) (s : State), (s.dc u).state ≠ dcHostwait → Ends (.epochSetGo u) s fun t => (t.dc u).tim = (s.dc u).tim ∧ (t.dc u).now = (s.dc u).now ∧
    t.result = (6, 0)) ∧
  (∀ (u : DcId) (tt fine : Nat) (s : State), tt < 2 ^ 54 → fine < 1024 → Ends (.ppsInEdge u tt fine) s fun t => (t.dc u).fld DC.TIME.PPS_IN_LO.TICK = tt
    % 2 ^ 32 ∧ (t.dc u).fld DC.TIME.PPS_IN_HI.TICK = tt / 2 ^ 32 ∧ (t.dc u).fld DC.TIME.PPS_IN_FINE.FINE = fine ∧ (t.dc u).fld
    DC.TIME.PPS_IN_CNT.COUNT = satAdd DC.TIME.PPS_IN_CNT.COUNT.width ((s.dc u).fld DC.TIME.PPS_IN_CNT.COUNT) 1 ∧ (t.dc u).tim = (s.dc u).tim ∧ (t.dc
    u).now = laterTick (s.dc u).now tt) ∧
  (∀ (u : DcId) (s : State), (s.dc u).fld DC.TIME.PPS_CTRL.MODE = 2 → Ends (.ppsOutEdge u) s fun t => (t.dc u).out = .pps true (1024 * nextMul ticksSec
    (s.dc u).now) :: (s.dc u).out ∧ (t.dc u).tim.ppsEnd = some (nextMul ticksSec (s.dc u).now + ((s.dc u).fld DC.TIME.PPS_CTRL.WIDTH + 1) * ticksMs) ∧
    (t.dc u).now = laterTick (s.dc u).now (nextMul ticksSec (s.dc u).now)) ∧
  (∀ (u : DcId) (s : State) (e : Nat), (s.dc u).tim.ppsEnd = some e → Ends (.ppsOutEnd u) s fun t => (t.dc u).out = .pps false (1024 * e) :: (s.dc
    u).out ∧ (t.dc u).tim.ppsEnd = none ∧ (t.dc u).now = laterTick (s.dc u).now e) ∧
  (∀ (u : DcId) (pin : Fin 4) (rising : Bool) (tt fine : Nat) (s : State), ((s.dc u).fld DC.TRG.EXT.EN).testBit pin → rising ≠ ((s.dc u).fld
    DC.TRG.EXT.FALL).testBit pin → (s.dc u).sourceOn srcExt → (s.dc u).fld DC.TRG.CTRL.ISSUE = 0 → Ends (.trigInEdge u pin rising tt fine) s fun t =>
    (t.dc u).trg.undecided = (s.dc u).trg.undecided ++ [{ slice := tt / sliceTicks, source := srcExt, tTick := tt, tFine := fine, detail := pin }] ∧
    (t.dc u).trg.next = (s.dc u).trg.next ∧ (t.dc u).now = laterTick (s.dc u).now tt) ∧
  (∀ (u : DcId) (pin : Fin 4) (rising : Bool) (tt fine : Nat) (s : State), ((s.dc u).fld DC.TRG.EXT.EN).testBit pin → rising ≠ ((s.dc u).fld
    DC.TRG.EXT.FALL).testBit pin → (s.dc u).sourceOn srcExt → (s.dc u).fld DC.TRG.CTRL.ISSUE = 1 → (s.dc u).trg.tombs.length < 16384 → Ends
    (.trigInEdge u pin rising tt fine) s fun t => (t.dc u).trg.next = ((s.dc u).trg.next + 1) % 2 ^ 48 ∧ (t.dc u).trg.undecided = (s.dc
    u).trg.undecided ∧ (t.dc u).now = laterTick (s.dc u).now tt) ∧
  ∀ (u : DcId) (req tag port f : Nat) (rest : List (Nat × Nat × Nat)) (s : State), (s.dc u).tim.txq = (tag, port, f) :: rest → req < 9 → tag < 65536 →
    port < 2 → f < 2 ^ 64 → Ends (.txqHead u req) s fun t => (t.dc u).tim.txq = rest ∧ t.result = (0, BitVec.ofNat 32 (tag + 65536 * port + 131072)) ∧
    (t.dc u).fld DC.TIME.TXQ_LO.TICK = f / 1024 % 2 ^ 32 ∧ (t.dc u).fld DC.TIME.TXQ_HI.TICK = f / 1024 / 2 ^ 32 ∧ (t.dc u).fld DC.TIME.TXQ_FINE.FINE =
    f % 1024

/-- R177 to R180, R182, R185, R316: of an accepted master a two-step Sync waits for its Follow_Up, the first Sync with a path delay plans segment 0
for the next frame boundary, an Announce makes the first master heard the chosen one; a delay request is sent and its stamp queued; the peer response
gives the path delay; losing the master sends the servo from TRACK to HOLDOVER with no master; a port comes up or goes down. Model's choices: log
entries 40, 106, 107, 108, 109. -/
def Obligations.NetworkTime : Prop :=
  (∀ (u : DcId) (port : Fin 2) (msg : PtpMsg) (i : Nat) (s : State), (s.dc u).receivePoison = none → (s.dc u).active → FMap.get 0 (s.dc u).abs.level (2
    * port + 1) < (s.dc u).fld (DC.ABS.RL_B.BURST port) → (s.dc u).ptpHears port msg → (s.dc u).masterEntry msg = some i → syncLow ≤ msg.logInterval →
    msg.logInterval ≤ syncHigh → msg.twoStep → Ends (.ptpSyncReceive u port msg) s fun t => FMap.get none (t.dc u).tim.twoStep port = some ⟨port, i,
    msg.sequence, msg.stamp - (s.dc u).fld (DC.PTP.RX_LAT.FINE port), msg.correction⟩ ∧ ((t.dc u).master i).last = laterTick (s.dc u).now (msg.stamp /
    1024) ∧ (t.dc u).servo = (s.dc u).servo) ∧
  (∀ (u : DcId) (port : Fin 2) (msg : PtpMsg) (i : Nat) (pd : Int) (s : State), (s.dc u).receivePoison = none → (s.dc u).active → FMap.get 0 (s.dc
    u).abs.level (2 * port + 1) < (s.dc u).fld (DC.ABS.RL_B.BURST port) → (s.dc u).ptpHears port msg → (s.dc u).masterEntry msg = some i → syncLow ≤
    msg.logInterval → msg.logInterval ≤ syncHigh → msg.twoStep = false → (s.dc u).fld DC.TIME.STATUS.MASTER = i → (s.dc u).pathDelay port = some pd →
    (s.dc u).servo = svUnsync → (s.dc u).tim.openSeg = none → Ends (.ptpSyncReceive u port msg) s fun t => (t.dc u).tim.openSeg.map (·.d0) = some
    (nextMul frameTicks (laterTick (s.dc u).now (msg.stamp / 1024))) ∧ (t.dc u).tim.openSeg.map (·.cause) = some 0 ∧ (t.dc u).tim.openSeg.map
    (·.master) = some i ∧ (t.dc u).tim.prev = some (0, msg.stamp - (s.dc u).fld (DC.PTP.RX_LAT.FINE port)) ∧ (t.dc u).servo = svUnsync) ∧
  (∀ (u : DcId) (port : Fin 2) (msg : PtpMsg) (i : Nat) (x : TwoStep) (s : State), (s.dc u).receivePoison = none → FMap.get 0 (s.dc u).abs.level (2 *
    port + 1) < (s.dc u).fld (DC.ABS.RL_B.BURST port) → (s.dc u).ptpHears port msg → (s.dc u).masterEntry msg = some i → anyLow ≤ msg.logInterval →
    msg.logInterval ≤ anyHigh → (s.dc u).fld DC.TIME.STATUS.MASTER = i → FMap.get none (s.dc u).tim.twoStep port = some x → x.entry = i → x.sequence =
    msg.sequence → Ends (.ptpFollowUpReceive u port msg) s fun t => FMap.get none (t.dc u).tim.twoStep port = none ∧ FMap.get none (t.dc u).tim.sync
    port = some (msg.origin + x.correction + msg.correction, x.stamp)) ∧
  (∀ (u : DcId) (port : Fin 2) (msg : PtpMsg) (ds : Dataset) (i : Nat) (s : State), (s.dc u).receivePoison = none → (s.dc u).active → FMap.get 0 (s.dc
    u).abs.level (2 * port + 1) < (s.dc u).fld (DC.ABS.RL_B.BURST port) → (s.dc u).ptpHears port msg → (s.dc u).masterEntry msg = some i → announceLow
    ≤ msg.logInterval → msg.logInterval ≤ announceHigh → i < 16 → (s.dc u).fld DC.TIME.STATUS.MASTER = 0x1F → (∀ j ∈ List.range 16, ((s.dc u).master
    j).ds = none) → Ends (.ptpAnnounceReceive u port msg ds) s fun t => ((t.dc u).master i).ds = some ds ∧ ((t.dc u).master i).logAnnounce =
    msg.logInterval ∧ (t.dc u).fld DC.TIME.STATUS.MASTER = i ∧ (t.dc u).servo = (s.dc u).servo) ∧
  (∀ (u : DcId) (port : Fin 2) (tag tt fine : Nat) (s : State), (s.dc u).transmitPoison = none → (s.dc u).active → ((s.dc u).fld DC.PTP.CFG.EN).testBit
    port → (s.dc u).tim.txq.length < 64 → Ends (.delayReqSend u port tag tt fine) s fun t => (t.dc u).out = .ptp port tag (((s.dc u).fld
    DC.PTP.CFG.P2P).testBit port) ((s.dc u).ptpDest port (((s.dc u).fld DC.PTP.CFG.P2P).testBit port)) :: (s.dc u).out ∧ (t.dc u).tim.txq = (s.dc
    u).tim.txq ++ [(tag % 65536, port.val, 1024 * tt + fine + (s.dc u).fld (DC.PTP.TX_LAT.FINE port))]) ∧
  (∀ (u : DcId) (port : Fin 2) (tag tt fine : Nat) (s : State), (s.dc u).transmitPoison = none → (s.dc u).active → ((s.dc u).fld DC.PTP.CFG.EN).testBit
    port → 64 ≤ (s.dc u).tim.txq.length → Ends (.delayReqSend u port tag tt fine) s fun t => (t.dc u).tim.txq = (s.dc u).tim.txq ∧ (t.dc u).tim.reqs =
    (s.dc u).tim.reqs ∧ (t.dc u).fld DC.TIME.STATUS.TXQ_FULL = 1 ∧ (t.dc u).fld DC.TIME.TXQ_OVF.COUNT = satAdd DC.TIME.TXQ_OVF.COUNT.width ((s.dc
    u).fld DC.TIME.TXQ_OVF.COUNT) 1) ∧
  (∀ (u : DcId) (port : Fin 2) (msg : PtpMsg) (tag x : Nat) (s : State), (s.dc u).receivePoison = none → FMap.get 0 (s.dc u).abs.level (2 * port + 1) <
    (s.dc u).fld (DC.ABS.RL_B.BURST port) → (s.dc u).ptpHears port msg → ((s.dc u).fld DC.PTP.CFG.P2P).testBit port → msg.twoStep = false → (s.dc
    u).tim.reqs = [(port.val, tag % 65536, x)] → (msg.clockId, msg.portNumber) = Config.linkPeer port → Ends (.ptpDelayResponse u port msg tag .peer)
    s fun t => (t.dc u).pathDelay port = some (nearestQ ((((msg.stamp - (s.dc u).fld (DC.PTP.RX_LAT.FINE port) : Nat) : Int) - x) * 3125 -
    msg.correction) 2) ∧ (t.dc u).tim.reqs = []) ∧
  (∀ (u : DcId) (i : Nat) (s : State), (s.dc u).fld DC.TIME.STATUS.MASTER = i → i ≠ 0x1F → (s.dc u).servo = svTrack → (s.dc u).abs.notices.length < 64 →
    Ends (.masterLoss u) s fun t => (t.dc u).servo = svHoldover ∧ (t.dc u).fld DC.TIME.STATUS.MASTER = 0x1F ∧ (t.dc u).fld DC.TIME.STATUS.HOLDOVER = 1
    ∧ (t.dc u).fld DC.TIME.STATUS.DISCONT = 0 ∧ (t.dc u).tim.held = (s.dc u).lastRate ∧ ((t.dc u).master i).ds = none ∧ (t.dc u).fld
    DC.ABS.NOTICE_SEQ.SEQ = ((s.dc u).fld DC.ABS.NOTICE_SEQ.SEQ + 1) % 2 ^ 32) ∧
  ∀ (u : DcId) (port : Fin 2) (up : Bool) (s : State), Ends (.ethernetPortLinkChange u port up) s fun t => (t.dc u).abs.up.testBit port = up ∧ (t.dc
    u).abs.up.testBit (1 - port.val) = (s.dc u).abs.up.testBit (1 - port.val)

/-- R172, R173: the offset of an ECHO is half of the down time minus the up time minus the asymmetry, rounded, and RTT shows the last round trip. A
DF640 in ALIGN is sent the set that the mean of 256 ECHOs gives; after it one confirming ECHO within 2 fine releases it with ARM, and another begins
the alignment again; in RUN a mean above 32 fine is not applied and sets ALIGN_DRIFT. (What the firmware reads of an ECHO reply is the reading of log
entry 42.) Model's choice: log entry 42. -/
def Obligations.Alignment : Prop :=
  (∀ (alpha : Int) (e : EchoSample), echoTheta alpha e = nearestQ (((e.lrx - e.depart) - (e.arrive - e.ltx)) - alpha) 2 ∧ echoRtt e = (e.lrx - e.depart)
    + (e.arrive - e.ltx)) ∧
  (∀ (u : DcId) (n : Fin 64) (e : EchoReply) (x : EchoSample) (s : State), (s.dc u).active → (s.dc u).paired = false → (s.dc u).echoSample n (s.dc
    u).homing e = some x → (s.df n).state = dfRun → (s.dc u).fld DC.TIME.ALIGN_PERIOD.FRAMES ≠ 0 → ((s.dc u).alignSt n).count = 255 → 32 < ((((s.dc
    u).alignSt n).add fun _ => (echoTheta (s32 ((s.dc u).fld (DC.TIME.ASYM.FINE n))) x)).mean (s.dc u).homing).natAbs → Ends (.alignment u n e []) s
    fun t => (t.dc u).fld DC.TIME.STATUS.ALIGN_DRIFT = 1 ∧ (t.dc u).abs.fwd = (s.dc u).abs.fwd ∧ (t.dc u).fld (DC.TIME.RTT.FINE n) = unsigned 32
    (echoRtt x) ∧ (t.df n) = (s.df n)) ∧
  (∀ (u : DcId) (n : Fin 64) (e : EchoReply) (x : EchoSample) (s : State), (s.dc u).active → (s.dc u).paired = false → (s.dc u).echoSample n (s.dc
    u).homing e = some x → (s.df n).state = dfRun → (s.dc u).fld DC.TIME.ALIGN_PERIOD.FRAMES ≠ 0 → ((s.dc u).alignSt n).count = 255 → ((((s.dc
    u).alignSt n).add fun _ => (echoTheta (s32 ((s.dc u).fld (DC.TIME.ASYM.FINE n))) x)).mean (s.dc u).homing).natAbs ≤ 32 → ((((s.dc u).alignSt
    n).add fun _ => (echoTheta (s32 ((s.dc u).fld (DC.TIME.ASYM.FINE n))) x)).mean (s.dc u).homing) ≠ 0 → Ends (.alignment u n e []) s fun t => (t.dc
    u).fld DC.TIME.STATUS.ALIGN_DRIFT = (s.dc u).fld DC.TIME.STATUS.ALIGN_DRIFT ∧ (t.dc u).abs.fwd = ((s.dc u).coreWrite n (DF.TIME.ADJ.addr (s.dc
    u).homing) (adjWord ((s.df n).adjustment - ((((s.dc u).alignSt n).add fun _ => (echoTheta (s32 ((s.dc u).fld (DC.TIME.ASYM.FINE n))) x)).mean
    (s.dc u).homing)))).abs.fwd ∧ (t.dc u).fld (DC.TIME.RTT.FINE n) = unsigned 32 (echoRtt x)) ∧
  (∀ (u : DcId) (n : Fin 64) (e : EchoReply) (x : EchoSample) (s : State), (s.dc u).active → (s.dc u).paired = false → (s.dc u).echoSample n (s.dc
    u).homing e = some x → (s.df n).state = dfAlign → ((s.dc u).alignSt n).written = false → ((s.dc u).alignSt n).count < 255 → Ends (.alignment u n e
    []) s fun t => ((t.dc u).alignSt n).count = ((s.dc u).alignSt n).count + 1 ∧ ((t.dc u).alignSt n).written = false ∧ (t.dc u).abs.fwd = (s.dc
    u).abs.fwd ∧ (t.dc u).fld (DC.TIME.RTT.FINE n) = unsigned 32 (echoRtt x)) ∧
  (∀ (u : DcId) (n : Fin 64) (e : EchoReply) (x : EchoSample) (s : State), (s.dc u).active → (s.dc u).paired = false → (s.dc u).echoSample n (s.dc
    u).homing e = some x → (s.df n).state = dfAlign → ((s.dc u).alignSt n).written = false → ((s.dc u).alignSt n).count = 255 → Ends (.alignment u n e
    []) s fun t => ((t.dc u).alignSt n).written ∧ (t.dc u).abs.fwd = ((s.dc u).coreWrite n (DF.TIME.ADJ.addr (s.dc u).homing) (adjWord ((s.df
    n).adjustment - ((((s.dc u).alignSt n).add fun _ => (echoTheta (s32 ((s.dc u).fld (DC.TIME.ASYM.FINE n))) x)).mean (s.dc u).homing)))).abs.fwd ∧
    (t.dc u).fld (DC.TIME.RTT.FINE n) = unsigned 32 (echoRtt x) ∧ (t.df n) = (s.df n)) ∧
  (∀ (u : DcId) (n : Fin 64) (e : EchoReply) (x : EchoSample) (s : State), (s.dc u).active → (s.dc u).paired = false → (s.dc u).echoSample n (s.dc
    u).homing e = some x → (s.df n).state = dfAlign → ((s.dc u).alignSt n).written → (echoTheta (s32 ((s.dc u).fld (DC.TIME.ASYM.FINE n))) x).natAbs ≤
    2 → Ends (.alignment u n e []) s fun t => (t.dc u).abs.fwd = ((s.dc u).queueFrame n 0x09 15 [] none).abs.fwd ∧ (t.dc u).fld (DC.TIME.RTT.FINE n) =
    unsigned 32 (echoRtt x)) ∧
  ∀ f : Int, signed 16 ((adjWord f).toNat % 65536) = (f / 1024 + 32768) % 65536 - 32768 ∧ (adjWord f).toNat / 65536 = (f % 1024).toNat

/-- R196, R197, R201, R203, R206, R207: the oldest staged block of a channel is written whole at the next ring position of its channel, under its slot
number; the index record of the frame due is written at tick 1,024 of the next frame; a refresh that waits for the next other window adds to the debt
the cycles it takes in ingress windows; a device above 85 degrees is remembered and HOTREF is the OR of all channels. Model's choices: log entries 43,
116. -/
def Obligations.MireSlots : Prop :=
  (∀ (u : DcId) (c : Fin 8) (k : Nat) (x : Slot) (rest : List (Nat × Slot)) (s : State), FMap.get [] (s.dc u).mire.staged c = (k, x) :: rest → (s.dc
    u).mire.retired = [] → FMap.get 0 (s.dc u).mire.lent c = 0 → Ends (.mireSlotWrite u c) s fun t => FMap.get [] (t.dc u).mire.staged c = rest ∧
    FMap.get none (t.dc u).mire.slots k = some x ∧ FMap.get 0 (t.dc u).mire.debt c = FMap.get 0 (s.dc u).mire.debt c ∧ (t.dc u).mire.next = (s.dc
    u).mire.next ∧ FMap.get 0 (t.dc u).mire.ring (8 * (if ringPositions (s.dc u).cap ≤ FMap.get 0 (s.dc u).mire.pos c then 0 else FMap.get 0 (s.dc
    u).mire.pos c) + c) = k + 1) ∧
  (∀ (u : DcId) (s : State), Ends (.frameIndexWrite u) s fun t => FMap.get none (t.dc u).mire.index ((s.dc u).mire.nextIndex % 2 ^ 20) = some
    { FMap.get {} (s.dc u).mire.fill (s.dc u).mire.nextIndex with frame := (s.dc u).mire.nextIndex } ∧ (t.dc u).mire.nextIndex = (s.dc
    u).mire.nextIndex + 1 ∧ (t.dc u).now = laterTick (s.dc u).now (((s.dc u).mire.nextIndex + 1) * frameTicks + 1024) ∧ (t.dc u).mire.slots = (s.dc
    u).mire.slots) ∧
  (∀ (u : DcId) (c : Fin 8) (due : Nat) (s : State), Ends (.dramRefresh u c due) s fun t => FMap.get 0 (t.dc u).mire.debt c = (((s.dc u).until
    due).debtOf c (2 * laterTick (laterTick (s.dc u).now due) ((nextOther ((s.dc u).until due).cycle) / 2)) + (263 - (otherCycles ((nextOther ((s.dc
    u).until due).cycle) + 263) - otherCycles (nextOther ((s.dc u).until due).cycle)))) ∧ (t.dc u).now = laterTick (laterTick (s.dc u).now due)
    ((nextOther ((s.dc u).until due).cycle) / 2) ∧ (t.dc u).fld (DC.MIRE.STAGE.DEBT_PEAK c) = max ((s.dc u).fld (DC.MIRE.STAGE.DEBT_PEAK c)) (min 511
    (((s.dc u).until due).debtOf c (2 * laterTick (laterTick (s.dc u).now due) ((nextOther ((s.dc u).until due).cycle) / 2)) + (263 - (otherCycles
    ((nextOther ((s.dc u).until due).cycle) + 263) - otherCycles (nextOther ((s.dc u).until due).cycle))))) ∧ (t.dc u).mire.slots = (s.dc
    u).mire.slots) ∧
  (∀ (u : DcId) (c : Fin 8) (s : State), Ends (.dramTemperatureReport u c true) s fun t => (t.dc u).fld DC.MIRE.GEOM.HOTREF = 1 ∧ c.val ∈ (t.dc
    u).mire.hot) ∧
  ∀ (u : DcId) (c : Fin 8) (s : State), (s.dc u).mire.hot = [c.val] → Ends (.dramTemperatureReport u c false) s fun t => (t.dc u).fld
    DC.MIRE.GEOM.HOTREF = 0 ∧ (t.dc u).mire.hot = []

/-- R215 to R217: RDL of a free line locks it and returns what it holds; of a line another sequence holds it waits; of a ring, index or staging line
it is refused with LOCKED and counted. WR writes a locked line and keeps the lock; WRU writes it and ends the sequence; UNL ends it without writing. A
lease that runs out or a fault releases the sequence, and every line written with WR takes the TORN mark and counts. Model's choice: log entry 79. -/
def Obligations.LockedSequences : Prop :=
  (∀ (u : DcId) (r : Fin 10) (target line : Nat) (s : State), sluiceReaches r target → (s.dc u).lineExists target line → (s.dc u).slu.wait = [] → (s.dc
    u).seqOf r = none → (s.dc u).unlockable target line = false → (s.dc u).lockedBy target line = none → (s.dc u).mem.dram = [] → (s.dc u).mem.sram =
    [] → Ends (.rdl u r target line) s fun t => (t.dc u).seqOf r = some { lines := [(target, line, false)], since := (s.dc u).now, rdls := 1 } ∧ (∀ i
    < 8, (FMap.get [] (t.dc u).slu.read r).getD i 0 = ((s.dc u).lineData target line).getD i 0) ∧ FMap.get 0 (t.dc u).slu.readPoison r = 0 ∧ (t.dc
    u).lineData target line = (s.dc u).lineData target line ∧ (t.dc u).slu.wait = [] ∧ t.result = (0, 0)) ∧
  (∀ (u : DcId) (r : Fin 10) (target line : Nat) (s : State), sluiceReaches r target → (s.dc u).lineExists target line → (s.dc u).slu.wait = [] → (s.dc
    u).seqOf r = none → (s.dc u).unlockable target line → Ends (.rdl u r target line) s fun t => (t.dc u).fld DC.SLU.LOCK_REFUSED.COUNT = satAdd
    DC.SLU.LOCK_REFUSED.COUNT.width ((s.dc u).fld DC.SLU.LOCK_REFUSED.COUNT) 1 ∧ (t.dc u).seqOf r = none ∧ t.result = (6, 0)) ∧
  (∀ (u : DcId) (r : Fin 10) (target line o : Nat) (s : State), sluiceReaches r target → (s.dc u).lineExists target line → (s.dc u).slu.wait = [] →
    (s.dc u).seqOf r = none → (s.dc u).unlockable target line = false → (s.dc u).lockedBy target line = some o → o ≠ r → Ends (.rdl u r target line) s
    fun t => (t.dc u).slu.wait = [{ r := r, target := target, line := line, since := (s.dc u).now }] ∧ (t.dc u).slu.seqs = (s.dc u).slu.seqs ∧
    t.result = (0, 0)) ∧
  (∀ (u : DcId) (r : Fin 10) (target line : Nat) (data : List Rec) (b : Bool) (since rd : Nat) (s : State), (s.dc u).seqOf r = some
    { lines := [(target, line, b)], since := since, rdls := rd } → data.length = 8 → Ends (.wr u r target line ⟨data, []⟩) s fun t => (t.dc
    u).lineData target line = data ∧ (t.dc u).seqOf r = some { lines := [(target, line, true)], since := since, rdls := rd }) ∧
  (∀ (u : DcId) (r : Fin 10) (target line : Nat) (data : List Rec) (b : Bool) (since rd : Nat) (s : State), (s.dc u).seqOf r = some
    { lines := [(target, line, b)], since := since, rdls := rd } → data.length = 8 → (s.dc u).slu.wait = [] → Ends (.wru u r target line ⟨data, []⟩) s
    fun t => (t.dc u).lineData target line = data ∧ (t.dc u).seqOf r = none) ∧
  (∀ (u : DcId) (r : Fin 10) (s : State), ((s.dc u).seqOf r).isSome → (s.dc u).slu.wait = [] → Ends (.unl u r) s fun t => (t.dc u).seqOf r = none ∧
    (t.dc u).slu.data = (s.dc u).slu.data ∧ (t.dc u).mem = (s.dc u).mem) ∧
  (∀ (u : DcId) (r : Fin 10) (q : SluSeq) (s : State), (s.dc u).seqOf r = some q → q.lines.any (·.2.2) = false → (s.dc u).slu.wait = [] → Ends
    (.sequenceLeaseExpiry u r) s fun t => (t.dc u).seqOf r = none ∧ (t.dc u).fld DC.SLU.LEASE.COUNT = satAdd DC.SLU.LEASE.COUNT.width ((s.dc u).fld
    DC.SLU.LEASE.COUNT) 1 ∧ (t.dc u).mem = (s.dc u).mem ∧ (t.dc u).now = laterTick (s.dc u).now (q.since + (s.dc u).fld DC.SLU.CTRL.LOCK_MAX / 2 + 1)) ∧
  ∀ (u : DcId) (r : Fin 10) (line since rd : Nat) (s : State), (s.dc u).seqOf r = some { lines := [(8, line, true)], since := since, rdls := rd } →
    (s.dc u).slu.wait = [] → Ends (.tornRelease u r) s fun t => (t.dc u).seqOf r = none ∧ (∀ w < 8, (t.dc u).sramMark arrContext (8 * line + w) = 2) ∧
    (t.dc u).fld DC.SLU.TORN.COUNT = satAdd DC.SLU.TORN.COUNT.width ((s.dc u).fld DC.SLU.TORN.COUNT) 1

/-- R219, R220, R224, R226: a host write of one word of a context changes the host-writable bits of that word; a sweep folds the counter bank of every
context that is not POISONED and starts the banks again; the evaluation at tick 32,768 stages the new offset of every context with N points when its
step is within STEP_MAX, and restarts its accumulator in any case; the chip offset is staged in the same way. Model's choices: log entries 26, 133. -/
def Obligations.ContextsAndCalibration : Prop :=
  (∀ (u : DcId) (idx : Fin 40960) (w : Fin 16) (value : Word) (s : State), ((s.dc u).ctxLine idx).length = 8 → (s.dc u).heldFrom 7 8 idx = false → Ends
    (.contextWrite u idx w value) s fun t => BitVec.ofNat 32 (ctxGet ((t.dc u).ctxLine idx) (w / 2) (if w.val % 2 = 0 then 0 else 32) 32) =
    (BitVec.ofNat 32 (ctxGet ((s.dc u).ctxLine idx) (w / 2) (if w.val % 2 = 0 then 0 else 32) 32) &&& ~~~(ctxHostMask w)) ||| (value &&& ctxHostMask
    w) ∧ (∀ j : Fin 40960, j ≠ idx → (t.dc u).ctxLine j = (s.dc u).ctxLine j) ∧ t.result = (0, 0)) ∧
  (∀ (u : DcId) (i : Fin 40960) (s : State), (s.dc u).mem.sram = [] → (s.dc u).slu.seqs = [] → cget ((s.dc u).ctxLine i) cPoisoned = 0 → Ends
    (.rateSweep u) s fun t => (t.dc u).ctxLine i = sweepCtx ((s.dc u).ctxLine i) (FMap.get (0, 0) (s.dc u).ctx.bank i).1 (FMap.get (0, 0) (s.dc
    u).ctx.bank i).2 ((s.dc u).fld DC.CTX.FOLD.FRAMES) ((s.dc u).fld DC.CTX.FOLD.HOT_RATE) ((s.dc u).fld DC.CTX.DEAD.FOLDS) ∧ (t.dc u).ctx.bank = [] ∧
    (t.dc u).ctx.sweepFrame = (s.dc u).ctx.sweepFrame + (s.dc u).fld DC.CTX.FOLD.FRAMES ∧ (t.dc u).now = laterTick (s.dc u).now (((s.dc
    u).ctx.sweepFrame + (s.dc u).fld DC.CTX.FOLD.FRAMES) * frameTicks)) ∧
  (∀ (u : DcId) (i : Fin 40960) (s : State), (s.dc u).fld DC.CTX.CAL.N ≠ 0 → (s.dc u).fld DC.CTX.CAL.N ≤ cget ((s.dc u).ctxLine i) cNpts → (s.dc
    u).mem.sram = [] → (s.dc u).slu.seqs = [] → cget ((s.dc u).ctxLine i) cPoisoned = 0 → (s.dc u).role ≠ roleStandby → (s.dc u).stepOk (cint ((s.dc
    u).ctxLine i) cBase + halfAway (cint ((s.dc u).ctxLine i) cSum) (cget ((s.dc u).ctxLine i) cNpts)) (cint ((s.dc u).ctxLine i) cOffset) → Ends
    (.calibrationEvaluation u) s fun t => (t.dc u).ctxLine i = cput (cput (cRestart ((s.dc u).ctxLine i)) cOffsetNext (unsigned 16 (cint ((s.dc
    u).ctxLine i) cBase + halfAway (cint ((s.dc u).ctxLine i) cSum) (cget ((s.dc u).ctxLine i) cNpts)))) cNext (cget ((s.dc u).ctxLine i) cNext |||
    1)) ∧
  (∀ (u : DcId) (i : Fin 40960) (s : State), (s.dc u).fld DC.CTX.CAL.N ≠ 0 → (s.dc u).fld DC.CTX.CAL.N ≤ cget ((s.dc u).ctxLine i) cNpts → (s.dc
    u).mem.sram = [] → (s.dc u).slu.seqs = [] → cget ((s.dc u).ctxLine i) cPoisoned = 0 → (((s.dc u).role = roleStandby ∨ (s.dc u).stepOk (cint ((s.dc
    u).ctxLine i) cBase + halfAway (cint ((s.dc u).ctxLine i) cSum) (cget ((s.dc u).ctxLine i) cNpts)) (cint ((s.dc u).ctxLine i) cOffset) = false)) →
    Ends (.calibrationEvaluation u) s fun t => (t.dc u).ctxLine i = cRestart ((s.dc u).ctxLine i)) ∧
  ∀ (u : DcId) (n : Fin 64) (s : State), (s.dc u).fld DC.CTX.CAL.N ≠ 0 → (s.dc u).fld DC.CTX.CAL.N ≤ FMap.get 0 (s.dc u).ctx.chipPts n → (s.dc u).role ≠
    roleStandby → (s.dc u).stepOk (halfAway (FMap.get 0 (s.dc u).ctx.chipSum n) (FMap.get 0 (s.dc u).ctx.chipPts n)) (signed 16 ((s.dc u).fld
    (DC.CTX.CHIP.CHIP_OFF n))) → Ends (.calibrationEvaluation u) s fun t => FMap.get none (t.dc u).ctx.chipNext n = some (halfAway (FMap.get 0 (s.dc
    u).ctx.chipSum n) (FMap.get 0 (s.dc u).ctx.chipPts n)) ∧ FMap.get 0 (t.dc u).ctx.chipPts n = 0 ∧ FMap.get 0 (t.dc u).ctx.chipSum n = 0

/-- R329, R330, R334, R340, R341: a correctable SRAM word adds one to its array's bucket, and at DEPTH empties it, sets OVF and OVF_ANY; an
uncorrectable one marks the word and counts; a bucket leaks one unit every LEAK frames; the scrubber reads its next codeword, counts a correctable
error and moves on; the end of MEM_HEAL clears HEAL_BUSY and counts the codewords healed; the restart of the core leaves none of its words marked.
Model's choices: log entries 58, 59, 113. -/
def Obligations.MemoryIntegrity : Prop :=
  (∀ (u : DcId) (array : Fin 10) (word : Nat) (found : SramFind) (bit : Nat) (s : State), sramResult found = .single bit → found.marks = 0 → (s.dc
    u).fld (DC.MEM.BUCKET.LEVEL array) < (s.dc u).fld (DC.MEM.BUCKET.DEPTH array) → Ends (.sramScrub u array word found) s fun t => (t.dc u).fld
    (DC.MEM.BUCKET.LEVEL array) = (s.dc u).fld (DC.MEM.BUCKET.LEVEL array) + 1 ∧ (t.dc u).mem.sram = (s.dc u).mem.sram) ∧
  (∀ (u : DcId) (array : Fin 10) (word : Nat) (found : SramFind) (bit : Nat) (s : State), sramResult found = .single bit → found.marks = 0 → (s.dc
    u).fld (DC.MEM.BUCKET.DEPTH array) ≤ (s.dc u).fld (DC.MEM.BUCKET.LEVEL array) → Ends (.sramScrub u array word found) s fun t => (t.dc u).fld
    (DC.MEM.BUCKET.LEVEL array) = 0 ∧ (t.dc u).fld (DC.MEM.BUCKET.OVF array) = 1 ∧ (t.dc u).fld DC.MEM.STATUS.OVF_ANY = 1 ∧ (t.dc u).mem.sram = (s.dc
    u).mem.sram) ∧
  (∀ (u : DcId) (array : Fin 10) (word : Nat) (found : SramFind) (s : State), sramResult found = .double → found.marks = 0 → (s.dc u).sramMark array
    word ≠ markPoison → Ends (.sramScrub u array word found) s fun t => (t.dc u).sramMark array word = 1 ∧ (t.dc u).fld DC.MEM.SRAM_UE.COUNT = satAdd
    DC.MEM.SRAM_UE.COUNT.width ((s.dc u).fld DC.MEM.SRAM_UE.COUNT) 1 ∧ (array = arrCore → (t.dc u).mem.coreDown)) ∧
  (∀ (u : DcId) (array : Fin 10) (s : State), 0 < (s.dc u).fld (DC.MEM.BUCKET.LEVEL array) → Ends (.bucketLeak u array) s fun t => (t.dc u).fld
    (DC.MEM.BUCKET.LEVEL array) = (s.dc u).fld (DC.MEM.BUCKET.LEVEL array) - 1 ∧ (t.dc u).now = laterTick (s.dc u).now (FMap.get 0 (s.dc
    u).mem.leakFrom array + (s.dc u).fld (DC.MEM.BUCKET.LEAK array) * frameTicks)) ∧
  (∀ (u : DcId) (c : Fin 8) (addr : Nat) (found : DramFind) (sym : Nat) (s : State), dramResult found = .correctable sym → (s.dc u).mem.scrubAt =
    (c.val, addr / 32) → (s.dc u).fld DC.MEM.CTRL.SCRUB_EN = 1 → dcCore ≤ (s.dc u).state → (s.dc u).state ≠ dcLimp → addr % 32 = 0 → addr < 64 * (s.dc
    u).chanLines → (s.dc u).mire.retired = [] → (s.dc u).slu.seqs = [] → Ends (.scrubRead u c addr found) s fun t => (t.dc u).dramAt c (addr / 32) =
    found ∧ (t.dc u).mem.scrubAt = (s.dc u).scrubNext c (addr / 32) ∧ (t.dc u).fld (DC.MEM.DRAM_CE.COUNT c) = satAdd (DC.MEM.DRAM_CE.COUNT c).width
    ((s.dc u).fld (DC.MEM.DRAM_CE.COUNT c)) 1) ∧
  (∀ (u : DcId) (h : HealJob) (s : State), (s.dc u).mem.heal = some h → h.len = 0 → Ends (.memHealComplete u) s fun t => (t.dc u).mem.heal = none ∧
    (t.dc u).fld DC.MEM.STATUS.HEAL_BUSY = 0 ∧ (t.dc u).fld DC.MEM.HEAL_DONE.COUNT = (s.dc u).fld DC.MEM.HEAL_DONE.COUNT ∧ (t.dc u).mem.dram = (s.dc
    u).mem.dram) ∧
  (∀ (u : DcId) (h : HealJob) (cw : Nat) (found : DramFind) (sym : Nat) (s : State), dramResult found = .correctable sym → (s.dc u).mem.heal = some h →
    (s.dc u).mem.dram = [(dramKey h.c cw, found)] → h.start / 32 ≤ cw → cw < h.start / 32 + h.len / 32 → Ends (.memHealComplete u) s fun t => (t.dc
    u).mem.heal = none ∧ (t.dc u).fld DC.MEM.STATUS.HEAL_BUSY = 0 ∧ (t.dc u).fld DC.MEM.HEAL_DONE.COUNT = satAdd DC.MEM.HEAL_DONE.COUNT.width ((s.dc
    u).fld DC.MEM.HEAL_DONE.COUNT) 1 ∧ (t.dc u).dramAt h.c cw = dramNone) ∧
  ∀ (u : DcId) (s : State), (s.dc u).mem.coreDown → Ends (.coreRestartDone u) s fun t => (t.dc u).mem.coreDown = false ∧ (t.dc u).marked arrCore 0 (2 ^
    24) = none

/-- R457, R458, R460, R472: with the six LEDGER records of a later frame held, a settlement adds the increase of every account since the frame settled
before, counts the hits received and those lost in transit, and makes that frame the settled one at tick 32,768 of the next frame; the first
settlement is the baseline and counts nothing; a port in RUN without a LEDGER record for LEDGER_WAIT frames is STALE. Model's choices: log entries 55,
86. -/
def Obligations.LedgerSettlement : Prop :=
  (∀ (u : DcId) (n : Fin 64) (f0 f : Nat) (s : State), ((s.dc u).lport n).settled = some f0 → ((s.dc u).lport n).ready = some f → f0 < f → ((s.dc
    u).lport n).delta 0 ≤ 2 ^ 47 → Ends (.ledgerSettlement u n) s fun t => ((t.dc u).lport n).settled = some f ∧ (∀ a < 6, (t.dc u).acct n a = ((s.dc
    u).acct n a + ((s.dc u).lport n).delta a) % 2 ^ 64) ∧ (t.dc u).acct n 6 = ((s.dc u).acct n 6 + (total (((((s.dc u).lport n).recvd.filter fun x =>
    decide (x.1 ≤ f))).map (·.2)))) % 2 ^ 64 ∧ ((total (((((s.dc u).lport n).recvd.filter fun x => decide (x.1 ≤ f))).map (·.2))) ≤ ((s.dc u).lport
    n).delta 1 → (t.dc u).acct n 7 = ((s.dc u).acct n 7 + (((s.dc u).lport n).delta 1 - (total (((((s.dc u).lport n).recvd.filter fun x => decide (x.1
    ≤ f))).map (·.2))))) % 2 ^ 64) ∧ (t.dc u).now = laterTick (s.dc u).now ((f + 1) * frameTicks + 32768)) ∧
  (∀ (u : DcId) (n : Fin 64) (f : Nat) (s : State), ((s.dc u).lport n).settled = none → ((s.dc u).lport n).ready = some f → Ends (.ledgerSettlement u n)
    s fun t => ((t.dc u).lport n).settled = some f ∧ (∀ a < 10, (t.dc u).acct n a = (s.dc u).acct n a) ∧ (t.dc u).now = laterTick (s.dc u).now ((f +
    1) * frameTicks + 32768)) ∧
  ∀ (u : DcId) (n : Fin 64) (s : State), (s.dc u).portRun n → Ends (.ledgerStale u n) s fun t => (t.dc u).fld (DC.LDG.PSTAT.STALE n) = 1 ∧ (t.dc u).now
    = laterTick (s.dc u).now ((((s.dc u).lport n).lastRec + (s.dc u).fld DC.LDG.CTRL.LEDGER_WAIT) * frameTicks) ∧ (t.dc u).stalePort n ∧ (t.dc
    u).staleAny

/-- R233, R234, R237 to R240, R265: when WM_WAIT ends every participating DF640 whose WATERMARK is missing becomes STALE and counts, and the group is
complete; evaluating a complete group moves on to the next; an enabled pattern that matches over a group without changes fires at its first slice plus
PERSIST, once, and raises a PATTERN trigger at its first slice; one that does not match ends its run; at the end of a period the rates show the
accepted triggers. With the engine disabled nothing is evaluated. Model's choices: log entries 46, 47. -/
def Obligations.TriggerEngine : Prop :=
  (∀ (u : DcId) (s : State), (s.dc u).missing (s.dc u).completeTo ≠ [] → Ends (.wmWaitExpiry u) s fun t => (∀ n < 64, n ∈ (s.dc u).missing (s.dc
    u).completeTo → (t.dc u).stale n ∧ (t.dc u).fld (DC.TRG.WM_LATE.COUNT n) = satAdd (DC.TRG.WM_LATE.COUNT n).width ((s.dc u).fld
    (DC.TRG.WM_LATE.COUNT n)) 1) ∧ (∀ n < 64, n ∉ (s.dc u).missing (s.dc u).completeTo → (t.dc u).stale n = (s.dc u).stale n) ∧ (t.dc u).trg.complete
    = (s.dc u).completeTo + 1 ∧ (t.dc u).trg.group = (s.dc u).trg.group ∧ (t.dc u).now = laterTick (s.dc u).now (groupEnd (s.dc u).completeTo + (s.dc
    u).fld DC.TRG.WM_WAIT.TICKS)) ∧
  (∀ (u : DcId) (j : Fin 512) (s : State), (s.dc u).fld DC.TRG.CTRL.EN = 1 → (s.dc u).groupDone (s.dc u).trg.group → (s.dc u).mem.sram = [] → (s.dc
    u).trg.changes = [] → (s.dc u).fld (DC.TRG.PCTRL.EN j) = 1 → (s.dc u).matches j → (s.dc u).run j = {} → (s.dc u).fld (DC.TRG.PCTRL.PERSIST j) ≤ 63
    → (s.dc u).sourceOn srcPattern → (s.dc u).fld DC.TRG.CTRL.ISSUE = 0 → Ends (.groupEvaluation u) s fun t => (t.dc u).trg.group = (s.dc u).trg.group
    + 1 ∧ (∃ x ∈ (t.dc u).trg.undecided, x.slice = 64 * (s.dc u).trg.group + (s.dc u).fld (DC.TRG.PCTRL.PERSIST j) ∧ x.source = srcPattern ∧ x.tTick =
    256 * (s.dc u).trg.group) ∧ (t.dc u).run j =
    { s0 := some (64 * (s.dc u).trg.group), fired := true, stale := (s.dc u).carefulStale j, fresh := false } ∧ (t.dc u).fld (DC.TRG.FIRED.COUNT j) =
    satAdd (DC.TRG.FIRED.COUNT j).width ((s.dc u).fld (DC.TRG.FIRED.COUNT j)) 1 ∧ (t.dc u).fld (DC.TRG.PCTRL.MATCH j) = 1) ∧
  (∀ (u : DcId) (j : Fin 512) (s : State), (s.dc u).fld DC.TRG.CTRL.EN = 1 → (s.dc u).groupDone (s.dc u).trg.group → (s.dc u).mem.sram = [] → (s.dc
    u).trg.changes = [] → (s.dc u).fld (DC.TRG.PCTRL.EN j) = 1 → (s.dc u).matches j = false → (s.dc u).fld DC.TRG.CTRL.ISSUE = 0 → Ends
    (.groupEvaluation u) s fun t => (t.dc u).trg.group = (s.dc u).trg.group + 1 ∧ (t.dc u).run j =
    { s0 := none, fired := false, stale := false, fresh := false } ∧ (t.dc u).fld (DC.TRG.PCTRL.MATCH j) = 0) ∧
  (∀ (u : DcId) (s : State), (s.dc u).fld DC.TRG.CTRL.EN = 0 → Ends (.groupEvaluation u) s fun t => (t.dc u) = (s.dc u)) ∧
  ∀ (u : DcId) (s : State) (e : Nat), (s.dc u).trg.periodFrom = some e → Ends (.ratePeriodEnd u) s fun t => (∀ x < 5, (t.dc u).fld (DC.TRG.RATE.HZ (x +
    1)) = FMap.get 0 (s.dc u).trg.period (x + 1) * 10000000 / 2097152 % 2 ^ (DC.TRG.RATE.HZ (x + 1)).width) ∧ (t.dc u).trg.period = [] ∧ (t.dc
    u).trg.periodFrom = some (e + 1024) ∧ (t.dc u).now = laterTick (s.dc u).now ((e + 1024) * frameTicks)

/-- R250, R254, R255, R258, R263, R463: at end + 31,744 ticks the extractor starts; when it has read every slot, a capture whose window is no longer
held becomes a tombstone of reason 2 and one that needs an uncorrectable index record one of reason 4; otherwise its fragments are closed with the
start clamped to the oldest valid slot; a fragment that nothing withholds is handed to the qualifier, and with the last one the capture leaves its
place and counts as released. Model's choices: log entries 48, 81, 112. -/
def Obligations.CaptureExtraction : Prop :=
  (∀ (u : DcId) (seq slots : Nat) (x : Cap) (s : State), (s.dc u).capOf seq = some x → (s.dc u).extracts → x.begun = false → x.dec.source ≠ srcWindow →
    Ends (.captureReady u seq slots) s fun t => ((t.dc u).capOf seq).map (·.begun) = some true ∧ ((t.dc u).capOf seq).map (·.dec) = some x.dec ∧
    ((t.dc u).capOf seq).map (·.held) = some (s.dc u).oldestArr.isSome ∧ (t.dc u).now = laterTick (s.dc u).now (x.dec.stop + 31744)) ∧
  (∀ (u : DcId) (seq : Nat) (x : Cap) (p : Nat × Nat) (s : State), (s.dc u).capOf seq = some x → (s.dc u).extracts → x.begun → x.done = false → (((s.dc
    u).slotsOf x).any fun y => (s.dc u).slotWaits y.2) = false → (s.dc u).tombRoom → ((s.dc u).windowIndex x).2 = some p → Ends (.extractionComplete u
    seq) s fun t => (t.dc u).capOf seq = none ∧ (t.dc u).trg.tombs = (s.dc u).trg.tombs ++ [(x.dec.frame, tombWords x.dec ((s.dc u).fld
    DC.CTX.GEN.GEN) tombIndexPoison)] ∧ (t.dc u).fld (DC.TRG.TOMB.COUNT tombIndexPoison) = satAdd (DC.TRG.TOMB.COUNT tombIndexPoison).width ((s.dc
    u).fld (DC.TRG.TOMB.COUNT tombIndexPoison)) 1) ∧
  (∀ (u : DcId) (seq : Nat) (x : Cap) (s : State), (s.dc u).capOf seq = some x → (s.dc u).extracts → x.begun → x.done = false → (((s.dc u).slotsOf
    x).any fun y => (s.dc u).slotWaits y.2) = false → (s.dc u).tombRoom → ((s.dc u).windowIndex x).2 = none → x.held = false → Ends
    (.extractionComplete u seq) s fun t => (t.dc u).capOf seq = none ∧ (t.dc u).trg.tombs = (s.dc u).trg.tombs ++ [(x.dec.frame, tombWords x.dec
    ((s.dc u).fld DC.CTX.GEN.GEN) tombNotHeld)] ∧ (t.dc u).fld (DC.TRG.TOMB.COUNT tombNotHeld) = satAdd (DC.TRG.TOMB.COUNT tombNotHeld).width ((s.dc
    u).fld (DC.TRG.TOMB.COUNT tombNotHeld)) 1) ∧
  (∀ (u : DcId) (seq : Nat) (x : Cap) (a : Nat) (s : State), (s.dc u).capOf seq = some x → (s.dc u).extracts → x.begun → x.done = false → (((s.dc
    u).slotsOf x).any fun y => (s.dc u).slotWaits y.2) = false → ((s.dc u).windowIndex x).2 = none → x.held → (((s.dc u).windowIndex x).1.readSlots x
    (((s.dc u).windowIndex x).1.slotsOf x)).1.oldestArr = some a → a < 1024 * x.dec.stop → Ends (.extractionComplete u seq) s fun t => (t.dc u).capOf
    seq = some
    { (((s.dc u).windowIndex x).1.readSlots x (((s.dc u).windowIndex x).1.slotsOf x)).2 with frags := (((s.dc u).windowIndex x).1.readSlots x (((s.dc u).windowIndex x).1.slotsOf x)).1.capFragments (((s.dc u).windowIndex x).1.readSlots x (((s.dc u).windowIndex x).1.slotsOf x)).2 (if a ≤ 1024 * x.dec.start then x.dec.start else (a + 1023) / 1024), done := true, hits := [], poisoned := [], readSlots := [] }
    ∧ (t.dc u).trg.tombs = (s.dc u).trg.tombs) ∧
  (∀ (u : DcId) (seq : Nat) (x : Cap) (f : List Rec) (rest : List (List Rec)) (s : State), (s.dc u).capOf seq = some x → (s.dc u).extracts → x.frags = f
    :: rest → (s.dc u).withheld x.dec.frame = false → rest ≠ [] → Ends (.fragmentClose u seq) s fun t => (t.dc u).qlf.inq = (s.dc u).qlf.inq ++ [f] ∧
    (t.dc u).capOf seq = some { x with frags := rest } ∧ (t.dc u).tot totFragments = ((s.dc u).tot totFragments + 1) % 2 ^ 48 ∧ (t.dc u).tot totRelCap
    = (s.dc u).tot totRelCap) ∧
  ∀ (u : DcId) (seq : Nat) (x : Cap) (f : List Rec) (s : State), (s.dc u).capOf seq = some x → (s.dc u).extracts → x.frags = [f] → (s.dc u).withheld
    x.dec.frame = false → x.again = false → Ends (.fragmentClose u seq) s fun t => (t.dc u).qlf.inq = (s.dc u).qlf.inq ++ [f] ∧ (t.dc u).capOf seq =
    none ∧ (t.dc u).tot totFragments = ((s.dc u).tot totFragments + 1) % 2 ^ 48 ∧ (t.dc u).tot totRelCap = ((s.dc u).tot totRelCap + 1) % 2 ^ 48 ∧
    (t.dc u).tot totPending = ((s.dc u).tot totPending - 1) % 2 ^ 48

/-- R270, R272 to R276, R278 to R280: a tombstone passes with path NONE and cause 7; with the qualifier off a fragment passes with path NONE and cause
4; otherwise fragments are held until the last one, then judged: under FORCE_MEASURE by the limits of the source with path MEASURE and cause 1, else
by the number of contexts that violate the mask, and released with the four qualifier words. Model's choices: log entries 50, 85. -/
def Obligations.Qualifier : Prop :=
  (∀ (u : DcId) (ws : List Rec) (rest : List (List Rec)) (s : State), (s.dc u).qlf.inq = ws :: rest → recTomb ws → Ends (.qualifierFragmentArrival u) s
    fun t => (t.dc u).qlf.inq = rest ∧ (t.dc u).qlf.out.map (·.head) = (s.dc u).qlf.out.map (·.head) ++ [addFlags (ws.take 8) 0x4000] ∧ (t.dc
    u).qlf.out.map (·.qual) = (s.dc u).qlf.out.map (·.qual) ++ [noneWords ((s.dc u).fld (DC.QLF.SRC.MASK (recSource ws))) causeTomb] ∧ (t.dc
    u).qlf.caps = (s.dc u).qlf.caps) ∧
  (∀ (u : DcId) (ws : List Rec) (rest : List (List Rec)) (s : State), (s.dc u).qlf.inq = ws :: rest → recTomb ws = false → (s.dc u).qlf.caps.find? (fun
    y => y.seq == recSeq ws) = none → (s.dc u).fld DC.QLF.CTRL.EN = 0 → Ends (.qualifierFragmentArrival u) s fun t => (t.dc u).qlf.inq = rest ∧ (t.dc
    u).qlf.out.map (·.head) = (s.dc u).qlf.out.map (·.head) ++ [addFlags (ws.take 8) 0x4000] ∧ (t.dc u).qlf.out.map (·.qual) = (s.dc u).qlf.out.map
    (·.qual) ++ [noneWords ((s.dc u).fld (DC.QLF.SRC.MASK (recSource ws))) causeOff] ∧ (t.dc u).qlf.out.map (·.body) = (s.dc u).qlf.out.map (·.body)
    ++ [ws.drop 8]) ∧
  (∀ (u : DcId) (ws : List Rec) (rest : List (List Rec)) (s : State), (s.dc u).qlf.inq = ws :: rest → recTomb ws = false → (s.dc u).qlf.caps.find? (fun
    y => y.seq == recSeq ws) = none → (s.dc u).fld DC.QLF.CTRL.EN = 1 → ws.length - 8 ≤ (s.dc u).fld DC.QLF.CTRL.HOLD_MAX * 8192 → (s.dc u).heldWords
    + ws.length ≤ holdArea → recLast ws = false → Ends (.qualifierFragmentArrival u) s fun t => (t.dc u).qlf.inq = rest ∧ (t.dc u).qlf.out = (s.dc
    u).qlf.out ∧ (t.dc u).qlf.caps.getLast? = some ((s.dc u).compareCap
    { ((ws.drop 8).foldl QlfCap.take { (s.dc u).sampleCap ws with held := [ws], words := ws.length - 8 }) with cause2 := ((ws.drop 8).foldl QlfCap.take { (s.dc u).sampleCap ws with held := [ws], words := ws.length - 8 }).cause2 || ((s.dc u).fld DC.QLF.MASK_CTRL.LOAD).testBit ((ws.drop 8).foldl QlfCap.take { (s.dc u).sampleCap ws with held := [ws], words := ws.length - 8 }).mask }
    ws).2) ∧
  (∀ (u : DcId) (ws : List Rec) (rest : List (List Rec)) (s : State), (s.dc u).qlf.inq = ws :: rest → recTomb ws = false → (s.dc u).qlf.caps.find? (fun
    y => y.seq == recSeq ws) = none → (s.dc u).fld DC.QLF.CTRL.EN = 1 → ws.length - 8 ≤ (s.dc u).fld DC.QLF.CTRL.HOLD_MAX * 8192 → (s.dc u).heldWords
    + ws.length ≤ holdArea → recLast ws → ((s.dc u).sampleCap ws).force → ((s.dc u).sampleCap ws).cause2 = false → ((s.dc u).sampleCap ws).cause3 =
    false → ((ws.drop 8).foldl QlfCap.take { (s.dc u).sampleCap ws with held := [ws], words := ws.length - 8 }).limitsViolated = false → Ends
    (.qualifierFragmentArrival u) s fun t => (t.dc u).qlf.inq = rest ∧ (t.dc u).qlf.out.map (·.head) = (s.dc u).qlf.out.map (·.head) ++ [addFlags
    (ws.take 8) 0x100] ∧ (t.dc u).qlf.out.map (·.qual) = (s.dc u).qlf.out.map (·.qual) ++ [((ws.drop 8).foldl QlfCap.take
    { (s.dc u).sampleCap ws with held := [ws], words := ws.length - 8 }).words' pathMeasure 1 0 0 false] ∧ (t.dc u).qlf.out.map (·.body) = (s.dc
    u).qlf.out.map (·.body) ++ [ws.drop 8]) ∧
  ∀ (u : DcId) (ws : List Rec) (rest : List (List Rec)) (viol : Nat) (s : State), (s.dc u).qlf.inq = ws :: rest → recTomb ws = false → (s.dc
    u).qlf.caps.find? (fun y => y.seq == recSeq ws) = none → (s.dc u).fld DC.QLF.CTRL.EN = 1 → ws.length - 8 ≤ (s.dc u).fld DC.QLF.CTRL.HOLD_MAX *
    8192 → (s.dc u).heldWords + ws.length ≤ holdArea → recLast ws → ((s.dc u).sampleCap ws).force = false → ((s.dc u).sampleCap ws).cause2 = false →
    ((s.dc u).sampleCap ws).cause3 = false → (s.dc u).marked arrMask (1280 * ((s.dc u).sampleCap ws).mask) (1280 * ((s.dc u).sampleCap ws).mask +
    1280) = none → ((s.dc u).sampleCap ws).action = 0 → Ends (.qualifierFragmentArrival u) s fun t => viol = (s.dc u).maskViolations ((ws.drop
    8).foldl QlfCap.take { (s.dc u).sampleCap ws with held := [ws], words := ws.length - 8 }).mask ((ws.drop 8).foldl QlfCap.take
    { (s.dc u).sampleCap ws with held := [ws], words := ws.length - 8 }).ctxs → (t.dc u).qlf.inq = rest ∧ (t.dc u).qlf.out.map (·.head) = (s.dc
    u).qlf.out.map (·.head) ++ [addFlags (ws.take 8) (if 0 < viol then 0x200 else 0)] ∧ (t.dc u).qlf.out.map (·.qual) = (s.dc u).qlf.out.map (·.qual)
    ++ [((ws.drop 8).foldl QlfCap.take { (s.dc u).sampleCap ws with held := [ws], words := ws.length - 8 }).words' pathMask 0 viol 0 (decide (0 <
    viol))] ∧ (t.dc u).qlf.out.map (·.stream) = (s.dc u).qlf.out.map (·.stream) ++ [0]

/-- R269, R271, R282, R290, R291, R295: coding the oldest released record appends its header with the method, the coding word, the qualifier words,
the coded body and the check word of its Fold context, and counts it and its raw cause; a disabled coder, an empty body, a poisoned record, an LZD
backlog and a window too long for FRB are raw with causes 1, 5, 2, 6 and 4, and a body that the verify decoder does not give back with cause 3;
otherwise the FRB body is the bit string of R283. Model's choice: log entry 52. -/
def Obligations.Coder : Prop :=
  (∀ (u : DcId) (fault : List (Nat × Nat)) (r : QRec) (rest : List QRec) (s : State), (s.dc u).qlf.out = r :: rest → (s.dc u).mem.dram = [] → (s.dc
    u).marked arrCoder 0 (2 ^ 24) = none → Ends (.codeRecord u fault) s fun t => (t.dc u).qlf.out = rest ∧ (t.dc u).cmp.out = (s.dc u).cmp.out ++
    [{ words := ((addFlags r.head (((s.dc u).coding r fault).method * 2 ^ 12 + (if ((s.dc u).coding r fault).cause = 3 then 0x800 else 0))) ++ [((s.dc u).coding r fault).word r.stream] ++ r.qual ++ ((s.dc u).coding r fault).body) ++ [BitVec.ofNat 64 ((s.dc u).foldHardware (r.stream % 2) (recFragment r.head * 2 ^ 48 + recSeq r.head) ((addFlags r.head (((s.dc u).coding r fault).method * 2 ^ 12 + (if ((s.dc u).coding r fault).cause = 3 then 0x800 else 0))) ++ [((s.dc u).coding r fault).word r.stream] ++ r.qual ++ ((s.dc u).coding r fault).body)).2], stream := r.stream, buffers := ((s.dc u).coding r fault).buffers }]
    ∧ (t.dc u).fld DC.CMP.RECORDS.COUNT = satAdd DC.CMP.RECORDS.COUNT.width ((s.dc u).fld DC.CMP.RECORDS.COUNT) 1 ∧ (((s.dc u).coding r fault).cause ≠
    0 → ((s.dc u).coding r fault).cause ≤ 7 → (t.dc u).fld (DC.CMP.RAW.COUNT ((s.dc u).coding r fault).cause) = satAdd (DC.CMP.RAW.COUNT ((s.dc
    u).coding r fault).cause).width ((s.dc u).fld (DC.CMP.RAW.COUNT ((s.dc u).coding r fault).cause)) 1)) ∧
  (∀ (d : Dc) (r : QRec) (fault : List (Nat × Nat)), fieldOf r.ctrl 0 1 = 0 → (d.coding r fault).method = modeRaw ∧ (d.coding r fault).cause = 1 ∧
    (d.coding r fault).body = r.body ∧ (d.coding r fault).bytes = 8 * r.body.length) ∧
  (∀ (d : Dc) (r : QRec) (fault : List (Nat × Nat)) (mode : Nat), fieldOf r.ctrl 0 1 = 1 → mode = fieldOf r.ctrl (if r.stream = 1 then 3 else 1) 2 →
    mode ≠ modeRaw → (r.body = [] → (d.coding r fault).cause = 5) ∧ (r.body ≠ [] → rb (r.head.getD 2 0) 3 1 = 1 → (d.coding r fault).cause = 2) ∧
    (r.body ≠ [] → rb (r.head.getD 2 0) 3 1 = 0 → mode = modeLzd → r.backlog → (d.coding r fault).cause = 6)) ∧
  ∀ (d : Dc) (r : QRec) (fault : List (Nat × Nat)) (mode : Nat), fieldOf r.ctrl 0 1 = 1 → mode = fieldOf r.ctrl (if r.stream = 1 then 3 else 1) 2 →
    (mode = modeFrb48 ∨ mode = modeFrb40) → r.body ≠ [] → rb (r.head.getD 2 0) 3 1 = 0 → if frbSpan mode < (r.head.getD 5 0).toNat - (r.head.getD 4
    0).toNat then (d.coding r fault).cause = 4 else if frbVerified mode r.body (frbBody mode r.body) fault = false then (d.coding r fault).cause = 3 ∧
    (d.coding r fault).body = r.body else (d.coding r fault).cause = 0 ∧ (d.coding r fault).method = mode ∧ (d.coding r fault).body = (frbBody mode
    r.body).1 ∧ (d.coding r fault).bytes = (frbBody mode r.body).2

/-- R302, R304, R305, R308, R309, R333: the oldest coded record is submitted at the head of the log under the next J, whole or, when a drop cause
holds, as its first 13 words; a page whose oldest byte waited FLUSH frames is padded to its end; a page whose program succeeds is bound to its place
in the map and waits no longer, one whose program fails counts and waits on. Model's choices: log entries 53, 124. -/
def Obligations.PeatLog : Prop :=
  (∀ (u : DcId) (r : Coded) (rest : List Coded) (s : State), (s.dc u).cmp.out = r :: rest → (s.dc u).active → (s.dc u).fld DC.PEAT.CTRL.EN = 1 → (s.dc
    u).fld DC.PEAT.STATUS.READY = 1 → (s.dc u).peat.usedTo ((s.dc u).peat.head + 8 * ((if ((s.dc u).dropCause (8 * (r.words.length + 1))) = 0 then
    r.words else r.words.take 13).length + 1)) ≤ (s.dc u).peat.flash.u → Ends (.recordSubmit u) s fun t => (t.dc u).cmp.out = rest ∧ (t.dc
    u).peat.submitted = (s.dc u).peat.submitted + 1 ∧ (t.dc u).peat.head = (s.dc u).peat.head + 8 * ((if ((s.dc u).dropCause (8 * (r.words.length +
    1))) = 0 then r.words else r.words.take 13).length + 1) ∧ (t.dc u).peat.flash.items.map (·.j) = (s.dc u).peat.flash.items.map (·.j) ++ [(s.dc
    u).peat.submitted + 1] ∧ (t.dc u).peat.flash.items.map (·.off) = (s.dc u).peat.flash.items.map (·.off) ++ [(s.dc u).peat.head] ∧ (t.dc
    u).peat.flash.items.map (fun x => x.words.drop 1) = (s.dc u).peat.flash.items.map (fun x => x.words.drop 1) ++ [if ((s.dc u).dropCause (8 *
    (r.words.length + 1))) = 0 then r.words else r.words.take 13] ∧ (t.dc u).peat.skeleton = (s.dc u).peat.skeleton + (if ((s.dc u).dropCause (8 *
    (r.words.length + 1))) = 0 then 0 else 1)) ∧
  (∀ (u : DcId) (s : State) (e : Nat), (s.dc u).peat.openFrom = some e → (s.dc u).peat.stopped = none → (s.dc u).fld DC.PEAT.CTRL.EN = 1 → (s.dc
    u).peat.head % 8 = 0 → Ends (.pageFlushTimeout u) s fun t => (t.dc u).peat.head = ((s.dc u).peat.head / pageBytes + 1) * pageBytes ∧ (t.dc
    u).peat.openFrom = none ∧ (t.dc u).peat.unprog = (s.dc u).peat.unprog ++ [(s.dc u).peat.head / pageBytes] ∧ (t.dc u).peat.submitted = (s.dc
    u).peat.submitted ∧ (t.dc u).now = laterTick (s.dc u).now (e + (s.dc u).fld DC.PEAT.CTRL.FLUSH * frameTicks)) ∧
  (∀ (u : DcId) (page key pg due : Nat) (s : State), page ∈ (s.dc u).peat.unprog → (s.dc u).peat.stopped = none → (s.dc u).nextPlace = some (key, pg) →
    (s.dc u).slu.seqs = [] → Ends (.pageProgramDone u page true due) s fun t => page ∉ (t.dc u).peat.unprog ∧ FMap.get 0 (t.dc u).peat.flash.map (page
    % (s.dc u).peat.flash.u) = mapEntry 1 key pg (s.dc u).peat.nextSerial ∧ (t.dc u).peat.head = (s.dc u).peat.head ∧ (t.dc u).peat.turn = ((s.dc
    u).peat.turn + 1) % 8) ∧
  ∀ (u : DcId) (page key pg due : Nat) (s : State), page ∈ (s.dc u).peat.unprog → (s.dc u).peat.stopped = none → (s.dc u).nextPlace = some (key, pg) →
    Ends (.pageProgramDone u page false due) s fun t => (t.dc u).peat.unprog = (s.dc u).peat.unprog ∧ (t.dc u).fld DC.PEAT.PROG_FAIL.COUNT = satAdd
    (DC.PEAT.PROG_FAIL.COUNT).width ((s.dc u).fld DC.PEAT.PROG_FAIL.COUNT) 1 ∧ (t.dc u).peat.flash.map = (s.dc u).peat.flash.map ∧ (t.dc u).peat.turn
    = ((s.dc u).peat.turn + 1) % 8

/-- R309 to R311, R314, R315, R333: an open journal page with entries closes and a new one opens under the next serial; when both copies of the oldest
closed page are programmed its records are committed, and while neither is it waits; a checkpoint starts with the serial of the open page and its root
page ends it; an erased block opens at page 0 and a failed one counts; a block that the correction log names for a failure is retired, one named for a
warning has its pages copied first. Model's choices: log entries 54, 63, 64, 121. -/
def Obligations.PeatJournal : Prop :=
  (∀ (u : DcId) (s : State), (s.dc u).peat.jopen.entries ≠ [] → (s.dc u).peat.stopped = none → Ends (.journalPageProgram u) s fun t => (t.dc
    u).peat.jwait = (s.dc u).peat.jwait ++
    [{ (s.dc u).peat.jopen with crc := ((s.dc u).foldHardware 3 (s.dc u).peat.jopen.serial (s.dc u).peat.jopen.entries.flatten).2 }] ∧ (t.dc
    u).peat.jopen = { serial := (s.dc u).peat.jopen.serial + 1 } ∧ (t.dc u).peat.log = (s.dc u).peat.log) ∧
  (∀ (u : DcId) (j : JPage) (rest : List JPage) (s : State), (s.dc u).peat.jwait = j :: rest → (s.dc u).peat.dataReady j → (s.dc u).peat.stopped = none
    → j.serial < (s.dc u).peat.flash.oldestP0 + journalRing → (s.dc u).peat.jopen.entries.length + 2 ≤ journalEntries → Ends (.journalProgramDone u
    true true) s fun t => (t.dc u).peat.jwait = rest ∧ (t.dc u).peat.flash.journal = (s.dc u).peat.flash.journal.filter (fun x => decide (j.serial <
    x.serial + journalRing)) ++ [{ j with even := true, odd := true }] ∧ (t.dc u).peat.log.committed = (s.dc u).peat.log.committed + (j.entries.filter
    fun x => rb (x.getD 0 0) 60 4 == 1).length ∧ (s.dc u).peat.log.commit ≤ (t.dc u).peat.log.commit) ∧
  (∀ (u : DcId) (j : JPage) (rest : List JPage) (s : State), (s.dc u).peat.jwait = j :: rest → (s.dc u).peat.dataReady j → (s.dc u).peat.stopped = none
    → j.even = false → j.odd = false → j.serial < (s.dc u).peat.flash.oldestP0 + journalRing → (s.dc u).peat.jopen.entries.length + 2 ≤ journalEntries
    → Ends (.journalProgramDone u false false) s fun t => (t.dc u).peat.jwait = (s.dc u).peat.jwait ∧ (t.dc u).peat.log = (s.dc u).peat.log ∧ (t.dc
    u).peat.flash.journal = (s.dc u).peat.flash.journal ∧ (t.dc u).fld DC.PEAT.PROG_FAIL.COUNT = satAdd DC.PEAT.PROG_FAIL.COUNT.width (satAdd
    DC.PEAT.PROG_FAIL.COUNT.width ((s.dc u).fld DC.PEAT.PROG_FAIL.COUNT) 1) 1) ∧
  (∀ (u : DcId) (s : State), (s.dc u).peat.cpRun = none → (s.dc u).fld DC.PEAT.CTRL.EN = 1 → (s.dc u).fld DC.PEAT.STATUS.READY = 1 → (s.dc
    u).peat.stopped = none → Ends (.checkpointStart u) s fun t => (t.dc u).peat.cpRun.map (·.p0) = some (t.dc u).peat.jopen.serial ∧ (t.dc
    u).peat.cpRun.map (·.map) = some (s.dc u).peat.flash.map ∧ (t.dc u).peat.cpRun.map (·.log) = some (s.dc u).peat.log ∧ (t.dc u).fld
    DC.PEAT.STATUS.CP_BUSY = 1 ∧ (t.dc u).peat.flash.map = (s.dc u).peat.flash.map ∧ (t.dc u).peat.flash.items = (s.dc u).peat.flash.items) ∧
  (∀ (u : DcId) (c : PCheck) (s : State), (s.dc u).peat.cpRun = some c → Ends (.checkpointDone u) s fun t => (t.dc u).peat.cpRun = none ∧ (t.dc
    u).peat.flash.cps = c :: (s.dc u).peat.flash.cps.take 1 ∧ (t.dc u).peat.flash.journal = (s.dc u).peat.flash.journal.filter (fun x => decide ((t.dc
    u).peat.flash.oldestP0 ≤ x.serial)) ∧ (t.dc u).fld DC.PEAT.STATUS.CP_BUSY = 0) ∧
  (∀ (u : DcId) (c : Fin 8) (key : Nat) (s : State), (s.dc u).peat.formatting = none → FMap.get none (s.dc u).peat.erasing c = some key → Ends
    (.blockEraseDone u c true) s fun t => FMap.get none (t.dc u).peat.open' c = some (key, 0) ∧ FMap.get none (t.dc u).peat.erasing c = none ∧ ((t.dc
    u).peat.flash.block key).state = 2 ∧ ((t.dc u).peat.flash.block key).erases = ((s.dc u).peat.flash.block key).erases) ∧
  (∀ (u : DcId) (c : Fin 8) (key : Nat) (s : State), (s.dc u).peat.formatting = none → FMap.get none (s.dc u).peat.erasing c = some key → Ends
    (.blockEraseDone u c false) s fun t => ((t.dc u).peat.flash.block key).state = 5 ∧ (t.dc u).fld DC.PEAT.ERASE_FAIL.COUNT = satAdd
    (DC.PEAT.ERASE_FAIL.COUNT).width ((s.dc u).fld DC.PEAT.ERASE_FAIL.COUNT) 1 ∧ (t.dc u).peat.open' = (s.dc u).peat.open') ∧
  (∀ (u : DcId) (c : Fin 8) (b key : Nat) (s : State), b < 2 ^ 20 → key = 2 ^ 20 * c + b → (s.dc u).peat.flash.formatted → ((s.dc u).peat.flash.block
    key).state ≠ 4 → ((s.dc u).peat.flash.block key).state ≠ 1 → (s.dc u).peat.stopped = none → (s.dc u).blockLogged key [kindProgFail, kindEraseFail]
    → Ends (.blockRelocation u c b) s fun t => ((t.dc u).peat.flash.block key).state = 4 ∧ ((t.dc u).peat.flash.block key).erases = ((s.dc
    u).peat.flash.block key).erases + (s.dc u).peat.flash.base ∧ (t.dc u).peat.log = (s.dc u).peat.log ∧ (t.dc u).peat.head = (s.dc u).peat.head) ∧
  ∀ (u : DcId) (c : Fin 8) (b key : Nat) (s : State), b < 2 ^ 20 → key = 2 ^ 20 * c + b → (s.dc u).peat.flash.formatted → ((s.dc u).peat.flash.block
    key).state ≠ 4 → ((s.dc u).peat.flash.block key).state ≠ 1 → (s.dc u).peat.stopped = none → (s.dc u).blockLogged key [kindProgFail, kindEraseFail]
    = false → (s.dc u).blockLogged key [kindFlashWarn] → (s.dc u).peat.reloc = none → ((s.dc u).peat.flash.map.filter fun x => mapState x.2 == 1 &&
    mapBlock x.2 == key) ≠ [] → Ends (.blockRelocation u c b) s fun t => (t.dc u).peat.reloc = some key ∧ (t.dc u).fld DC.PEAT.STATUS.RELOCATING = 1 ∧
    ((t.dc u).peat.flash.block key).state ≠ 4 ∧ (t.dc u).peat.log = (s.dc u).peat.log ∧ (t.dc u).peat.head = (s.dc u).peat.head

/-- R312, R313, R316, R318, R321, R449: PFAIL stops programming and writes a fence with what is not committed; on the return it resumes without it;
replay leaves a ready store whose drain starts at RELEASE, with the records of the fence counted as lost, and the unit in HOSTWAIT; the drain sends
the next bytes that are committed and credited; a page it cannot read stops it until its map entry is rebuilt, and the records of a page that stays
unreadable become POISON items; without a release for ACK_WAIT frames it goes back to RELEASE. Model's choices: log entries 65, 66, 67, 69, 123. -/
def Obligations.PeatDrainAndPowerFailure : Prop :=
  (∀ (u : DcId) (s : State), (s.dc u).peat.stopped = none → (s.dc u).peat.flash.formatted → (s.dc u).fld DC.PEAT.STATUS.READY = 1 → Ends (.pfail u) s
    fun t => (t.dc u).peat.stopped.map (·.1) = some (s.dc u).peat.unprog ∧ (t.dc u).peat.flash.fence = some
    { serial := (s.dc u).peat.jopen.serial, crc := ((s.dc u).foldHardware 3 (s.dc u).peat.jopen.serial (BitVec.ofNat 64 (s.dc u).now :: (s.dc u).peat.pendingIdents.take 2040)).2, lastJ := (s.dc u).peat.submitted, dt := (s.dc u).now, idents := (s.dc u).peat.pendingIdents.take 2040 }
    ∧ (t.dc u).peat.log = (s.dc u).peat.log ∧ (t.dc u).peat.flash.items = (s.dc u).peat.flash.items) ∧
  (∀ (u : DcId) (s : State), (s.dc u).peat.stopped.isSome → (s.dc u).fld DC.PEAT.STATUS.READY = 1 → (s.dc u).fld DC.BOOT.DROOP_STAT.STEP ≠ 2 → Ends
    (.peatResume u) s fun t => (t.dc u).peat.stopped = none ∧ (t.dc u).peat.flash.fence = none ∧ (t.dc u).peat.unprog = (s.dc u).peat.unprog ∧ (t.dc
    u).peat.flash.items = (s.dc u).peat.flash.items) ∧
  (∀ (u : DcId) (ms : Nat) (badRoots badPages : List Nat) (s : State), (s.dc u).state = dcCore → (s.dc u).peat.flash.geom.isSome → (s.dc
    u).peat.flash.formatted → (s.dc u).fld DC.PEAT.STATUS.READY = 0 → Ends (.peatReplay u ⟨ms, badRoots, badPages⟩) s fun t => (t.dc u).fld
    DC.PEAT.STATUS.READY = 1 ∧ (t.dc u).peat.log.sent = (t.dc u).peat.log.release ∧ (t.dc u).peat.log.id = (s.dc u).peat.flash.id ∧ (t.dc
    u).peat.readFence = (s.dc u).peat.flash.fence ∧ (t.dc u).peat.flash.fence = none ∧ (t.dc u).peat.head = (t.dc u).peat.log.commit ∧ (t.dc u).fld
    DC.PEAT.STATUS.PFAIL = (if (s.dc u).peat.flash.fence.isSome then 1 else (s.dc u).fld DC.PEAT.STATUS.PFAIL) ∧ (t.dc u).state = dcHostwait ∧ (t.dc
    u).now = laterTick (s.dc u).now ((s.dc u).now + ms * ticksMs)) ∧
  (∀ (u : DcId) (pg : Nat) (wrong : List Nat) (s : State), (s.dc u).drainPage false = some pg → (s.dc u).transmitPoison = none → ((s.dc u).pageRead pg
    wrong).2 → (s.dc u).peat.log.sent < (min (min (s.dc u).peat.log.commit (s.dc u).peat.log.limit) (min ((s.dc u).peat.log.sent + (s.dc u).fld
    DC.PEAT.DRAIN_CFG.DGRAM) (((s.dc u).peat.log.sent / pageBytes + 1) * pageBytes))) → Ends (.drainDatagram u false wrong) s fun t => (t.dc
    u).peat.log.sent = (min (min (s.dc u).peat.log.commit (s.dc u).peat.log.limit) (min ((s.dc u).peat.log.sent + (s.dc u).fld
    DC.PEAT.DRAIN_CFG.DGRAM) (((s.dc u).peat.log.sent / pageBytes + 1) * pageBytes))) ∧ (t.dc u).peat.log.sentMax = max (s.dc u).peat.log.sentMax (min
    (min (s.dc u).peat.log.commit (s.dc u).peat.log.limit) (min ((s.dc u).peat.log.sent + (s.dc u).fld DC.PEAT.DRAIN_CFG.DGRAM) (((s.dc
    u).peat.log.sent / pageBytes + 1) * pageBytes))) ∧ (t.dc u).peat.log.release = (s.dc u).peat.log.release ∧ (t.dc u).peat.rewound = false ∧ (t.dc
    u).out.tail = (s.dc u).out ∧ (t.dc u).out.length = (s.dc u).out.length + 1 ∧ (t.dc u).peat.flash.map = (s.dc u).peat.flash.map) ∧
  (∀ (u : DcId) (pg : Nat) (wrong : List Nat) (s : State), (s.dc u).drainPage false = some pg → ((s.dc u).pageRead pg wrong).2 = false → Ends
    (.drainDatagram u false wrong) s fun t => (t.dc u).peat.bad = some pg ∧ (t.dc u).fld DC.PEAT.STATUS.MAP_POISON = 1 ∧ (t.dc u).peat.log.sent =
    (s.dc u).peat.log.sent ∧ (t.dc u).out = (s.dc u).out) ∧
  (∀ (u : DcId) (pg : Nat) (s : State), (s.dc u).peat.bad = some pg → Ends (.mapRebuild u []) s fun t => (t.dc u).peat.bad = none ∧ (t.dc
    u).peat.flash.items = (s.dc u).peat.flash.items ∧ (t.dc u).fld DC.MEM.FLASH_UE.COUNT = (s.dc u).fld DC.MEM.FLASH_UE.COUNT) ∧
  (∀ (u : DcId) (pg : Nat) (s : State), (s.dc u).peat.bad = some pg → Ends (.mapRebuild u (List.replicate 16 73)) s fun t => (t.dc u).peat.bad = none ∧
    (t.dc u).fld DC.MEM.FLASH_UE.COUNT = satAdd DC.MEM.FLASH_UE.COUNT.width ((s.dc u).fld DC.MEM.FLASH_UE.COUNT) 16 ∧ (t.dc u).peat.flash.items =
    ((s.dc u).poisonLines pg (List.range 256)).peat.flash.items) ∧
  (∀ (u : DcId) (pg : Nat) (wrong : List Nat) (s : State), (s.dc u).peat.bad = none → (s.dc u).peat.pbad = some pg → Ends (.mapRebuild u wrong) s fun t
    => (t.dc u).peat.pbad = none ∧ (t.dc u).peat.bad = none ∧ (t.dc u).peat.flash = (s.dc u).peat.flash ∧ (t.dc u).regs = (s.dc u).regs) ∧
  (∀ (u : DcId) (a : Nat) (s : State), (s.dc u).ackDue 0 = some a → (s.dc u).ackDue 1 = none → Ends (.ackWaitTimeout u) s fun t => (t.dc u).peat.log =
    { (s.dc u).peat.log with sent := (s.dc u).peat.log.release } ∧ (t.dc u).peat.rewound ∧ (t.dc u).peat.plog = (s.dc u).peat.plog ∧ (t.dc
    u).peat.relFrom = laterTick (s.dc u).now a ∧ (t.dc u).now = laterTick (s.dc u).now a) ∧
  ∀ (u : DcId) (a : Nat) (s : State), (s.dc u).ackDue 0 = none → (s.dc u).ackDue 1 = some a → Ends (.ackWaitTimeout u) s fun t => (t.dc u).peat.plog =
    { (s.dc u).peat.plog with sent := (s.dc u).peat.plog.release } ∧ (t.dc u).peat.prewound ∧ (t.dc u).peat.log = (s.dc u).peat.log ∧ (t.dc
    u).peat.prelFrom = laterTick (s.dc u).now a ∧ (t.dc u).now = laterTick (s.dc u).now a

/-- R334, R400 to R404, R406, R407, R410: before HOSTWAIT a packet has no effect; one in a poisoned receive buffer is dropped and the bite counted; a
packet for another address is stranger traffic of reason 3, one of no enabled host entry or with a malformed header of reason 6; one whose tag is
wrong counts in AUTH_FAIL of its entry and one of a wrong session in STALE; a packet that passes every check is handed to its command with its
sequence taken. Model's choices: log entries 73, 90, 127, 128. -/
def Obligations.PacketAcceptance : Prop :=
  (∀ (d : Dc) (p : Pkt) (b : List Nat) (a : Nat), d.serves = false → d.gate p b a = (d, none)) ∧
  (∀ (d : Dc) (p : Pkt) (b : List Nat) (a w : Nat), d.serves → d.receivePoison = some w → d.gate p b a = (d.bufferBite w, none)) ∧
  (∀ (d : Dc) (p : Pkt) (b : List Nat) (a : Nat), d.serves → d.receivePoison = none → p.dstIp ≠ d.fld DC.ABS.SVC_IP.ADDR → p.dstIp ≠ d.fld
    DC.ABS.UNIT_IP.ADDR → (d.gate p b a).1.fld (DC.ABS.STRANGER.COUNT 3) = satAdd (DC.ABS.STRANGER.COUNT 3).width (d.fld (DC.ABS.STRANGER.COUNT 3)) 1
    ∧ (d.gate p b a).2 = none) ∧
  (∀ (d : Dc) (p : Pkt) (b : List Nat) (a : Nat), d.serves → d.receivePoison = none → (p.dstIp = d.fld DC.ABS.SVC_IP.ADDR ∨ p.dstIp = d.fld
    DC.ABS.UNIT_IP.ADDR) → (d.hostEntry p = none ∨ pktFormed p b = false) → (d.gate p b a).1.fld (DC.ABS.STRANGER.COUNT 6) = satAdd
    (DC.ABS.STRANGER.COUNT 6).width (d.fld (DC.ABS.STRANGER.COUNT 6)) 1 ∧ (d.gate p b a).2 = none) ∧
  (∀ (d : Dc) (p : Pkt) (b : List Nat) (a h : Nat), d.serves → d.receivePoison = none → (p.dstIp = d.fld DC.ABS.SVC_IP.ADDR ∨ p.dstIp = d.fld
    DC.ABS.UNIT_IP.ADDR) → d.hostEntry p = some h → pktFormed p b → FMap.get 0 d.abs.level (2 * (p.port % 2)) < d.fld (DC.ABS.RL_A.BURST (p.port % 2))
    → ofBytesBE (absynTag d.bt.key (pktSigned p b)) ≠ p.tag → (d.gate p b a).2 = none ∧ (d.gate p b a).1.fld (DC.ABS.AUTH_FAIL.COUNT h) = satAdd
    (DC.ABS.AUTH_FAIL.COUNT h).width (d.fld (DC.ABS.AUTH_FAIL.COUNT h)) 1) ∧
  (∀ (d : Dc) (p : Pkt) (b : List Nat) (a h : Nat), d.serves → d.receivePoison = none → (p.dstIp = d.fld DC.ABS.SVC_IP.ADDR ∨ p.dstIp = d.fld
    DC.ABS.UNIT_IP.ADDR) → d.hostEntry p = some h → pktFormed p b → FMap.get 0 d.abs.level (2 * (p.port % 2)) < d.fld (DC.ABS.RL_A.BURST (p.port % 2))
    → ofBytesBE (absynTag d.bt.key (pktSigned p b)) = p.tag → p.opcode ≠ abSessionOpen → p.session ≠ d.fld (DC.ABS.SESSION.SESSION h) → (d.gate p b
    a).2 = none ∧ (d.gate p b a).1.fld (DC.ABS.STALE.COUNT h) = satAdd (DC.ABS.STALE.COUNT h).width (d.fld (DC.ABS.STALE.COUNT h)) 1) ∧
  ∀ (d : Dc) (p : Pkt) (b : List Nat) (a h : Nat), d.serves → d.receivePoison = none → (p.dstIp = d.fld DC.ABS.SVC_IP.ADDR ∨ p.dstIp = d.fld
    DC.ABS.UNIT_IP.ADDR) → d.hostEntry p = some h → pktFormed p b → FMap.get 0 d.abs.level (2 * (p.port % 2)) < d.fld (DC.ABS.RL_A.BURST (p.port % 2))
    → ofBytesBE (absynTag d.bt.key (pktSigned p b)) = p.tag → p.opcode ≠ abSessionOpen → p.session ≠ 0 → p.session = d.fld (DC.ABS.SESSION.SESSION h)
    → FMap.get [] d.abs.kept h = [] → d.seqFresh h p.sequence → p.flags.testBit 2 = false → d.active → d.state ≠ dcLimp → (d.gate p b a).1.regs =
    (d.seqTake h p.sequence).regs ∧ (FMap.get [] (d.gate p b a).1.abs.seen h).contains p.sequence ∧ (d.gate p b a).2 = some
    { host := h, dst := p.dstIp, ip := p.srcIp, udp := p.srcUdp, session := p.session, sequence := p.sequence, opcode := p.opcode, target := p.target, tag := p.tag }

/-- R245, R406, R408, R411, R423, R479: READ answers the values of consecutive registers with a status; WRITE and WRITE_BLOCK write them; SESSION_OPEN
gives the entry a new session and clears its highest sequence; SESSION_CLOSE ends it; SOFT and WINDOW take the next trigger number, and are answered
NOT_ACTIVE by a unit that issues none; NOTICE_ACK removes the notice named, or is BAD_PARAM. Model's choices: log entries 17, 73, 74. -/
def Obligations.HostCommands : Prop :=
  (∀ (u : DcId) (pkt : Pkt) (g : Dc) (r : Reply) (addr count : Nat) (s : State), pkt.opcode = abRead → pkt.target = 0xFF → (s.dc u).gate pkt (pad4
    (bytesBE 4 addr ++ bytesBE 2 count)) (addr) = (g, some r) → Ends (.absynRead u pkt addr count) s fun t => (t.dc u).regs = (g.busRead r.host (addr
    % 2 ^ 32) (count % 65536)).1.regs ∧ (FMap.get [] (t.dc u).abs.kept r.host).getLast? = some
    { r with status := (g.busRead r.host (addr % 2 ^ 32) (count % 65536)).2.1, payload := (g.busRead r.host (addr % 2 ^ 32) (count % 65536)).2.2.flatMap fun w => bytesBE 4 w.toNat }) ∧
  (∀ (u : DcId) (pkt : Pkt) (g : Dc) (r : Reply) (addr : Nat) (value : Word) (s : State), pkt.opcode = abWrite → pkt.target = 0xFF → (s.dc u).gate pkt
    (bytesBE 4 addr ++ bytesBE 4 value.toNat) (addr) = (g, some r) → g.paired = false → (g.busBlock (addr % 2 ^ 32) [value]).2.1 = stOk → Ends
    (.absynWrite u pkt addr value) s fun t => t = s.putDc u ((g.busBlock (addr % 2 ^ 32) [value]).1.answerAfterCopy r)) ∧
  (∀ (u : DcId) (pkt : Pkt) (g : Dc) (r : Reply) (addr : Nat) (values : List Word) (s : State), pkt.opcode = abWriteBlock → pkt.target = 0xFF → (s.dc
    u).gate pkt (pad4 (bytesBE 4 addr ++ bytesBE 2 values.length) ++ values.flatMap fun v => bytesBE 4 v.toNat) (addr) = (g, some r) → g.paired =
    false → (g.busBlock (addr % 2 ^ 32) values).2.1 = stOk → Ends (.absynWriteBlock u pkt addr values) s fun t => t = s.putDc u ((g.busBlock (addr % 2
    ^ 32) values).1.answerAfterCopy r)) ∧
  (∀ (u : DcId) (pkt : Pkt) (g : Dc) (r : Reply) (nonce : Nat) (s : State), pkt.opcode = abSessionOpen → pkt.target = 0xFF → (s.dc u).gate pkt (bytesBE
    8 nonce) (0) = (g, some r) → Ends (.sessionOpen u pkt nonce) s fun t => (t.dc u).fld (DC.ABS.SESSION.SESSION r.host) = newSession s.free (FMap.get
    0 g.abs.prev r.host) % 2 ^ 32 ∧ (t.dc u).fld (DC.ABS.HIGHEST.SEQ r.host) = 0 ∧ FMap.get [] (t.dc u).abs.seen r.host = [] ∧ t.free = s.free + 1) ∧
  (∀ free prev : Nat, newSession free prev ≠ 0 ∧ newSession free prev ≠ prev) ∧
  (∀ (u : DcId) (pkt : Pkt) (g : Dc) (r : Reply) (s : State), pkt.opcode = abSessionClose → pkt.target = 0xFF → (s.dc u).gate pkt ([]) (0) = (g, some r)
    → Ends (.sessionClose u pkt) s fun t => (t.dc u).fld (DC.ABS.SESSION.SESSION r.host) = 0 ∧ ((t.dc u).abs.held = g.abs.held ++ [((t.dc u).frame,
    r)] ∨ (FMap.get [] (t.dc u).abs.kept r.host).getLast? = some r)) ∧
  (∀ (u : DcId) (pkt : Pkt) (g : Dc) (r : Reply) (tag : Nat) (s : State), pkt.opcode = abSoft → pkt.target = 0xFF → (s.dc u).gate pkt (bytesBE 4 tag)
    (0) = (g, some r) → g.fld DC.TRG.CTRL.ISSUE = 1 → g.sourceOn srcSoft → g.trg.tombs.length < 16384 → Ends (.soft u pkt tag) s fun t => (t.dc
    u).trg.next = (g.trg.next + 1) % 2 ^ 48 ∧ (t.dc u).tot totIssued = (g.tot totIssued + 1) % 2 ^ 48 ∧ ((t.dc u).abs.held = g.abs.held ++ [((t.dc
    u).pair.decFrame, { r with payload := bytesBE 8 g.trg.next })] ∨ (FMap.get [] (t.dc u).abs.kept r.host).getLast? = some
    { r with payload := bytesBE 8 g.trg.next })) ∧
  (∀ (u : DcId) (pkt : Pkt) (g : Dc) (r : Reply) (tag : Nat) (s : State), pkt.opcode = abSoft → pkt.target = 0xFF → (s.dc u).gate pkt (bytesBE 4 tag)
    (0) = (g, some r) → g.fld DC.TRG.CTRL.ISSUE = 0 → Ends (.soft u pkt tag) s fun t => (t.dc u).trg = g.trg ∧ (FMap.get [] (t.dc u).abs.kept
    r.host).getLast? = some { r with status := 7 }) ∧
  (∀ (u : DcId) (pkt : Pkt) (g : Dc) (r : Reply) (start stop tag : Nat) (s : State), pkt.opcode = abWindow → pkt.target = 0xFF → (s.dc u).gate pkt
    (bytesBE 8 start ++ bytesBE 8 stop ++ bytesBE 4 tag) (0) = (g, some r) → g.fld DC.TRG.CTRL.ISSUE = 1 → g.sourceOn srcWindow → g.trg.tombs.length <
    16384 → start < stop → stop < 2 ^ 64 → (stop : Int) - start ≤ g.windowLimit → stop ≤ g.now + 1024 * frameTicks → Ends (.window u pkt start stop
    tag) s fun t => (t.dc u).trg.next = (g.trg.next + 1) % 2 ^ 48 ∧ ((t.dc u).abs.held = g.abs.held ++ [((t.dc u).pair.decFrame,
    { r with payload := bytesBE 8 g.trg.next })] ∨ (FMap.get [] (t.dc u).abs.kept r.host).getLast? = some { r with payload := bytesBE 8 g.trg.next })) ∧
  (∀ (u : DcId) (pkt : Pkt) (g : Dc) (r : Reply) (seq : Nat) (s : State), pkt.opcode = abNoticeAck → pkt.target = 0xFF → (s.dc u).gate pkt (bytesBE 4
    seq) (0) = (g, some r) → g.abs.notices.any (fun x => x.seq == seq) → Ends (.noticeAck u pkt seq) s fun t => (t.dc u).abs.notices =
    g.abs.notices.filter (fun x => x.seq != seq) ∧ (FMap.get [] (t.dc u).abs.kept r.host).getLast? = some r) ∧
  ∀ (u : DcId) (pkt : Pkt) (g : Dc) (r : Reply) (seq : Nat) (s : State), pkt.opcode = abNoticeAck → pkt.target = 0xFF → (s.dc u).gate pkt (bytesBE 4
    seq) (0) = (g, some r) → g.abs.notices.any (fun x => x.seq == seq) = false → Ends (.noticeAck u pkt seq) s fun t => (t.dc u).abs.notices =
    g.abs.notices ∧ (FMap.get [] (t.dc u).abs.kept r.host).getLast? = some { r with status := stBadParam }

/-- R317, R318, R321, R341 to R343, R369: PEAT_CREDIT raises LIMIT, PEAT_ACK moves RELEASE up to SENT, PEAT_REWIND moves SENT back to RELEASE or
above; PEAT_CHECKPOINT starts a checkpoint; PEAT_FORMAT in HOSTWAIT begins the erases of all channels, at whose end the store is fresh; PEAT_FENCE
answers one identity of the fence read; MEM_HEAL starts; MEM_RETIRE takes a page out of the ring; PAIR_HANDOVER in SYNC for 64 frames is set for the
next boundary; PAIR_FORCE makes the unit ACTIVE with the sequence given. Model's choices: log entries 70, 87, 125. -/
def Obligations.StoreAndPairCommands : Prop :=
  (∀ (u : DcId) (pkt : Pkt) (g : Dc) (r : Reply) (id limit : Nat) (s : State), pkt.opcode = abPeatCredit → pkt.target = 0xFF → (s.dc u).gate pkt
    (bytesBE 4 id ++ bytesBE 8 limit) (0) = (g, some r) → g.active → g.logNamed (id % 2 ^ 32) = some 0 → g.peat.log.limit < limit % 2 ^ 64 → Ends
    (.peatCredit u pkt id limit) s fun t => (t.dc u).peat.log = { g.peat.log with limit := limit % 2 ^ 64 } ∧ ((t.dc u).abs.held = g.abs.held ++
    [((t.dc u).frame, { r with payload := (t.dc u).peat.log.payload })] ∨ (FMap.get [] (t.dc u).abs.kept r.host).getLast? = some
    { r with payload := (t.dc u).peat.log.payload })) ∧
  (∀ (u : DcId) (pkt : Pkt) (g : Dc) (r : Reply) (id pos : Nat) (s : State), pkt.opcode = abPeatAck → pkt.target = 0xFF → (s.dc u).gate pkt (bytesBE 4
    id ++ bytesBE 8 pos) (0) = (g, some r) → g.active → g.logNamed (id % 2 ^ 32) = some 0 → g.peat.log.release < pos % 2 ^ 64 → pos % 2 ^ 64 ≤
    g.peat.log.sent → Ends (.peatAck u pkt id pos) s fun t => (t.dc u).peat.log.release = pos % 2 ^ 64 ∧ (t.dc u).peat.log.sent = g.peat.log.sent ∧
    (t.dc u).peat.flash.items = g.peat.flash.items.filter (fun x => decide (pos % 2 ^ 64 < x.stop)) ∧ ((t.dc u).abs.held = g.abs.held ++ [((t.dc
    u).frame, { r with payload := (t.dc u).peat.log.payload })] ∨ (FMap.get [] (t.dc u).abs.kept r.host).getLast? = some
    { r with payload := (t.dc u).peat.log.payload })) ∧
  (∀ (u : DcId) (pkt : Pkt) (g : Dc) (r : Reply) (id pos : Nat) (s : State), pkt.opcode = abPeatAck → pkt.target = 0xFF → (s.dc u).gate pkt (bytesBE 4
    id ++ bytesBE 8 pos) (0) = (g, some r) → g.active → g.logNamed (id % 2 ^ 32) = some 0 → g.peat.log.sent < pos % 2 ^ 64 → Ends (.peatAck u pkt id
    pos) s fun t => (t.dc u).peat = g.peat ∧ (FMap.get [] (t.dc u).abs.kept r.host).getLast? = some
    { r with status := 3, payload := g.peat.log.payload }) ∧
  (∀ (u : DcId) (pkt : Pkt) (g : Dc) (r : Reply) (id pos : Nat) (s : State), pkt.opcode = abPeatRewind → pkt.target = 0xFF → (s.dc u).gate pkt (bytesBE
    4 id ++ bytesBE 8 pos) (0) = (g, some r) → g.active → g.logNamed (id % 2 ^ 32) = some 0 → g.peat.log.release ≤ pos % 2 ^ 64 → pos % 2 ^ 64 ≤
    g.peat.log.sent → Ends (.peatRewind u pkt id pos) s fun t => (t.dc u).peat.log = { g.peat.log with sent := pos % 2 ^ 64 } ∧ (t.dc u).peat.rewound
    ∧ ((t.dc u).abs.held = g.abs.held ++ [((t.dc u).frame, { r with payload := (t.dc u).peat.log.payload })] ∨ (FMap.get [] (t.dc u).abs.kept
    r.host).getLast? = some { r with payload := (t.dc u).peat.log.payload })) ∧
  (∀ (u : DcId) (pkt : Pkt) (g : Dc) (r : Reply) (s : State), pkt.opcode = abPeatCheckpoint → pkt.target = 0xFF → (s.dc u).gate pkt ([]) (0) = (g, some
    r) → g.peat.cpRun = none → Ends (.peatCheckpoint u pkt) s fun t => (t.dc u).fld DC.PEAT.STATUS.CP_BUSY = 1 ∧ (t.dc u).peat.cpRun.map (·.p0) = some
    g.peat.jopen.serial ∧ ((t.dc u).abs.held = g.abs.held ++ [((t.dc u).frame, { r with payload := (t.dc u).peat.log.payload })] ∨ (FMap.get [] (t.dc
    u).abs.kept r.host).getLast? = some { r with payload := (t.dc u).peat.log.payload })) ∧
  (∀ (u : DcId) (pkt : Pkt) (g : Dc) (r : Reply) (word : Nat) (geo : FlashGeom) (s : State), pkt.opcode = abPeatFormat → pkt.target = 0xFF → (s.dc
    u).gate pkt (bytesBE 4 word) (0) = (g, some r) → word % 2 ^ 32 = 0x50454154 → g.state = dcHostwait → g.fld DC.PEAT.CTRL.EN = 0 → g.peat.formatting
    = none → g.peat.flash.geom = some geo → geo.chanFail = false → Ends (.peatFormat u pkt word) s fun t => (t.dc u).peat.formatting = some (r,
    List.range 8) ∧ (t.dc u).peat.flash.formatted = false ∧ (t.dc u).peat.flash.items = [] ∧ (t.dc u).peat.flash.journal = [] ∧ (t.dc
    u).peat.flash.cps = [] ∧ (t.dc u).fld DC.PEAT.STATUS.READY = 0 ∧ (t.dc u).abs.kept = g.abs.kept) ∧
  (∀ (u : DcId) (ask : Reply) (geo : FlashGeom) (k : Fin 8) (s : State), (s.dc u).peat.formatting = some (ask, [k.val]) → (s.dc u).peat.stopped = none →
    (s.dc u).peat.flash.geom = some geo → Ends (.blockEraseDone u k true) s fun t => (t.dc u).peat.formatting = none ∧ (t.dc u).peat.flash.formatted ∧
    (t.dc u).peat.flash.formats = (s.dc u).peat.flash.formats + 1 ∧ (t.dc u).peat.flash.items = [] ∧ (s.dc u).peat.flash.ids.contains (t.dc
    u).peat.flash.id = false ∧ (t.dc u).peat.head = 0 ∧ (t.dc u).peat.submitted = 0 ∧ (t.dc u).peat.log = { id := (t.dc u).peat.flash.id } ∧ (t.dc
    u).fld DC.PEAT.STATUS.READY = 1) ∧
  (∀ (u : DcId) (pkt : Pkt) (g : Dc) (r : Reply) (index : Nat) (f : Fence) (s : State), pkt.opcode = abPeatFence → pkt.target = 0xFF → (s.dc u).gate pkt
    (pad4 (bytesBE 2 index)) (0) = (g, some r) → g.peat.readFence = some f → index % 65536 < f.idents.length → Ends (.peatFence u pkt index) s fun t
    => (t.dc u).peat = g.peat ∧ (FMap.get [] (t.dc u).abs.kept r.host).getLast? = some
    { r with payload := bytesBE 8 (f.idents.getD (index % 65536) 0).toNat ++ bytesBE 4 f.idents.length }) ∧
  (∀ (u : DcId) (pkt : Pkt) (g : Dc) (r : Reply) (c start len : Nat) (s : State), pkt.opcode = abMemHeal → pkt.target = 0xFF → (s.dc u).gate pkt (pad4
    (bytesBE 1 c) ++ bytesBE 8 start ++ bytesBE 4 len) (0) = (g, some r) → g.mem.heal = none → c < 8 → start % 32 = 0 → len % 32 = 0 → len ≤ 2 ^ 30 →
    start + len ≤ 64 * g.chanLines → Ends (.memHeal u pkt c start len) s fun t => (t.dc u).mem.heal = some
    { ask := r, c := c, start := start, len := len } ∧ (t.dc u).fld DC.MEM.STATUS.HEAL_BUSY = 1 ∧ (t.dc u).abs.kept = g.abs.kept) ∧
  (∀ (u : DcId) (pkt : Pkt) (g : Dc) (r : Reply) (c page : Nat) (s : State), pkt.opcode = abMemRetire → pkt.target = 0xFF → (s.dc u).gate pkt (pad4
    (bytesBE 1 c) ++ bytesBE 4 page) (0) = (g, some r) → c < 8 → page < 2 ^ 32 → page * 1024 < g.ringLines → g.mire.retired.contains (c, page) = false
    → 64 * (g.ringRetired c + 1) ≤ ringPositions g.cap / pageSlots → Ends (.memRetire u pkt c page) s fun t => (t.dc u).mire.retired = g.mire.retired
    ++ [(c, page)] ∧ (t.dc u).fld DC.MIRE.RETIRED.PAGES = (g.mire.retired.length + 1) % 2 ^ DC.MIRE.RETIRED.PAGES.width ∧ (FMap.get [] (t.dc
    u).abs.kept r.host).getLast? = some { r with payload := bytesBE 4 ((t.dc u).fld DC.TRG.DCAP.TICKS) }) ∧
  (∀ (u : DcId) (pkt : Pkt) (g : Dc) (r : Reply) (s : State), pkt.opcode = abPairHandover → pkt.target = 0xFF → (s.dc u).gate pkt ([]) (0) = (g, some r)
    → g.active → g.pstate = psSync → 64 ≤ g.fld DC.PAIR.STATUS.SYNC_FRAMES → g.pair.handover = none → Ends (.pairHandover u pkt) s fun t => (t.dc
    u).pair.handover = some (g.frame + 1) ∧ (t.dc u).pair.ask = some r ∧ (t.dc u).abs.kept = g.abs.kept ∧ (t.dc u).role = roleActive) ∧
  ∀ (u : DcId) (pkt : Pkt) (g : Dc) (r : Reply) (seq : Nat) (s : State), pkt.opcode = abPairForce → pkt.target = 0xFF → (s.dc u).gate pkt (bytesBE 8
    seq) (0) = (g, some r) → g.active = false → g.pstate = psLost → g.pair.complete = [] → g.fld DC.TRG.CTRL.EN = 0 → g.trg.next ≤ seq → seq < 2 ^ 48
    → Ends (.pairForce u pkt seq) s fun t => (t.dc u).role = roleActive ∧ (t.dc u).epoch = g.nextEpoch ∧ (t.dc u).trg.next = seq ∧ (t.dc
    u).pair.mustConfirm ∧ (t.dc u).fld DC.PAIR.TAKEOVERS.COUNT = satAdd (DC.PAIR.TAKEOVERS.COUNT).width (g.fld DC.PAIR.TAKEOVERS.COUNT) 1 ∧ (FMap.get
    [] (t.dc u).abs.kept r.host).getLast? = some { r with payload := pad4 (bytesBE 2 g.nextEpoch) }

/-- R399 to R401, R412 to R414, R423: an accepted packet for an enabled port whose downlink runs joins its forwarding queue; the next queued frame
leaves when none is outstanding; an outstanding frame is sent again after 4 frames, and after three sends its host receives TIMEOUT; a notice due is
sent again; an ARP request for the service address is answered while ACTIVE and others are stranger traffic of reason 2; a bucket leaks its rate each
millisecond. Model's choices: log entries 73, 75, 132. -/
def Obligations.ForwardingAndFrames : Prop :=
  (∀ (u : DcId) (n : Fin 64) (pkt : Pkt) (params : List Rec) (g : Dc) (r : Reply) (s : State), pkt.target = n.val → (s.dc u).gate pkt (params.flatMap
    fun w => bytesBE 8 w.toNat) (0) = (g, some r) → forwardable pkt.opcode → g.fld (DC.IBR.CFG.EN n) = 1 → params.length ≤ 32 → g.dnRun n → (FMap.get
    {} g.abs.fwd n).queue.length < 16 → Ends (.forwarded u pkt params) s fun t => (t.dc u).abs.fwd = (g.queueFrame n (pkt.opcode - 0x0800) r.host
    params (some r)).abs.fwd ∧ (t.dc u).abs.kept = g.abs.kept ∧ (t.dc u).out = g.out) ∧
  (∀ (u : DcId) (n : Fin 64) (f : Fwd) (rest : List Fwd) (s : State), (s.dc u).active → (s.dc u).pair.final = false → ((s.dc u).fwd n).out = none →
    ((s.dc u).fwd n).queue = f :: rest → (s.dc u).dnRun n → ((s.dc u).port n).tx = [] → Ends (.commandFrameSend u n) s fun t => ((t.dc u).fwd n).queue
    = rest ∧ ((t.dc u).fwd n).out = some { f with sends := 1, sentAt := (s.dc u).now, leaving := true } ∧ ((t.dc u).port n).tx = f.words) ∧
  (∀ (u : DcId) (n : Fin 64) (f : Fwd) (s : State), (s.dc u).active → (s.dc u).pair.final = false → ((s.dc u).fwd n).out = some f → f.leaving = false →
    f.sends < 3 → (s.dc u).dnRun n → Ends (.commandRetry u n) s fun t => ((t.dc u).fwd n).out = some
    { f with sends := f.sends + 1, sentAt := laterTick (s.dc u).now (f.sentAt + 4 * frameTicks), leaving := true, got := [] } ∧ ((t.dc u).port n).tx =
    f.words) ∧
  (∀ (u : DcId) (n : Fin 64) (f : Fwd) (r : Reply) (s : State), (s.dc u).active → (s.dc u).pair.final = false → ((s.dc u).fwd n).out = some f →
    f.leaving = false → 3 ≤ f.sends → f.ask = some r → Ends (.commandRetry u n) s fun t => ((t.dc u).fwd n).out = none ∧ (FMap.get [] (t.dc
    u).abs.kept r.host).getLast? = some { r with status := stTimeout } ∧ (t.dc u).fld DC.ABS.FWD_TIMEOUT.COUNT = satAdd
    (DC.ABS.FWD_TIMEOUT.COUNT).width ((s.dc u).fld DC.ABS.FWD_TIMEOUT.COUNT) 1) ∧
  (∀ (u : DcId) (y : Notice) (s : State), (s.dc u).abs.notices = [y] → Ends (.noticeResend u) s fun t => (t.dc u).abs.notices =
    [{ y with sent := (t.dc u).frame }] ∧ (t.dc u).now = laterTick (s.dc u).now ((y.sent + (s.dc u).fld DC.ABS.NOTICE_CFG.RESEND) * frameTicks)) ∧
  (∀ (u : DcId) (port : Fin 2) (ip asker : Nat) (s : State), (s.dc u).active → (s.dc u).receivePoison = none → (s.dc u).transmitPoison = none → ip =
    (s.dc u).fld DC.ABS.SVC_IP.ADDR → FMap.get 0 (s.dc u).abs.level (2 * port + 1) < (s.dc u).fld (DC.ABS.RL_B.BURST port) → Ends (.arpRequest u port
    ip asker) s fun t => (t.dc u).out = .arpReply port asker :: (s.dc u).out ∧ (t.dc u).regs = (s.dc u).regs) ∧
  (∀ (u : DcId) (port : Fin 2) (ip asker : Nat) (s : State), (s.dc u).receivePoison = none → (((s.dc u).active = false ∨ ip ≠ (s.dc u).fld
    DC.ABS.SVC_IP.ADDR)) → Ends (.arpRequest u port ip asker) s fun t => (t.dc u).out = (s.dc u).out ∧ (t.dc u).fld (DC.ABS.STRANGER.COUNT 2) = satAdd
    ((DC.ABS.STRANGER.COUNT 2)).width ((s.dc u).fld (DC.ABS.STRANGER.COUNT 2)) 1) ∧
  (∀ (u : DcId) (port : Fin 2) (ef : EthFrame) (reason : Nat) (s : State), (s.dc u).receivePoison = none → (s.dc u).strangerReason ef = some reason →
    reason ≠ 5 → Ends (.strangerFrame u port ef) s fun t => (t.dc u).fld (DC.ABS.STRANGER.COUNT reason) = satAdd ((DC.ABS.STRANGER.COUNT
    reason)).width ((s.dc u).fld (DC.ABS.STRANGER.COUNT reason)) 1 ∧ (t.dc u).out = (s.dc u).out) ∧
  (∀ (u : DcId) (port : Fin 2) (ef : EthFrame) (w : Nat) (s : State), (s.dc u).receivePoison = some w → Ends (.strangerFrame u port ef) s fun t => (t.dc
    u) = (s.dc u).bufferBite w) ∧
  ∀ (u : DcId) (port : Fin 2) (s : State), Ends (.rateLimitLeak u) s fun t => FMap.get 0 (t.dc u).abs.level (2 * port) = FMap.get 0 (s.dc u).abs.level
    (2 * port) - (s.dc u).fld (DC.ABS.RL_A.RATE port) ∧ FMap.get 0 (t.dc u).abs.level (2 * port + 1) = FMap.get 0 (s.dc u).abs.level (2 * port + 1) -
    (s.dc u).fld (DC.ABS.RL_B.RATE port) ∧ (t.dc u).now = laterTick (s.dc u).now (nextMul ticksMs (s.dc u).now)

/-- R353 to R357, R361, R364: a Causeway block whose check fails counts, a valid heartbeat shows the partner and ends the run of misses; a frame in
SYNC with a heartbeat counts in SYNC_FRAMES, and the second missed one in a row moves the pair state to LOST, with a takeover at the next boundary for
a standby that was in SYNC; the active unit sends the copy of the frame before; a copy that is not complete in time is late, one not acknowledged in
time sets HOLD; the end of the listening time makes the preferred unit ACTIVE. Model's choices: log entries 56, 57, 78, 110. -/
def Obligations.PairTraffic : Prop :=
  (∀ (u : DcId) (l : Fin 4) (kk : Nat) (line : List Bool) (tt fine : Nat) (s : State) (ws : List Rec), ((s.dc u).lane l).state = lRun → upWords l kk
    line = some ws → ws.getD 0 0 ≠ idleWord → ws.getD 0 0 ≠ sleepWord → ws.getD 0 0 ≠ wakeWord → causeOk (s.dc u).pref l ws = false → ((s.dc u).lane
    l).rx.crcRun < 63 → Ends (.causewayBlockReceive u l kk line tt fine) s fun t => ((t.dc u).lane l).rx.crcRun = ((s.dc u).lane l).rx.crcRun + 1 ∧
    ((t.dc u).lane l).state = lRun ∧ (t.dc u).pair = (s.dc u).pair ∧ (t.dc u).now = laterTick (s.dc u).now tt) ∧
  (∀ (u : DcId) (l : Fin 4) (kk : Nat) (line : List Bool) (tt fine : Nat) (s : State) (ws : List Rec), ((s.dc u).lane l).state = lRun → upWords l kk
    line = some ws → ws.getD 0 0 ≠ idleWord → ws.getD 0 0 ≠ sleepWord → ws.getD 0 0 ≠ wakeWord → causeOk (s.dc u).pref l ws → ((s.dc u).lane
    l).rx.lastSeq = none → (s.dc u).paired → rb (ws.getD 0 0) 60 4 = clsHeartbeat → Ends (.causewayBlockReceive u l kk line tt fine) s fun t => (t.dc
    u).fld DC.PAIR.P_STATUS.EPOCH = rb ((payloadOf ws).getD 0 0) 48 16 ∧ (t.dc u).fld DC.PAIR.P_STATUS.ROLE = rb ((payloadOf ws).getD 0 0) 46 2 ∧
    (t.dc u).fld DC.PAIR.P_STATUS.PSTATE = rb ((payloadOf ws).getD 0 0) 44 2 ∧ (t.dc u).pair.missRun = 0 ∧ (t.dc u).pair.heard = max (s.dc
    u).pair.heard (rb ((payloadOf ws).getD 1 0) 0 48 + 1) ∧ ((t.dc u).lane l).rx.lastSeq = some (rb (ws.getD 0 0) 32 24) ∧ ((t.dc u).lane l).rx.crcRun
    = 0) ∧
  (∀ (u : DcId) (s : State), (s.dc u).paired → dcClusterUp ≤ (s.dc u).state → (s.dc u).state ≠ dcLimp → (laterTick (s.dc u).now ((if (s.dc u).now %
    frameTicks ≤ 16384 then (s.dc u).frame else (s.dc u).frame + 1) * frameTicks + 16384)) / frameTicks < (s.dc u).pair.heard → (s.dc u).pstate =
    psSync → (s.dc u).pair.late = false → Ends (.heartbeatCheck u) s fun t => (t.dc u).fld DC.PAIR.STATUS.SYNC_FRAMES = min 65535 ((s.dc u).fld
    DC.PAIR.STATUS.SYNC_FRAMES + 1) ∧ (t.dc u).pstate = psSync ∧ (t.dc u).fld DC.PAIR.HB_MISS.COUNT = (s.dc u).fld DC.PAIR.HB_MISS.COUNT) ∧
  (∀ (u : DcId) (s : State), (s.dc u).paired → dcClusterUp ≤ (s.dc u).state → (s.dc u).state ≠ dcLimp → (s.dc u).pair.heard = 0 → (s.dc u).pair.missRun
    = 1 → (s.dc u).pstate = psSync → (s.dc u).role = roleStandby → (s.dc u).noClash → Ends (.heartbeatCheck u) s fun t => (t.dc u).pstate = psLost ∧
    (t.dc u).pair.takeAt = some ((t.dc u).frame + 1) ∧ (t.dc u).fld DC.PAIR.STATUS.SYNC_FRAMES = 0 ∧ (t.dc u).fld DC.PAIR.HB_MISS.COUNT = satAdd
    (DC.PAIR.HB_MISS.COUNT).width ((s.dc u).fld DC.PAIR.HB_MISS.COUNT) 1 ∧ (t.dc u).role = roleStandby) ∧
  (∀ (u : DcId) (c : Copy) (s : State), (s.dc u).pair.ready = some c → Ends (.stateCopySend u) s fun t => (t.dc u).pair.ready = none ∧ (t.dc
    u).pair.sent = some c ∧ (t.dc u).out = .copy c.frame c.blocks :: (s.dc u).out ∧ (t.dc u).fld DC.PAIR.COPY.BYTES = c.bytes % 2 ^
    DC.PAIR.COPY.BYTES.width) ∧
  (∀ (u : DcId) (s : State), (s.dc u).role = roleStandby → (s.dc u).pstate = psSync → (s.dc u).pair.ackd + 1 < (s.dc u).frame → Ends (.copyDeadline u) s
    fun t => (t.dc u).pair.late ∧ (t.dc u).regs = (s.dc u).regs) ∧
  (∀ (u : DcId) (s : State), (s.dc u).active → (s.dc u).paired → (s.dc u).pstate = psSync → (s.dc u).pair.ackd + 1 < (s.dc u).frame → (s.dc u).fld
    DC.PAIR.STATUS.HOLD = 0 → Ends (.ackDeadline u) s fun t => (t.dc u).fld DC.PAIR.STATUS.HOLD = 1 ∧ (t.dc u).pair.holdFrom = (s.dc u).pair.ackd ∧
    (t.dc u).pair.confirmed = 0) ∧
  ∀ (u : DcId) (f : Nat) (s : State), (s.dc u).pair.listen = some f → (s.dc u).pair.settledRole = false → (s.dc u).state = dcClusterUp → (s.dc
    u).noClash → (s.dc u).pref = 1 → Ends (.roleTimeout u) s fun t => (t.dc u).role = roleActive ∧ (t.dc u).epoch = (s.dc u).nextEpoch ∧ (t.dc u).fld
    DC.TRG.CTRL.ISSUE = 1 ∧ (t.dc u).pair.settledRole ∧ (t.dc u).pair.arp = [(t.dc u).now, (t.dc u).now + ticksSec, (t.dc u).now + 2 * ticksSec] ∧
    (t.dc u).now = laterTick (s.dc u).now ((f + 64) * frameTicks)

/-- R361 to R365, R368: the active unit that reads a higher epoch at a DF640 is demoted to ISOLATED, and one that more than half of the named DF640s
confirm counts the frame; at its boundary a standby takes over with the next epoch and releases nothing until ownership is confirmed; a handover stops
the issue of triggers at boundary h with a final copy, and once that is acknowledged the unit is STANDBY in CATCHUP; gratuitous ARP frames leave on
both ports while ACTIVE. Model's choices: log entries 57, 111, 126. -/
def Obligations.PairRoles : Prop :=
  (∀ (u : DcId) (replies : List OwnReply) (s : State), (s.dc u).active → (s.dc u).paired → replies.any (fun q => q.valid && epochHigher q.epoch (s.dc
    u).epoch) → Ends (.ownershipCheck u replies) s fun t => (t.dc u).role = roleIsolated ∧ (t.dc u).epoch = (s.dc u).epoch ∧ (t.dc u).trg.caps = [] ∧
    (t.dc u).trg.tombs = [] ∧ (t.dc u).abs.held = [] ∧ (t.dc u).fld DC.TRG.CTRL.ISSUE = 0 ∧ (t.dc u).fld DC.PAIR.DEMOTIONS.COUNT = satAdd
    (DC.PAIR.DEMOTIONS.COUNT).width ((s.dc u).fld DC.PAIR.DEMOTIONS.COUNT) 1 ∧ (t.dc u).fld DC.PAIR.DISCARDED.COUNT = satAdd
    DC.PAIR.DISCARDED.COUNT.width ((s.dc u).fld DC.PAIR.DISCARDED.COUNT) ((s.dc u).trg.caps.length + (s.dc u).trg.tombs.length)) ∧
  (∀ (u : DcId) (replies : List OwnReply) (s : State), (s.dc u).active → (s.dc u).paired → replies.all (fun q => q.valid && q.epoch == (s.dc u).epoch &&
    q.source == (s.dc u).homing) → ((List.range 64).filter fun n => (s.dc u).named n).length < 2 * ((List.range 64).filter fun n => (s.dc u).named n
    && replies.any fun q => q.n.val == n).length → (s.dc u).fld DC.PAIR.STATUS.HOLD = 0 → epochHigher (s.dc u).epoch (s.dc u).epoch = false → (s.dc
    u).homing ≠ 1 - (s.dc u).homing → Ends (.ownershipCheck u replies) s fun t => (t.dc u).pair.mustConfirm = false ∧ (t.dc u).pair.confirmFrame =
    (s.dc u).frame ∧ (t.dc u).pair.confirmed = (if (s.dc u).pair.confirmed ≠ 0 ∧ (s.dc u).pair.confirmFrame + 1 = (s.dc u).frame then (s.dc
    u).pair.confirmed + 1 else 1) ∧ (t.dc u).role = roleActive) ∧
  (∀ (u : DcId) (f : Nat) (s : State), (s.dc u).pair.takeAt = some f → (s.dc u).pair.complete = [] → (s.dc u).fld DC.TRG.CTRL.EN = 0 → Ends (.takeover
    u) s fun t => (t.dc u).role = roleActive ∧ (t.dc u).epoch = ((s.dc u).epoch + 1) % 65536 ∧ (t.dc u).pair.mustConfirm ∧ (t.dc u).pair.takeAt = none
    ∧ (t.dc u).fld DC.PAIR.TAKEOVERS.COUNT = satAdd (DC.PAIR.TAKEOVERS.COUNT).width ((s.dc u).fld DC.PAIR.TAKEOVERS.COUNT) 1 ∧ (t.dc u).trg.next =
    (s.dc u).trg.next ∧ (t.dc u).pair.arp = [(t.dc u).now, (t.dc u).now + ticksSec, (t.dc u).now + 2 * ticksSec] ∧ (t.dc u).now = laterTick (s.dc
    u).now (f * frameTicks)) ∧
  (∀ (u : DcId) (h : Nat) (s : State), (s.dc u).active → (s.dc u).pair.handover = some h → (s.dc u).pair.final = false → Ends (.handover u) s fun t =>
    (t.dc u).fld DC.TRG.CTRL.ISSUE = 0 ∧ (t.dc u).pair.final ∧ (t.dc u).pair.ready.map (·.final) = some true ∧ (t.dc u).role = roleActive ∧ (t.dc
    u).now = laterTick (s.dc u).now (h * frameTicks)) ∧
  (∀ (u : DcId) (h : Nat) (s : State), (s.dc u).active → (s.dc u).pair.handover = some h → (s.dc u).pair.final → h ≤ (s.dc u).pair.ackd → Ends
    (.handover u) s fun t => (t.dc u).role = roleStandby ∧ (t.dc u).pstate = psCatchup ∧ (t.dc u).pair.handover = none ∧ (t.dc u).pair.final = false ∧
    (t.dc u).trg.caps = [] ∧ (t.dc u).trg.tombs = [] ∧ (t.dc u).fld DC.PAIR.RETURNS.COUNT = satAdd (DC.PAIR.RETURNS.COUNT).width ((s.dc u).fld
    DC.PAIR.RETURNS.COUNT) 1 ∧ (t.dc u).now = laterTick (s.dc u).now ((h + 1) * frameTicks)) ∧
  ∀ (u : DcId) (e : Nat) (rest : List Nat) (s : State), (s.dc u).pair.arp = e :: rest → (s.dc u).active → Ends (.gratuitousArp u) s fun t => (t.dc
    u).pair.arp = rest ∧ (t.dc u).out = .arpGratuitous 1 :: .arpGratuitous 0 :: (s.dc u).out ∧ (t.dc u).now = laterTick (s.dc u).now e

/-- R428, R430, R443: power-on and brown-out take the DC64 to POWER with their cause, every other register at its reset value and its flash kept; the
reset key asks for a reset 1 ms later and any other value is refused; released it goes to FUSE with its PREF strap and DT 0, and with its fuses read
to IMAGE. R432, R434: a valid image enters SELFTEST with its source and version; an invalid one counts in ATTEMPTS, returns every register whose reset
value is "image" to 0 and waits 2 s. R199, R346 to R348, R435: SELFTEST passes to DRAM_TRAIN or goes to LIMP; training takes the least capacity of
eight channels, and with fewer goes to LIMP; the fill ends in CORE; a second reading of another image returns to IMAGE, and the same image with no
formatted store enters HOSTWAIT. Model's choices: log entries 8, 76, 77, 104, 130, 136. -/
def Obligations.StartUpOfADc64 : Prop :=
  (∀ (u : DcId) (s : State), Ends (.powerOn (.dc u)) s fun t => (t.dc u).state = dcPower ∧ (t.dc u).fld DC.BOOT.CAUSE.POR = 1 ∧ (t.dc u).bt =
    { wired := (s.dc u).bt.wired } ∧ (t.dc u).mire = {} ∧ (t.dc u).pair = {} ∧ (t.dc u).now = 0 ∧ (t.dc u).out = (s.dc u).out ∧ (t.dc u).peat = (s.dc
    u).peat.afterReset ∧ (t.dc u).peat.flash.items = (s.dc u).peat.flash.items ∧ ∀ a, a ≠ DC.BOOT.CAUSE.addr → a ≠ DC.BOOT.STATE.addr → (t.dc u).word
    a = dcReset a) ∧
  (∀ (u : DcId) (s : State), Ends (.brownOut (.dc u)) s fun t => (t.dc u).state = dcPower ∧ (t.dc u).fld DC.BOOT.CAUSE.BOR = 1 ∧ (t.dc u).bt =
    { wired := (s.dc u).bt.wired } ∧ (t.dc u).mire = {} ∧ (t.dc u).pair = {} ∧ (t.dc u).now = 0 ∧ (t.dc u).out = (s.dc u).out ∧ (t.dc u).peat = (s.dc
    u).peat.afterReset ∧ (t.dc u).peat.flash.items = (s.dc u).peat.flash.items ∧ ∀ a, a ≠ DC.BOOT.CAUSE.addr → a ≠ DC.BOOT.STATE.addr → (t.dc u).word
    a = dcReset a) ∧
  (∀ (u : DcId) (s : State), Ends (.softReset (.dc u) 0xB007) s fun t => (t.dc u) =
    { (s.dc u) with bt := { (s.dc u).bt with softAt := some ((s.dc u).now + ticksMs) } } ∧ t.result = (0, 0)) ∧
  (∀ (u : DcId) (w : Word) (s : State), w ≠ 0xB007 → Ends (.softReset (.dc u) w) s fun t => (t.dc u) = (s.dc u) ∧ t.result = (3, 0)) ∧
  (∀ (u : DcId) (pref pf : Bool) (s : State), (s.dc u).state = dcPower → Ends (.powerRelease (.dc u) pref pf) s fun t => (t.dc u).state = dcFuse ∧ (t.dc
    u).fld DC.BOOT.STATE.PREV = dcPower ∧ (t.dc u).now = 0 ∧ (t.dc u).bt.pref = pref.toNat ∧ (t.dc u).fld DC.PAIR.CFG.PREF = pref.toNat ∧ (t.dc
    u).bt.pfailHigh = pf ∧ ∀ l < 4, ((t.dc u).lane l).state = lLock ∧ ((t.dc u).lane l).rung = 0) ∧
  (∀ (u : DcId) (s : State) (fu : Fuses) (i g a b : Nat), (s.dc u).state = dcFuse → fu.dieId = some i → fu.grade = some g → fu.l1 = some a → fu.l2 =
    some b → fu.key = none → a < 1024 → b < 1024 → Ends (.fuseLoad (.dc u) fu) s fun t => (t.dc u).state = dcImage ∧ (t.dc u).fld DC.ID.DIE_LO.ID = i
    % 2 ^ 32 ∧ (t.dc u).fld DC.ID.DIE_HI.ID = i / 2 ^ 32 % 2 ^ 32 ∧ (t.dc u).fld DC.ID.PART.GRADE = g % 2 ∧ (t.dc u).fld DC.BOOT.DROOP_CFG.L1 = a ∧
    (t.dc u).fld DC.BOOT.DROOP_CFG.L2 = b ∧ (t.dc u).fld DC.BOOT.STATE.FUSE_ERR = 1 ∧ (t.dc u).fld DC.ABS.STATUS.KEY_BLANK = 1 ∧ (t.dc u).bt.digest =
    fu.digest) ∧
  (∀ (u : DcId) (img : List Nat) (s : State), (s.dc u).state = dcImage → imageValid (s.dc u).bt.digest img → Ends (.imageLoad u img false) s fun t =>
    (t.dc u).state = dcSelftest ∧ (t.dc u).fld DC.BOOT.IMAGE.SRC = 1 ∧ (t.dc u).fld DC.BOOT.IMAGE_VER.VER = image32 img 8 % 2 ^ 32 ∧ (t.dc u).bt.image
    = img ∧ (t.dc u).bt.imageDigest = imageDigestOf img ∧ (t.dc u).bt.retryAt = none) ∧
  (∀ (u : DcId) (img : List Nat) (s : State), (s.dc u).state = dcImage → imageValid (s.dc u).bt.digest img = false → Ends (.imageLoad u img false) s fun
    t => (t.dc u).state = dcImage ∧ (t.dc u).fld DC.BOOT.IMAGE.ATTEMPTS = satAdd 8 ((s.dc u).fld DC.BOOT.IMAGE.ATTEMPTS) 1 ∧ (t.dc u).bt.retryAt =
    some (s.dc u).now ∧ (t.dc u).bt.image = (s.dc u).bt.image ∧ (t.dc u).word DC.ABS.CFG.addr = 0 ∧ ∀ e < 8, (t.dc u).word (DC.ABS.HOST_IP.addr e) =
    0) ∧
  (∀ (u : DcId) (s : State) (e : Nat), (s.dc u).state = dcImage → (s.dc u).bt.retryAt = some e → Ends (.imageRetry u) s fun t => (t.dc u).state =
    dcImage ∧ (t.dc u).bt.retryAt = none ∧ (t.dc u).now = laterTick (s.dc u).now (e + 2 * ticksSec)) ∧
  (∀ (u : DcId) (x : Nat) (s : State), (s.dc u).state = dcSelftest → x % 2 ^ 27 = 0 → Ends (.selftest u x) s fun t => (t.dc u).state = dcTrain ∧ (t.dc
    u).fld DC.MEM.STATUS.SELFTEST_PASS = 1 ∧ (t.dc u).fld DC.MEM.SELFTEST.FAIL = 0) ∧
  (∀ (u : DcId) (x : Nat) (s : State), (s.dc u).state = dcSelftest → x % 2 ^ 27 ≠ 0 → Ends (.selftest u x) s fun t => (t.dc u).state = dcLimp ∧ (t.dc
    u).fld DC.MEM.STATUS.LIMP = 1 ∧ (t.dc u).fld DC.MEM.SELFTEST.FAIL = x % 2 ^ 27) ∧
  (∀ (u : DcId) (c0 c1 c2 c3 c4 c5 c6 c7 : Nat) (s : State), (s.dc u).state = dcTrain → min c0 (min c1 (min c2 (min c3 (min c4 (min c5 (min c6 c7))))))
    < 8 → Ends (.dramTrain u [some c0, some c1, some c2, some c3, some c4, some c5, some c6, some c7]) s fun t => (t.dc u).state = dcFill ∧ (t.dc
    u).fld DC.MIRE.GEOM.CAP = min c0 (min c1 (min c2 (min c3 (min c4 (min c5 (min c6 c7)))))) ∧ ((t.dc u).fld DC.MIRE.GEOM.MISMATCH = 0 ↔ c1 = c0 ∧ c2
    = c0 ∧ c3 = c0 ∧ c4 = c0 ∧ c5 = c0 ∧ c6 = c0 ∧ c7 = c0)) ∧
  (∀ (u : DcId) (caps : List (Option Nat)) (s : State), (s.dc u).state = dcTrain → ((caps.take 8).filterMap fun c => c).length < 8 → Ends (.dramTrain u
    caps) s fun t => (t.dc u).state = dcLimp ∧ (t.dc u).fld DC.MEM.STATUS.LIMP = 1) ∧
  (∀ (u : DcId) (x : Nat) (s : State), (s.dc u).state = dcFill → x ≤ 65535 → Ends (.fill u x) s fun t => (t.dc u).state = dcCore ∧ (t.dc u).fld
    DC.MEM.STATUS.FILL_DONE = 1 ∧ (t.dc u).fld DC.MEM.FILL_MS.MS = x ∧ (t.dc u).mem.sram = [] ∧ (t.dc u).mem.dram = [] ∧ (t.dc u).now = laterTick
    (s.dc u).now ((s.dc u).bt.since + x * ticksMs)) ∧
  (∀ (u : DcId) (img : List Nat) (fl : Option (List FlashChan)) (s : State), (s.dc u).state = dcCore → imageDigestOf img ≠ (s.dc u).bt.imageDigest →
    Ends (.coreStart u img fl) s fun t => (t.dc u).state = dcImage ∧ (t.dc u).fld DC.BOOT.IMAGE.ATTEMPTS = satAdd 8 ((s.dc u).fld
    DC.BOOT.IMAGE.ATTEMPTS) 1 ∧ (t.dc u).peat = (s.dc u).peat) ∧
  ∀ (u : DcId) (img : List Nat) (fl : Option (List FlashChan)) (s : State), (s.dc u).state = dcCore → imageDigestOf img = (s.dc u).bt.imageDigest →
    (s.dc u).peat.flash.formatted = false → Ends (.coreStart u img fl) s fun t => (t.dc u).state = dcHostwait ∧ (t.dc u).fld DC.BOOT.BOOT_MS.MS = min
    (2 ^ 24 - 1) ((s.dc u).now / ticksMs) ∧ (t.dc u).peat.flash.geom = fl.map flashGeom

/-- R436, R438: GO_CLUSTER in HOSTWAIT and GO_RUN in CLUSTER_UP with a settled role ask for their states at the next boundary and answer OK; in any
other state both are refused with STATE. R437: the firmware of the ACTIVE unit sends TAKE to a DF640 in CONFIG, and nothing more with FE_AUTO = 0.
R446, R449: a droop reading below L2 steps the clock to a quarter and counts, one below L1 alone to a half; a reading 10 mV above the level steps it
back. Model's choice: log entry 38. -/
def Obligations.LeavingHostwait : Prop :=
  (∀ (u : DcId) (s : State), (s.dc u).state = dcHostwait → Ends (.goCluster u) s fun t => (t.dc u).bt.goTo = some dcClusterUp ∧ (t.dc u).state =
    dcHostwait ∧ t.result = (0, 0)) ∧
  (∀ (u : DcId) (s : State), (s.dc u).state ≠ dcHostwait → Ends (.goCluster u) s fun t => (t.dc u) = (s.dc u) ∧ t.result = (0x12, 0)) ∧
  (∀ (u : DcId) (s : State), (s.dc u).state = dcClusterUp → ((s.dc u).pair.settledRole ∨ (s.dc u).paired = false) → Ends (.goRun u) s fun t => (t.dc
    u).bt.goTo = some dcRun ∧ (t.dc u).state = dcClusterUp ∧ t.result = (0, 0)) ∧
  (∀ (u : DcId) (s : State), ((s.dc u).state ≠ dcClusterUp ∨ ((s.dc u).paired ∧ (s.dc u).pair.settledRole = false)) → Ends (.goRun u) s fun t => (t.dc
    u) = (s.dc u) ∧ t.result = (0x12, 0)) ∧
  (∀ (u : DcId) (n : Fin 64) (s : State), (s.dc u).active → (s.dc u).fld (DC.IBR.CFG.EN n) = 1 → (s.df n).state = dfConfig → (s.dc u).state = dcRun →
    (s.dc u).fld DC.BOOT.CTRL.FE_AUTO = 0 → Ends (.frontEndConfig u n) s fun t => (t.dc u) = (s.dc u).queueFrame n 0x07 15 [] none ∧ (FMap.get {}
    (t.dc u).abs.fwd n).queue = (FMap.get {} (s.dc u).abs.fwd n).queue ++
    [{ words := [frameHeader opTake 0 (s.dc u).epoch ((s.dc u).identity n) 15], ask := none }]) ∧
  (∀ (u : DcId) (x : Nat) (s : State), x < (s.dc u).fld DC.BOOT.DROOP_CFG.L2 → (s.dc u).fld DC.BOOT.DROOP_STAT.STEP < 2 → Ends (.droopStep (.dc u) x) s
    fun t => (t.dc u).fld DC.BOOT.DROOP_STAT.STEP = 2 ∧ (t.dc u).fld DC.BOOT.DROOP_STAT.MIN = min ((s.dc u).fld DC.BOOT.DROOP_STAT.MIN) x ∧ (t.dc
    u).fld DC.BOOT.DROOP_N4.COUNT = satAdd 32 ((s.dc u).fld DC.BOOT.DROOP_N4.COUNT) 1 ∧ (t.dc u).bt.droopMv = x) ∧
  (∀ (u : DcId) (x : Nat) (s : State), x < (s.dc u).fld DC.BOOT.DROOP_CFG.L1 → (s.dc u).fld DC.BOOT.DROOP_CFG.L2 ≤ x → (s.dc u).fld
    DC.BOOT.DROOP_STAT.STEP = 0 → Ends (.droopStep (.dc u) x) s fun t => (t.dc u).fld DC.BOOT.DROOP_STAT.STEP = 1 ∧ (t.dc u).fld
    DC.BOOT.DROOP_N2.COUNT = satAdd 32 ((s.dc u).fld DC.BOOT.DROOP_N2.COUNT) 1 ∧ (t.dc u).peat = (s.dc u).peat) ∧
  ∀ (u : DcId) (s : State), (s.dc u).fld DC.BOOT.DROOP_STAT.STEP = 1 → (s.dc u).fld DC.BOOT.DROOP_CFG.L1 + 10 ≤ (s.dc u).bt.droopMv → Ends
    (.droopRecover (.dc u)) s fun t => (t.dc u).fld DC.BOOT.DROOP_STAT.STEP = 0

/-- R413, R415 to R418: a frame that is not a repeat is noted, and READ, WRITE and WRITE_BLOCK of a DF640 answer under its identity; READ gives the
values of the registers, or the shadow value for the holder of the lock; without a lock a write that no check refuses is carried out and answers 0;
the holder of the lock writes into its shadow and the registers stay; a write of another owner is refused with LOCKED. R47: a write of a staged field
leaves the value in force as it was. R362: a frame of another epoch is refused with NOT_ACTIVE and counted. R416: a repeated identity is answered with
the kept reply and nothing else. Model's choices: log entries 15, 38, 99, 100. -/
def Obligations.IbastRegisterAccess : Prop :=
  (∀ (n : Fin 64) (f : FrameHdr) (a x : Nat) (s : State), f.k = 1 → f.identity < 4096 → f.owner < 16 → ((s.df n).cmd.last.filter fun x => x.1 ==
    f.identity) = none → (s.df n).cmd.held = [] → (s.df n).cmd.waiting = none → 1 ≤ x → x ≤ 8 → a < 65536 → dfMapped a x → (s.df n).holds f.owner =
    false → Ends (.ibastRead n f a x) s fun t => (t.df n).cmd.last = some (f.identity, replyRecs f.identity 0 ((((s.df n).pump).noteCmd f.identity
    opRead).cmdRead f.owner a x).2) ∧ (t.df n).fld DF.CMD.LAST.STATUS = 0 ∧ (t.df n).fld DF.CMD.LAST.ID = f.identity) ∧
  (∀ (n : Fin 64) (f : FrameHdr) (a : Nat) (w : Word) (s : State), f.k = 1 → f.identity < 4096 → f.owner < 16 → ((s.df n).cmd.last.filter fun x => x.1
    == f.identity) = none → (s.df n).cmd.held = [] → (s.df n).cmd.waiting = none → a < 65536 → dfMapped a 1 → (s.df n).holds f.owner → (s.df
    n).cmd.shadow = [(a, w)] → Ends (.ibastRead n f a 1) s fun t => (t.df n).cmd.last = some (f.identity, replyRecs f.identity 0 [w]) ∧ (t.df n).fld
    DF.CMD.LAST.STATUS = 0 ∧ (t.df n).cmd.shadow = [(a, w)] ∧ (t.df n).fld DF.CMD.LOCK.LEASE = 16) ∧
  (∀ (n : Fin 64) (f : FrameHdr) (a : Nat) (w : Word) (s : State), f.k = 1 → f.identity < 4096 → f.owner < 16 → ((s.df n).cmd.last.filter fun x => x.1
    == f.identity) = none → (s.df n).cmd.held = [] → (s.df n).cmd.waiting = none → (s.df n).fld DF.PAIR.EPOCH.VALID = 1 → f.epoch = (s.df n).fld
    DF.PAIR.EPOCH.EPOCH → a < 65536 → dfMapped a 1 → (((s.df n).pump).noteCmd f.identity opWrite).writeStatus a w = 0 → (s.df n).fld DF.CMD.LOCK.HELD
    = 0 → Ends (.ibastWrite n f a w) s fun t => (t.df n).cmd.last = some (f.identity, replyRecs f.identity 0 [0]) ∧ (t.df n).fld DF.CMD.LAST.STATUS =
    0 ∧ ∀ y < 65536, y ≠ DF.CMD.LAST.addr → (t.df n).word y = ((((s.df n).pump).noteCmd f.identity opWrite).putReg a w).word y) ∧
  (∀ (n : Fin 64) (f : FrameHdr) (w : Word) (s : State), f.k = 1 → f.identity < 4096 → f.owner < 16 → ((s.df n).cmd.last.filter fun x => x.1 ==
    f.identity) = none → (s.df n).cmd.held = [] → (s.df n).cmd.waiting = none → (s.df n).fld DF.PAIR.EPOCH.VALID = 1 → f.epoch = (s.df n).fld
    DF.PAIR.EPOCH.EPOCH → (((s.df n).pump).noteCmd f.identity opWrite).writeStatus DF.REED.REFRESH.addr w = 0 → (s.df n).fld DF.CMD.LOCK.HELD = 0 →
    Ends (.ibastWrite n f DF.REED.REFRESH.addr w) s fun t => (t.df n).fld DF.REED.REFRESH.INTERVAL = fieldOf w DF.REED.REFRESH.INTERVAL.lo
    DF.REED.REFRESH.INTERVAL.width ∧ (t.df n).inForce DF.REED.REFRESH.INTERVAL = (s.df n).inForce DF.REED.REFRESH.INTERVAL ∧ (t.df n).pend) ∧
  (∀ (n : Fin 64) (f : FrameHdr) (a : Nat) (w : Word) (s : State), f.k = 1 → f.identity < 4096 → f.owner < 16 → ((s.df n).cmd.last.filter fun x => x.1
    == f.identity) = none → (s.df n).cmd.held = [] → (s.df n).cmd.waiting = none → (s.df n).fld DF.PAIR.EPOCH.VALID = 1 → f.epoch = (s.df n).fld
    DF.PAIR.EPOCH.EPOCH → a < 65536 → dfMapped a 1 → (((s.df n).pump).noteCmd f.identity opWrite).renew.writeStatus a w = 0 → (s.df n).holds f.owner →
    (s.df n).cmd.shadow = [] → Ends (.ibastWrite n f a w) s fun t => (t.df n).cmd.last = some (f.identity, replyRecs f.identity 0 [0]) ∧ (t.df n).fld
    DF.CMD.LAST.STATUS = 0 ∧ (t.df n).cmd.shadow = [(a, w)] ∧ (t.df n).word DF.REED.REFRESH.addr = (s.df n).word DF.REED.REFRESH.addr ∧ (t.df n).pend
    = (s.df n).pend) ∧
  (∀ (n : Fin 64) (f : FrameHdr) (a : Nat) (w : Word) (s : State), f.k = 1 → f.identity < 4096 → f.owner < 16 → ((s.df n).cmd.last.filter fun x => x.1
    == f.identity) = none → (s.df n).cmd.held = [] → (s.df n).cmd.waiting = none → (s.df n).fld DF.PAIR.EPOCH.VALID = 1 → f.epoch = (s.df n).fld
    DF.PAIR.EPOCH.EPOCH → (s.df n).fld DF.CMD.LOCK.HELD = 1 → (s.df n).fld DF.CMD.LOCK.OWNER ≠ f.owner → Ends (.ibastWrite n f a w) s fun t => (t.df
    n).cmd.last = some (f.identity, replyRecs f.identity 6 [0]) ∧ (t.df n).fld DF.CMD.LAST.STATUS = 6 ∧ (t.df n).pend = (s.df n).pend ∧ (t.df
    n).cmd.shadow = (s.df n).cmd.shadow ∧ ∀ ch < 640, (t.df n).word (DF.AFE.CH.addr ch) = (s.df n).word (DF.AFE.CH.addr ch)) ∧
  (∀ (n : Fin 64) (f : FrameHdr) (a : Nat) (vs : List Word) (s : State), f.k = 1 + (vs.length + 1) / 2 → f.identity < 4096 → f.owner < 16 → ((s.df
    n).cmd.last.filter fun x => x.1 == f.identity) = none → (s.df n).cmd.held = [] → (s.df n).cmd.waiting = none → (s.df n).fld DF.PAIR.EPOCH.VALID =
    1 → f.epoch = (s.df n).fld DF.PAIR.EPOCH.EPOCH → 1 ≤ vs.length → vs.length ≤ 32 → a < 65536 → dfMapped a vs.length → (((s.df n).pump).noteCmd
    f.identity opWriteBlock).blockStatus a 0 vs = none → (s.df n).fld DF.CMD.LOCK.HELD = 0 → Ends (.ibastWriteBlock n f a vs) s fun t => (t.df
    n).cmd.last = some (f.identity, replyRecs f.identity 0 [0]) ∧ (t.df n).fld DF.CMD.LAST.STATUS = 0 ∧ ∀ y < 65536, y ≠ DF.CMD.LAST.addr → (t.df
    n).word y = ((((s.df n).pump).noteCmd f.identity opWriteBlock).putRegs a vs).word y) ∧
  (∀ (n : Fin 64) (f : FrameHdr) (a : Nat) (w : Word) (s : State), f.k = 1 → f.identity < 4096 → f.owner < 16 → ((s.df n).cmd.last.filter fun x => x.1
    == f.identity) = none → (s.df n).cmd.held = [] → (s.df n).cmd.waiting = none → ((s.df n).fld DF.PAIR.EPOCH.VALID = 0 ∨ (s.df n).fld
    DF.PAIR.EPOCH.EPOCH ≠ f.epoch % 65536) → Ends (.ibastWrite n f a w) s fun t => (t.df n).cmd.last = some (f.identity, replyRecs f.identity 7 [0]) ∧
    (t.df n).fld DF.CMD.LAST.STATUS = 7 ∧ (t.df n).fld DF.PAIR.REFUSED.COUNT = satAdd 32 ((s.df n).fld DF.PAIR.REFUSED.COUNT) 1 ∧ ∀ ch < 640, (t.df
    n).word (DF.AFE.CH.addr ch) = (s.df n).word (DF.AFE.CH.addr ch)) ∧
  ∀ (n : Fin 64) (f : FrameHdr) (a : Nat) (w : Word) (ws : List Rec) (s : State), f.identity < 4096 → (s.df n).cmd.last = some (f.identity, ws) → (s.df
    n).cmd.held = [] → (s.df n).cmd.waiting = none → Ends (.ibastWrite n f a w) s fun t => (t.df n).regs = (s.df n).regs ∧ (t.df n).cmd.last = (s.df
    n).cmd.last ∧ (t.df n).eff = (s.df n).eff ∧ (t.df n).cmd.shadow = (s.df n).cmd.shadow

/-- R418 to R421: LOCK takes or renews the lock for its owner with a lease of 16 and is refused with LOCKED while another holds it; COMMIT of the
holder waits for the boundary and renews the lease, and of another is refused with NO_LOCK; ABANDON discards the shadow, answers its entries and
releases the lock. R362, R421: TAKE of a higher epoch is adopted, answers the old one and releases the lock; another is refused with NOT_ACTIVE. R417,
R440, R441: ARM, DISARM, DORMANT and WAKE ask for their state in the states that allow it and answer STATE in others; SLEEP is accepted in DORMANT
alone; SYNC waits for the boundary, ECHO for its stamps. R57, R158, R417: INJECT arms the slots it names, LINK_STEP is remembered for the boundary,
HK_INJECT joins the queue. Model's choices: log entries 15, 38. -/
def Obligations.IbastLockEpochAndStates : Prop :=
  (∀ (n : Fin 64) (f : FrameHdr) (s : State), f.k = 0 → f.identity < 4096 → f.owner < 16 → ((s.df n).cmd.last.filter fun x => x.1 == f.identity) = none
    → (s.df n).cmd.held = [] → (s.df n).cmd.waiting = none → (s.df n).fld DF.PAIR.EPOCH.VALID = 1 → f.epoch = (s.df n).fld DF.PAIR.EPOCH.EPOCH →
    ((s.df n).fld DF.CMD.LOCK.HELD = 0 ∨ (s.df n).fld DF.CMD.LOCK.OWNER = f.owner) → Ends (.lock n f) s fun t => (t.df n).cmd.last = some (f.identity,
    replyRecs f.identity 0 [0]) ∧ (t.df n).fld DF.CMD.LAST.STATUS = 0 ∧ (t.df n).fld DF.CMD.LAST.ID = f.identity ∧ (t.df n).fld DF.CMD.ACCEPTED.COUNT
    = satAdd 32 ((s.df n).fld DF.CMD.ACCEPTED.COUNT) 1 ∧ (t.df n).fld DF.CMD.LOCK.HELD = 1 ∧ (t.df n).fld DF.CMD.LOCK.OWNER = f.owner ∧ (t.df n).fld
    DF.CMD.LOCK.LEASE = 16 ∧ (t.df n).cmd.shadow = (s.df n).cmd.shadow) ∧
  (∀ (n : Fin 64) (f : FrameHdr) (s : State), f.k = 0 → f.identity < 4096 → f.owner < 16 → ((s.df n).cmd.last.filter fun x => x.1 == f.identity) = none
    → (s.df n).cmd.held = [] → (s.df n).cmd.waiting = none → (s.df n).fld DF.PAIR.EPOCH.VALID = 1 → f.epoch = (s.df n).fld DF.PAIR.EPOCH.EPOCH → (s.df
    n).fld DF.CMD.LOCK.HELD = 1 → (s.df n).fld DF.CMD.LOCK.OWNER ≠ f.owner → Ends (.lock n f) s fun t => (t.df n).cmd.last = some (f.identity,
    replyRecs f.identity 6 [0]) ∧ (t.df n).fld DF.CMD.LAST.STATUS = 6 ∧ (t.df n).word DF.CMD.LOCK.addr = (s.df n).word DF.CMD.LOCK.addr ∧ (t.df
    n).cmd.shadow = (s.df n).cmd.shadow) ∧
  (∀ (n : Fin 64) (f : FrameHdr) (s : State), f.k = 0 → f.identity < 4096 → f.owner < 16 → ((s.df n).cmd.last.filter fun x => x.1 == f.identity) = none
    → (s.df n).cmd.held = [] → (s.df n).cmd.waiting = none → (s.df n).fld DF.PAIR.EPOCH.VALID = 1 → f.epoch = (s.df n).fld DF.PAIR.EPOCH.EPOCH → (s.df
    n).holds f.owner → Ends (.commit n f) s fun t => (t.df n).cmd.commit = some (f.identity, false) ∧ (t.df n).fld DF.CMD.LOCK.LEASE = 16 ∧ (t.df
    n).cmd.last = some (f.identity, []) ∧ (t.df n).cmd.shadow = (s.df n).cmd.shadow) ∧
  (∀ (n : Fin 64) (f : FrameHdr) (s : State), f.k = 0 → f.identity < 4096 → f.owner < 16 → ((s.df n).cmd.last.filter fun x => x.1 == f.identity) = none
    → (s.df n).cmd.held = [] → (s.df n).cmd.waiting = none → (s.df n).fld DF.PAIR.EPOCH.VALID = 1 → f.epoch = (s.df n).fld DF.PAIR.EPOCH.EPOCH → (s.df
    n).holds f.owner = false → Ends (.commit n f) s fun t => (t.df n).cmd.last = some (f.identity, replyRecs f.identity 17 [0]) ∧ (t.df n).fld
    DF.CMD.LAST.STATUS = 17 ∧ (t.df n).cmd.commit = (s.df n).cmd.commit) ∧
  (∀ (n : Fin 64) (f : FrameHdr) (s : State), f.k = 0 → f.identity < 4096 → f.owner < 16 → ((s.df n).cmd.last.filter fun x => x.1 == f.identity) = none
    → (s.df n).cmd.held = [] → (s.df n).cmd.waiting = none → (s.df n).fld DF.PAIR.EPOCH.VALID = 1 → f.epoch = (s.df n).fld DF.PAIR.EPOCH.EPOCH → (s.df
    n).holds f.owner → Ends (.abandon n f) s fun t => (t.df n).cmd.last = some (f.identity, replyRecs f.identity 0 [BitVec.ofNat 32 (s.df
    n).cmd.shadow.length]) ∧ (t.df n).fld DF.CMD.LAST.STATUS = 0 ∧ (t.df n).fld DF.CMD.LOCK.HELD = 0 ∧ (t.df n).fld DF.CMD.LOCK.OWNER = 0 ∧ (t.df
    n).fld DF.CMD.LOCK.LEASE = 0 ∧ (t.df n).cmd.shadow = []) ∧
  (∀ (n : Fin 64) (f : FrameHdr) (dd : Fin 2) (s : State), f.k = 0 → f.identity < 4096 → f.owner < 16 → ((s.df n).cmd.last.filter fun x => x.1 ==
    f.identity) = none → (s.df n).cmd.held = [] → (s.df n).cmd.waiting = none → f.epoch < 65536 → ((s.df n).fld DF.PAIR.EPOCH.VALID = 0 ∨ epochHigher
    f.epoch ((s.df n).fld DF.PAIR.EPOCH.EPOCH)) → (s.df n).source = dd → Ends (.take n f dd) s fun t => (t.df n).cmd.last = some (f.identity,
    replyRecs f.identity 0 [BitVec.ofNat 32 ((s.df n).fld DF.PAIR.EPOCH.EPOCH + 65536 * (s.df n).fld DF.PAIR.EPOCH.VALID)]) ∧ (t.df n).fld
    DF.CMD.LAST.STATUS = 0 ∧ (t.df n).fld DF.PAIR.EPOCH.EPOCH = f.epoch ∧ (t.df n).fld DF.PAIR.EPOCH.VALID = 1 ∧ (t.df n).fld DF.PAIR.TAKES.COUNT =
    satAdd 16 ((s.df n).fld DF.PAIR.TAKES.COUNT) 1 ∧ (t.df n).fld DF.CMD.LOCK.HELD = 0 ∧ (t.df n).cmd.shadow = [] ∧ (t.df n).bt.taken) ∧
  (∀ (n : Fin 64) (f : FrameHdr) (dd : Fin 2) (s : State), f.k = 0 → f.identity < 4096 → f.owner < 16 → ((s.df n).cmd.last.filter fun x => x.1 ==
    f.identity) = none → (s.df n).cmd.held = [] → (s.df n).cmd.waiting = none → f.epoch < 65536 → (s.df n).fld DF.PAIR.EPOCH.VALID = 1 → epochHigher
    f.epoch ((s.df n).fld DF.PAIR.EPOCH.EPOCH) = false → Ends (.take n f dd) s fun t => (t.df n).cmd.last = some (f.identity, replyRecs f.identity 7
    [0]) ∧ (t.df n).fld DF.CMD.LAST.STATUS = 7 ∧ (t.df n).word DF.PAIR.EPOCH.addr = (s.df n).word DF.PAIR.EPOCH.addr ∧ (t.df n).fld
    DF.PAIR.REFUSED.COUNT = satAdd 32 ((s.df n).fld DF.PAIR.REFUSED.COUNT) 1 ∧ (t.df n).cmd.shadow = (s.df n).cmd.shadow) ∧
  (∀ (n : Fin 64) (f : FrameHdr) (s : State), f.k = 0 → f.identity < 4096 → f.owner < 16 → ((s.df n).cmd.last.filter fun x => x.1 == f.identity) = none
    → (s.df n).cmd.held = [] → (s.df n).cmd.waiting = none → (s.df n).fld DF.PAIR.EPOCH.VALID = 1 → f.epoch = (s.df n).fld DF.PAIR.EPOCH.EPOCH → Ends
    (.sync n f) s fun t => (t.df n).cmd.sync = some f.identity ∧ (t.df n).cmd.last = some (f.identity, []) ∧ (t.df n).fld DF.CMD.LAST.STATUS = 0) ∧
  (∀ (n : Fin 64) (f : FrameHdr) (s : State), f.k = 0 → f.identity < 4096 → f.owner < 16 → ((s.df n).cmd.last.filter fun x => x.1 == f.identity) = none
    → (s.df n).cmd.held = [] → (s.df n).cmd.waiting = none → (s.df n).fld DF.PAIR.EPOCH.VALID = 1 → f.epoch = (s.df n).fld DF.PAIR.EPOCH.EPOCH → (s.df
    n).state = dfAlign → Ends (.arm n f) s fun t => (t.df n).cmd.last = some (f.identity, replyRecs f.identity 0 [0]) ∧ (t.df n).fld
    DF.CMD.LAST.STATUS = 0 ∧ (t.df n).cmd.goTo = some dfRun ∧ (t.df n).state = dfAlign) ∧
  (∀ (n : Fin 64) (f : FrameHdr) (s : State), f.k = 0 → f.identity < 4096 → f.owner < 16 → ((s.df n).cmd.last.filter fun x => x.1 == f.identity) = none
    → (s.df n).cmd.held = [] → (s.df n).cmd.waiting = none → (s.df n).fld DF.PAIR.EPOCH.VALID = 1 → f.epoch = (s.df n).fld DF.PAIR.EPOCH.EPOCH → (s.df
    n).state ≠ dfAlign → Ends (.arm n f) s fun t => (t.df n).cmd.last = some (f.identity, replyRecs f.identity 18 [0]) ∧ (t.df n).fld
    DF.CMD.LAST.STATUS = 18 ∧ (t.df n).cmd.goTo = (s.df n).cmd.goTo) ∧
  (∀ (n : Fin 64) (f : FrameHdr) (s : State), f.k = 0 → f.identity < 4096 → f.owner < 16 → ((s.df n).cmd.last.filter fun x => x.1 == f.identity) = none
    → (s.df n).cmd.held = [] → (s.df n).cmd.waiting = none → (s.df n).fld DF.PAIR.EPOCH.VALID = 1 → f.epoch = (s.df n).fld DF.PAIR.EPOCH.EPOCH → (s.df
    n).state = dfRun → Ends (.disarm n f) s fun t => (t.df n).cmd.last = some (f.identity, replyRecs f.identity 0 [0]) ∧ (t.df n).fld
    DF.CMD.LAST.STATUS = 0 ∧ (t.df n).cmd.goTo = some dfAlign ∧ (t.df n).state = dfRun) ∧
  (∀ (n : Fin 64) (f : FrameHdr) (s : State), f.k = 0 → f.identity < 4096 → f.owner < 16 → ((s.df n).cmd.last.filter fun x => x.1 == f.identity) = none
    → (s.df n).cmd.held = [] → (s.df n).cmd.waiting = none → (s.df n).fld DF.PAIR.EPOCH.VALID = 1 → f.epoch = (s.df n).fld DF.PAIR.EPOCH.EPOCH →
    ((s.df n).state = dfAlign ∨ (s.df n).state = dfRun) → Ends (.dormant n f) s fun t => (t.df n).cmd.last = some (f.identity, replyRecs f.identity 0
    [0]) ∧ (t.df n).fld DF.CMD.LAST.STATUS = 0 ∧ (t.df n).cmd.goTo = some dfDormant) ∧
  (∀ (n : Fin 64) (f : FrameHdr) (s : State), f.k = 0 → f.identity < 4096 → f.owner < 16 → ((s.df n).cmd.last.filter fun x => x.1 == f.identity) = none
    → (s.df n).cmd.held = [] → (s.df n).cmd.waiting = none → (s.df n).fld DF.PAIR.EPOCH.VALID = 1 → f.epoch = (s.df n).fld DF.PAIR.EPOCH.EPOCH → (s.df
    n).state = dfDormant → Ends (.wake n f) s fun t => (t.df n).cmd.last = some (f.identity, replyRecs f.identity 0 [0]) ∧ (t.df n).fld
    DF.CMD.LAST.STATUS = 0 ∧ (t.df n).cmd.goTo = some (s.df n).bt.before) ∧
  (∀ (n : Fin 64) (f : FrameHdr) (s : State), f.k = 0 → f.identity < 4096 → f.owner < 16 → ((s.df n).cmd.last.filter fun x => x.1 == f.identity) = none
    → (s.df n).cmd.held = [] → (s.df n).cmd.waiting = none → (s.df n).fld DF.PAIR.EPOCH.VALID = 1 → f.epoch = (s.df n).fld DF.PAIR.EPOCH.EPOCH → (s.df
    n).state = dfDormant → Ends (.sleep n f) s fun t => (t.df n).cmd.last = some (f.identity, replyRecs f.identity 0 [0]) ∧ (t.df n).fld
    DF.CMD.LAST.STATUS = 0 ∧ (t.df n).cmd.sleepOk) ∧
  (∀ (n : Fin 64) (f : FrameHdr) (s : State), f.k = 0 → f.identity < 4096 → f.owner < 16 → ((s.df n).cmd.last.filter fun x => x.1 == f.identity) = none
    → (s.df n).cmd.held = [] → (s.df n).cmd.waiting = none → (s.df n).fld DF.PAIR.EPOCH.VALID = 1 → f.epoch = (s.df n).fld DF.PAIR.EPOCH.EPOCH → (s.df
    n).state ≠ dfDormant → Ends (.sleep n f) s fun t => (t.df n).cmd.last = some (f.identity, replyRecs f.identity 18 [0]) ∧ (t.df n).fld
    DF.CMD.LAST.STATUS = 18 ∧ (t.df n).cmd.sleepOk = (s.df n).cmd.sleepOk) ∧
  (∀ (n : Fin 64) (f : FrameHdr) (x y : Nat) (s : State), f.k = 1 → f.identity < 4096 → f.owner < 16 → ((s.df n).cmd.last.filter fun x => x.1 ==
    f.identity) = none → (s.df n).cmd.held = [] → (s.df n).cmd.waiting = none → (s.df n).fld DF.PAIR.EPOCH.VALID = 1 → f.epoch = (s.df n).fld
    DF.PAIR.EPOCH.EPOCH → x < 16 → y < 16 → x &&& y = 0 → (s.df n).fld DF.CMD.LOCK.HELD = 0 → Ends (.inject n f x y) s fun t => (t.df n).cmd.last =
    some (f.identity, replyRecs f.identity 0 [0]) ∧ (t.df n).fld DF.CMD.LAST.STATUS = 0 ∧ ∀ q < 4, (x.testBit q → (t.df n).slotArmed q ∧ (FMap.get {}
    (t.df n).slots q).next = (s.df n).frame + 1 ∧ (FMap.get {} (t.df n).slots q).stopReq = false) ∧ (y.testBit q → (FMap.get {} (t.df n).slots
    q).stopReq ∧ (t.df n).slotArmed q = (s.df n).slotArmed q)) ∧
  (∀ (n : Fin 64) (f : FrameHdr) (a b : Word) (s : State), f.k = 2 → f.identity < 4096 → f.owner < 16 → ((s.df n).cmd.last.filter fun x => x.1 ==
    f.identity) = none → (s.df n).cmd.held = [] → (s.df n).cmd.waiting = none → (s.df n).fld DF.PAIR.EPOCH.VALID = 1 → f.epoch = (s.df n).fld
    DF.PAIR.EPOCH.EPOCH → (s.df n).fld DF.CMD.LOCK.HELD = 0 → entryABad a ((s.df n).fld DF.HK.CTRL.LP == 1) = false → entryBBad b = false → (s.df
    n).hk.queue.length < 4 → Ends (.hkInject n f a b) s fun t => (t.df n).cmd.last = some (f.identity, replyRecs f.identity 0 [BitVec.ofNat 32 (s.df
    n).hk.qNext]) ∧ (t.df n).fld DF.CMD.LAST.STATUS = 0 ∧ (t.df n).hk.queue = (s.df n).hk.queue ++ [((s.df n).hk.qNext, ⟨a, b⟩)] ∧ (t.df n).hk.qNext =
    ((s.df n).hk.qNext + 1) % 4) ∧
  (∀ (n : Fin 64) (f : FrameHdr) (x y : Nat) (re : Bool) (s : State), f.k = 1 → f.identity < 4096 → f.owner < 16 → ((s.df n).cmd.last.filter fun x =>
    x.1 == f.identity) = none → (s.df n).cmd.held = [] → (s.df n).cmd.waiting = none → (s.df n).fld DF.PAIR.EPOCH.VALID = 1 → f.epoch = (s.df n).fld
    DF.PAIR.EPOCH.EPOCH → x < 16 → y < 4 → stepCoversBoth x = false → (s.df n).fld DF.CMD.LOCK.HELD = 0 → Ends (.linkStep n f x y re) s fun t => (t.df
    n).cmd.last = some (f.identity, replyRecs f.identity 0 [0]) ∧ (t.df n).fld DF.CMD.LAST.STATUS = 0 ∧ (t.df n).cmd.step = some (x, y, re)) ∧
  (∀ (n : Fin 64) (f : FrameHdr) (x y : Nat) (re : Bool) (s : State), f.k = 1 → f.identity < 4096 → f.owner < 16 → ((s.df n).cmd.last.filter fun x =>
    x.1 == f.identity) = none → (s.df n).cmd.held = [] → (s.df n).cmd.waiting = none → (s.df n).fld DF.PAIR.EPOCH.VALID = 1 → f.epoch = (s.df n).fld
    DF.PAIR.EPOCH.EPOCH → x < 16 → y < 4 → stepCoversBoth x → (s.df n).fld DF.CMD.LOCK.HELD = 0 → Ends (.linkStep n f x y re) s fun t => (t.df
    n).cmd.last = some (f.identity, replyRecs f.identity 3 [0]) ∧ (t.df n).fld DF.CMD.LAST.STATUS = 3 ∧ (t.df n).cmd.step = (s.df n).cmd.step) ∧
  ∀ (n : Fin 64) (f : FrameHdr) (s : State), f.k = 0 → f.identity < 4096 → f.owner < 16 → ((s.df n).cmd.last.filter fun x => x.1 == f.identity) = none →
    (s.df n).cmd.held = [] → (s.df n).cmd.waiting = none → Ends (.echo n f) s fun t => (t.df n).tim.echo.map (fun e => (e.identity, e.since, e.frame,
    e.answered)) = some (f.identity, (s.df n).frame, none, false) ∧ (t.df n).fld DF.TIME.ECHO.VALID = 0 ∧ (t.df n).cmd.last = some (f.identity, [])

/-- R12, R14, R475: a write to an address outside the map answers BAD_PARAM and changes nothing, as does one that a check refuses; at a reserved
offset it answers OK and changes nothing; an accepted write of a plain register stores its word and no other. R14: an RO register keeps its value, a
W1C bit is cleared by a 1 alone. R47: a write of a staged field of a DF640 leaves the value in force. R17: a read of an RC register answers its count
and clears it, and changes no other register. R477: a read of a _LO register latches its _HI register for its requester alone, and the _HI register
reads as that latch. Model's choices: log entries 16, 17. -/
def Obligations.RegisterAccess : Prop :=
  (∀ (u : DcId) (r a : Nat) (w : Word) (s : State), dcMapped a 1 = false → Ends (.registerWrite (.dc u) r a w) s fun t => (t.dc u) = (s.dc u) ∧ t.result
    = (3, 0)) ∧
  (∀ (u : DcId) (r a : Nat) (w : Word) (s : State), dcMapped a 1 → ((a < 0x10000 ∨ 0x11000 ≤ a)) → (s.dc u).writeStatus a w ≠ 0 → Ends (.registerWrite
    (.dc u) r a w) s fun t => (t.dc u) = (s.dc u) ∧ t.result = ((s.dc u).writeStatus a w, 0)) ∧
  (∀ (u : DcId) (r a : Nat) (w : Word) (s : State), dcMapped a 1 → ((a < 0x10000 ∨ 0x11000 ≤ a)) → findReg dcTable a = none → inWindow a = false → Ends
    (.registerWrite (.dc u) r a w) s fun t => (t.dc u) = (s.dc u) ∧ t.result = (0, 0)) ∧
  (∀ (u : DcId) (r : Nat) (w : Word) (s : State), Ends (.registerWrite (.dc u) r DC.ABS.SVC_IP.addr w) s fun t => (t.dc u).word DC.ABS.SVC_IP.addr = w ∧
    t.result = (0, 0) ∧ (s.dc u).wordsKept (t.dc u) [DC.ABS.SVC_IP.addr]) ∧
  (∀ (u : DcId) (r : Nat) (w : Word) (s : State), Ends (.registerWrite (.dc u) r DC.BOOT.IMAGE_VER.addr w) s fun t => (∀ a, (t.dc u).word a = (s.dc
    u).word a) ∧ t.result = (0, 0)) ∧
  (∀ (n : Fin 64) (r : Nat) (k : Fin 8) (w : Word) (s : State), ((s.df n).writeStatus (DF.REED.ANCHOR.addr k) w = 0) → Ends (.registerWrite (.df n) r
    (DF.REED.ANCHOR.addr k) w) s fun t => (t.df n).fld (DF.REED.ANCHOR.UNLOCK k) = (if fieldOf w 6 1 = 1 then 0 else (s.df n).fld
    (DF.REED.ANCHOR.UNLOCK k)) ∧ (t.df n).fld (DF.REED.ANCHOR.LOCKED k) = (s.df n).fld (DF.REED.ANCHOR.LOCKED k) ∧ (t.df n).fld (DF.REED.ANCHOR.SRC k)
    = fieldOf w 0 1 ∧ (t.df n).inForce (DF.REED.ANCHOR.SRC k) = (s.df n).inForce (DF.REED.ANCHOR.SRC k) ∧ (t.df n).pend ∧ t.result = (0, 0)) ∧
  (∀ (n : Fin 64) (r : Nat) (ch : Fin 640) (w : Word) (s : State), (s.df n).writeStatus (DF.AFE.CH.addr ch) w = 0 → Ends (.registerWrite (.df n) r
    (DF.AFE.CH.addr ch) w) s fun t => (t.df n).fld (DF.AFE.CH.MODE ch) = fieldOf w 0 2 ∧ (t.df n).fld (DF.AFE.CH.T_TRIM ch) = fieldOf w 5 6 ∧ (t.df
    n).eff = (s.df n).eff ∧ (t.df n).pend ∧ t.result = (0, 0) ∧ (s.df n).wordsKept (t.df n) [DF.AFE.CH.addr ch]) ∧
  (∀ (n : Fin 64) (r a : Nat) (w : Word) (s : State), dfMapped a 1 → (s.df n).writeStatus a w ≠ 0 → Ends (.registerWrite (.df n) r a w) s fun t => (t.df
    n) = (s.df n) ∧ t.result = ((s.df n).writeStatus a w, 0)) ∧
  (∀ (n : Fin 64) (r : Nat) (s : State), Ends (.rcRead (.df n) r DF.CMD.ACCEPTED.addr) s fun t => (t.df n).fld DF.CMD.ACCEPTED.COUNT = 0 ∧ t.result =
    (0, (s.df n).word DF.CMD.ACCEPTED.addr) ∧ (s.df n).wordsKept (t.df n) [DF.CMD.ACCEPTED.addr]) ∧
  (∀ (u : DcId) (r : Nat) (s : State), r ≠ 9 → Ends (.rcRead (.dc u) r DC.BOOT.DROOP_N2.addr) s fun t => (t.dc u).fld DC.BOOT.DROOP_N2.COUNT = 0 ∧
    t.result = (0, (s.dc u).word DC.BOOT.DROOP_N2.addr) ∧ (s.dc u).wordsKept (t.dc u) [DC.BOOT.DROOP_N2.addr]) ∧
  (∀ (n : Fin 64) (r : Nat) (s : State), Ends (.loReadLatch (.df n) r DF.TUS.STATE_LO.addr) s fun t => t.result = (0, BitVec.ofNat 32 (s.df
    n).tus.state) ∧ FMap.get 0 (t.df n).latch (latchKey r DF.TUS.STATE_HI.addr) = BitVec.ofNat 32 ((s.df n).tus.state / 2 ^ 32) ∧ (∀ y, y ≠ latchKey r
    DF.TUS.STATE_HI.addr → FMap.get 0 (t.df n).latch y = FMap.get 0 (s.df n).latch y) ∧ ∀ a, (t.df n).word a = (s.df n).word a) ∧
  (∀ (n : Fin 64) (r : Nat) (s : State), Ends (.rcRead (.df n) r DF.TUS.STATE_HI.addr) s fun t => t.result = (0, FMap.get 0 (s.df n).latch (latchKey r
    DF.TUS.STATE_HI.addr)) ∧ ∀ a, (t.df n).word a = (s.df n).word a) ∧
  (∀ (u : DcId) (r : Nat) (s : State), r ≠ 9 → Ends (.loReadLatch (.dc u) r DC.TIME.NOW_LO.addr) s fun t => t.result = (0, BitVec.ofNat 32 (s.dc u).now)
    ∧ FMap.get 0 (t.dc u).latch (dcLatchKey r (DC.TIME.NOW_HI.addr)) = BitVec.ofNat 32 ((s.dc u).now / 2 ^ 32) ∧ (t.dc u).now = (s.dc u).now ∧ ∀ a,
    (t.dc u).word a = (s.dc u).word a) ∧
  (∀ (u : DcId) (r : Nat) (s : State), r ≠ 9 → Ends (.loReadLatch (.dc u) r DC.TIME.NOW_HI.addr) s fun t => t.result = (0, FMap.get 0 (s.dc u).latch
    (dcLatchKey r DC.TIME.NOW_HI.addr)) ∧ ∀ a, (t.dc u).word a = (s.dc u).word a) ∧
  (∀ (u : DcId) (r a : Nat) (w : Word) (s : State), dcMapped a 1 → elemOf (DC.IBR.CFG.addr 0) 64 64 a = none → (s.dc u).writeStatus a w = 0 → Ends
    (.registerWrite (.dc u) r a w) s fun t => (t.dc u) = (s.dc u).putReg a w ∧ t.result = (0, 0)) ∧
  (∀ (n : Fin 64) (r a : Nat) (w : Word) (s : State), dfMapped a 1 → (s.df n).writeStatus a w = 0 → Ends (.registerWrite (.df n) r a w) s fun t => (t.df
    n) = (s.df n).putReg a w ∧ t.result = (0, 0)) ∧
  (∀ (u : DcId) (r a : Nat) (x : RegDesc) (s : State), dcMapped a 1 → (s.dc u).readPoison a = false → findReg dcTable a = some x → dcIsLatched a = false
    → a ≠ DC.TIME.TXQ_HEAD.addr → r ≠ 9 → Ends (.rcRead (.dc u) r a) s fun t => t.result = (0, x.readable ((s.dc u).shown a)) ∧ (t.dc u).word a =
    x.cleared ((s.dc u).word a)) ∧
  (∀ (n : Fin 64) (r a : Nat) (x : RegDesc) (s : State), dfMapped a 1 → findReg dfTable a = some x → dfIsLatched a = false → a ≠ DF.HIT.CQ_PEAK.addr →
    Ends (.rcRead (.df n) r a) s fun t => t.result = (0, x.readable ((s.df n).shown a)) ∧ (t.df n).word a = x.cleared ((s.df n).word a)) ∧
  (∀ (u : DcId) (r a : Nat) (x : RegDesc) (s : State), dcMapped a 1 → (s.dc u).readPoison a = false → findReg dcTable a = some x → dcIsLatched a = false
    → latchingLo a → a ≠ DC.TIME.TXQ_HEAD.addr → Ends (.loReadLatch (.dc u) r a) s fun t => t.result = (0, x.readable ((s.dc u).shown a)) ∧ FMap.get 0
    (t.dc u).latch (dcLatchKey r (a + 4)) = (s.dc u).shown (a + 4)) ∧
  ∀ (n : Fin 64) (r a h_ : Nat) (x : RegDesc) (s : State), dfMapped a 1 → findReg dfTable a = some x → dfLatched a = some h_ → dfIsLatched a = false →
    Ends (.loReadLatch (.df n) r a) s fun t => t.result = (0, x.readable ((s.df n).shown a)) ∧ FMap.get 0 (t.df n).latch (latchKey r h_) = (s.df
    n).shown h_

/-- R241, R307: a write of EN = 1 starts the trigger engine while the store is enabled and ready, and is refused with LOCKED otherwise; a write of 0
ends it; a pattern is enabled with the state of a newly enabled pattern. R277: LOAD opens a mask and closes it with its BAD bit cleared. R289: FLUSH
ends the block of its stream. R292 to R294: START loads the initial value of a Fold context, a data write folds its bytes in network order, a write of
VALUE sets the running value, and a context that hardware uses is BUSY. R307: the store is enabled with its settings. R339: LOG_ACK acknowledges an
entry. R470: SNAP asks for a snapshot. Model's choices: log entries 16, 72. -/
def Obligations.EngineRegisters : Prop :=
  (∀ (u : DcId) (s : State), (s.dc u).fld DC.TRG.CTRL.EN = 0 → (s.dc u).fld DC.PEAT.CTRL.EN = 1 → (s.dc u).fld DC.PEAT.STATUS.READY ≠ 0 → Ends
    (.engineEn u true) s fun t => (t.dc u).fld DC.TRG.CTRL.EN = 1 ∧ t.result = (0, 0) ∧ (t.dc u).trg.runs = [] ∧ (t.dc u).trg.group = (s.dc
    u).firstGroup ∧ (t.dc u).trg.fromSlice = groupSlices * (s.dc u).firstGroup ∧ (t.dc u).trg.undecided = []) ∧
  (∀ (u : DcId) (s : State), ((s.dc u).fld DC.PEAT.CTRL.EN = 0 ∨ (s.dc u).fld DC.PEAT.STATUS.READY = 0) → Ends (.engineEn u true) s fun t => (t.dc u) =
    (s.dc u) ∧ t.result = (6, 0)) ∧
  (∀ (u : DcId) (s : State), (s.dc u).fld DC.TRG.CTRL.EN = 1 → Ends (.engineEn u false) s fun t => (t.dc u).fld DC.TRG.CTRL.EN = 0 ∧ t.result = (0, 0) ∧
    (t.dc u).trg.runs = [] ∧ (t.dc u).trg.changes = (s.dc u).trg.changes) ∧
  (∀ (u : DcId) (j : Fin 512) (w : Word) (s : State), (s.dc u).fld (DC.TRG.PCTRL.EN j) = 0 → fieldOf w 8 1 = 1 → (s.dc u).care j ≠ 0 → Ends (.patternEn
    u j w) s fun t => (t.dc u).fld (DC.TRG.PCTRL.EN j) = 1 ∧ (t.dc u).fld (DC.TRG.PCTRL.PERSIST j) = fieldOf w 0 8 ∧ (t.dc u).fld
    (DC.TRG.PCTRL.STALE_BLOCK j) = fieldOf w 9 1 ∧ (t.dc u).run j = { fresh := true } ∧ t.result = (0, 0)) ∧
  (∀ (u : DcId) (j : Fin 512) (w : Word) (s : State), (s.dc u).fld (DC.TRG.PCTRL.EN j) = 0 → fieldOf w 8 1 = 1 → (s.dc u).care j = 0 → Ends (.patternEn
    u j w) s fun t => (t.dc u) = (s.dc u) ∧ t.result = (3, 0)) ∧
  (∀ (u : DcId) (m : Fin 8) (s : State), ((s.dc u).fld DC.QLF.MASK_CTRL.LOAD).testBit m = false → Ends (.maskLoad u m true) s fun t => (t.dc u).fld
    DC.QLF.MASK_CTRL.LOAD = (s.dc u).fld DC.QLF.MASK_CTRL.LOAD ||| 2 ^ m.val ∧ (t.dc u).fld DC.QLF.MASK_CTRL.BAD = (s.dc u).fld DC.QLF.MASK_CTRL.BAD ∧
    t.result = (0, 0)) ∧
  (∀ (u : DcId) (m : Fin 8) (s : State), ((s.dc u).fld DC.QLF.MASK_CTRL.LOAD).testBit m → Ends (.maskLoad u m false) s fun t => ((t.dc u).fld
    DC.QLF.MASK_CTRL.LOAD).testBit m = false ∧ ((t.dc u).fld DC.QLF.MASK_CTRL.BAD).testBit m = false ∧ (∀ y < 8, y ≠ m.val → ((t.dc u).fld
    DC.QLF.MASK_CTRL.LOAD).testBit y = ((s.dc u).fld DC.QLF.MASK_CTRL.LOAD).testBit y) ∧ t.result = (0, 0)) ∧
  (∀ (u : DcId) (s : State), Ends (.lzdFlush u 0) s fun t => (t.dc u).lzd 0 = ((s.dc u).lzd 0).endBlock ∧ (t.dc u).lzd 1 = (s.dc u).lzd 1 ∧ t.result =
    (0, 0)) ∧
  (∀ (u : DcId) (s : State), Ends (.lzdFlush u 1) s fun t => (t.dc u).lzd 1 = ((s.dc u).lzd 1).endBlock ∧ (t.dc u).lzd 0 = (s.dc u).lzd 0 ∧ t.result =
    (0, 0)) ∧
  (∀ (u : DcId) (x : Fin 16) (s : State), (s.dc u).foldBusy x = false → (s.dc u).fld (DC.FOLD.CFG.FOLDLEN x) = 0 → Ends (.foldStart u x) s fun t =>
    (t.dc u).foldValue x = (s.dc u).foldInit x ∧ t.result = (0, 0)) ∧
  (∀ (u : DcId) (x : Fin 16) (w : Word) (s : State), (s.dc u).foldBusy x = false → Ends (.foldData64 u x w) s fun t => (t.dc u).foldValue x = ((bytesBE
    4 ((s.dc u).word (DC.FOLD.DATA_HI.addr x)).toNat ++ bytesBE 4 w.toNat).foldl (foldByte ((s.dc u).foldW x) (foldPoly ((s.dc u).fld
    (DC.FOLD.CFG.POLY x))) ((s.dc u).fld (DC.FOLD.CFG.REFIN x) == 1)) ((s.dc u).foldValue x)) % 2 ^ (s.dc u).foldW x ∧ t.result = (0, 0)) ∧
  (∀ (u : DcId) (x : Fin 16) (w : Word) (s : State), (s.dc u).foldBusy x = false → Ends (.foldData32 u x w) s fun t => (t.dc u).foldValue x = ((bytesBE
    4 w.toNat).foldl (foldByte ((s.dc u).foldW x) (foldPoly ((s.dc u).fld (DC.FOLD.CFG.POLY x))) ((s.dc u).fld (DC.FOLD.CFG.REFIN x) == 1)) ((s.dc
    u).foldValue x)) % 2 ^ (s.dc u).foldW x ∧ t.result = (0, 0)) ∧
  (∀ (u : DcId) (x : Fin 16) (w : Word) (s : State), (s.dc u).foldBusy x = false → Ends (.foldValueWrite u x false w) s fun t => (t.dc u).foldValue x =
    (w.toNat + 2 ^ 32 * (s.dc u).fld (DC.FOLD.VALUE_HI.VALUE x)) % 2 ^ (s.dc u).foldW x ∧ t.result = (0, 0)) ∧
  (∀ (u : DcId) (x : Fin 16) (w : Word) (s : State), (s.dc u).foldBusy x = false → Ends (.foldValueWrite u x true w) s fun t => (t.dc u).foldValue x =
    ((s.dc u).fld (DC.FOLD.VALUE_LO.VALUE x) + 2 ^ 32 * w.toNat) % 2 ^ (s.dc u).foldW x ∧ t.result = (0, 0)) ∧
  (∀ (u : DcId) (x : Fin 16) (w : Word) (s : State), (s.dc u).foldBusy x → Ends (.foldData32 u x w) s fun t => (t.dc u) = (s.dc u) ∧ t.result = (1, 0)) ∧
  (∀ (u : DcId) (w : Word) (s : State), (s.dc u).fld DC.PEAT.CTRL.EN = 0 → (s.dc u).fld DC.PEAT.GEOM.CHAN_FAIL = 0 → fieldOf w 4 6 ≠ 0 → fieldOf w 16 6
    ≠ 0 → fieldOf w 16 6 ≤ 60 → Ends (.peatStoreEn u w) s fun t => (t.dc u).fld DC.PEAT.CTRL.EN = fieldOf w 0 1 ∧ (t.dc u).fld DC.PEAT.CTRL.PSLC =
    fieldOf w 1 1 ∧ (t.dc u).fld DC.PEAT.CTRL.DRAIN = fieldOf w 2 1 ∧ (t.dc u).fld DC.PEAT.CTRL.FLUSH = fieldOf w 4 6 ∧ (t.dc u).fld
    DC.PEAT.CTRL.CP_MIN = fieldOf w 16 6 ∧ t.result = (0, 0)) ∧
  (∀ (u : DcId) (x : Nat) (e : LogEntry) (s : State), x < 1024 → (s.dc u).logAt x = some e → Ends (.logAck u x) s fun t => (t.dc u).logAt x = some
    { e with acked := true } ∧ (∀ y < 1024, y ≠ x → (t.dc u).logAt y = (s.dc u).logAt y) ∧ t.result = (0, 0)) ∧
  ∀ (u : DcId) (s : State), (s.dc u).writeStatus DC.LDG.CTRL.addr (withField ((s.dc u).rwBits DC.LDG.CTRL.addr) 0 1 1) = 0 → Ends (.snap u) s fun t =>
    (t.dc u).ldg.snap ∧ (t.dc u).ldg.tot = (s.dc u).ldg.tot ∧ (t.dc u).ldg.acct = (s.dc u).ldg.acct ∧ t.result = (0, 0)

/-- R12: a write or a read of a DC64 register at an address that is not a multiple of 4 is refused with BAD_PARAM and changes no state, directly and
as the READ, WRITE and WRITE_BLOCK of Absyn carry it out. -/
def Obligations.UnalignedRegisterAccess : Prop :=
  (∀ (u : DcId) (r a : Nat) (w : Word) (s : State), a % 4 ≠ 0 → Ends (.registerWrite (.dc u) r a w) s fun t => (t.dc u) = (s.dc u) ∧ t.result = (3, 0)) ∧
  (∀ (u : DcId) (r a : Nat) (s : State), a % 4 ≠ 0 → Ends (.rcRead (.dc u) r a) s fun t => (t.dc u) = (s.dc u) ∧ t.result = (3, 0)) ∧
  (∀ (u : DcId) (r a : Nat) (s : State), a % 4 ≠ 0 → Ends (.loReadLatch (.dc u) r a) s fun t => (t.dc u) = (s.dc u) ∧ t.result = (3, 0)) ∧
  ∀ (d : Dc) (r a n : Nat) (w : Word) (vs : List Word), a % 4 ≠ 0 → d.busRead r a n = (d, 3, []) ∧ d.busWrite a w = (d, 3) ∧ d.busBlock a vs = (d, 3, 0)

/-- R372: after power-on, brown-out and the soft reset of a DC64 it is STANDBY with pair state ALONE, ISSUE and EPOCH read 0 and no copy is held;
after power-on, brown-out, the pin and the soft reset of a DF640 VALID is 0, and with VALID 0 it accepts a TAKE of any epoch. -/
def Obligations.PairStateAfterReset : Prop :=
  (∀ (u : DcId) (s : State), Ends (.powerOn (.dc u)) s fun t => (t.dc u).role = roleStandby ∧ (t.dc u).pstate = psAlone ∧ (t.dc u).fld DC.TRG.CTRL.ISSUE
    = 0 ∧ (t.dc u).epoch = 0 ∧ (t.dc u).pair.ready = none ∧ (t.dc u).pair.sent = none ∧ (t.dc u).pair.applied = none ∧ (t.dc u).pair.complete = [] ∧
    (t.dc u).pair.got = 0) ∧
  (∀ (u : DcId) (s : State), Ends (.brownOut (.dc u)) s fun t => (t.dc u).role = roleStandby ∧ (t.dc u).pstate = psAlone ∧ (t.dc u).fld
    DC.TRG.CTRL.ISSUE = 0 ∧ (t.dc u).epoch = 0 ∧ (t.dc u).pair.ready = none ∧ (t.dc u).pair.sent = none ∧ (t.dc u).pair.applied = none ∧ (t.dc
    u).pair.complete = [] ∧ (t.dc u).pair.got = 0) ∧
  (∀ (u : DcId) (s : State) (e : Nat), (s.dc u).state ≠ dcPower → (s.dc u).bt.softAt = some e → e ≤ (s.dc u).nextBoundary * frameTicks → Ends
    (.dcFrameBoundary u) s fun t => (t.dc u).role = roleStandby ∧ (t.dc u).pstate = psAlone ∧ (t.dc u).fld DC.TRG.CTRL.ISSUE = 0 ∧ (t.dc u).epoch = 0
    ∧ (t.dc u).pair.ready = none ∧ (t.dc u).pair.sent = none ∧ (t.dc u).pair.applied = none ∧ (t.dc u).pair.complete = [] ∧ (t.dc u).pair.got = 0) ∧
  (∀ (n : Fin 64) (s : State), Ends (.powerOn (.df n)) s fun t => (t.df n).fld DF.PAIR.EPOCH.VALID = 0) ∧
  (∀ (n : Fin 64) (s : State), Ends (.brownOut (.df n)) s fun t => (t.df n).fld DF.PAIR.EPOCH.VALID = 0) ∧
  (∀ (n : Fin 64) (s : State), Ends (.pinReset n) s fun t => (t.df n).fld DF.PAIR.EPOCH.VALID = 0) ∧
  (∀ (n : Fin 64) (v : Bool) (s : State), (s.df n).bt.softIn = some 1 → Ends (.dfFrameBoundary ⟨n, v⟩) s fun t => (t.df n).fld DF.PAIR.EPOCH.VALID = 0) ∧
  ∀ (n : Fin 64) (f : FrameHdr) (dd : Fin 2) (s : State), f.k = 0 → f.identity < 4096 → f.epoch < 65536 → ((s.df n).cmd.last.filter fun x => x.1 ==
    f.identity) = none → (s.df n).cmd.held = [] → (s.df n).cmd.waiting = none → (s.df n).fld DF.PAIR.EPOCH.VALID = 0 → Ends (.take n f dd) s fun t =>
    (t.df n).fld DF.PAIR.EPOCH.EPOCH = f.epoch ∧ (t.df n).fld DF.PAIR.EPOCH.VALID = 1

/-- R135, R153, R155 to R158, on a Causeway lane: a receiver in LOCK that finds markers enters TRAIN, and one that finds none in time fails its rung
into JUDGE; a pass within the error limit is PASS; a decision is remembered; a PASS below rung 3 steps up and at rung 3 runs, a FAIL above rung 0
steps down and at rung 0 is FAULT; STEP and FAULT end in LOCK; the second missed marker in a row takes a lane in RUN to LOCK. R153, R156, on an uplink
lane: a receiver in LOCK whose DF640 sends at the same rung takes both ends to TRAIN when it finds markers; the pass that ends there takes both ends
to JUDGE with the verdict by ERR_MAX. Model's choices: log entries 9, 10, 11, 12. -/
def Obligations.TrainingLadder : Prop :=
  (∀ (u : DcId) (l : Fin 4) (s : State), ((s.dc u).lane l).state = lLock → Ends (.laneLock (.cause u l)) s fun t => ((t.dc u).lane l).state = lTrain ∧
    ((t.dc u).lane l).rung = ((s.dc u).lane l).rung) ∧
  (∀ (u : DcId) (l : Fin 4) (s : State), ((s.dc u).lane l).state = lLock → Ends (.lockTimeout (.cause u l)) s fun t => ((t.dc u).lane l).state = lJudge
    ∧ ((t.dc u).lane l).rx.train.verdict = 2) ∧
  (∀ (u : DcId) (l : Fin 4) (errs : Nat) (ins : Bool) (s : State), ((s.dc u).lane l).state = lTrain → Ends (.trainPassEnd (.cause u l) errs ins) s fun t
    => ((t.dc u).lane l).state = lJudge ∧ ((t.dc u).lane l).rx.train.verdict = (if ins = true ∧ errs = 0 then 1 else 2) ∧ ((t.dc u).lane
    l).rx.train.errors = min errs (2 ^ 32 - 1)) ∧
  (∀ (u : DcId) (l : Fin 4) (word : Rec) (s : State), training ((s.dc u).lane l).state → rb word 48 16 = 0xA7E5 → Ends (.judgeWordAccept (.cause u l)
    word) s fun t => ((t.dc u).lane l) =
    { ((s.dc u).lane l) with rx := { ((s.dc u).lane l).rx with train := { ((s.dc u).lane l).rx.train with decision := rb word 35 4 } } }) ∧
  (∀ (u : DcId) (l : Fin 4) (s : State), ((s.dc u).lane l).state = lJudge → ((s.dc u).lane l).rx.train.verdict = 1 → ((s.dc u).lane
    l).rx.train.steppedDown = false → ((s.dc u).lane l).rung < 3 → ((s.dc u).lane l).dec = (decUp, 4) → Ends (.decisionApply u (.cause u l)) s fun t
    => ((t.dc u).lane l).state = lStep ∧ ((t.dc u).lane l).rung = ((s.dc u).lane l).rung ∧ ((t.dc u).lane l).rx.train.stepTo = ((s.dc u).lane l).rung
    + 1) ∧
  (∀ (u : DcId) (l : Fin 4) (s : State), ((s.dc u).lane l).state = lJudge → ((s.dc u).lane l).rx.train.verdict = 1 → ((s.dc u).lane l).rung = 3 → ((s.dc
    u).lane l).dec = (decRun, 4) → Ends (.decisionApply u (.cause u l)) s fun t => ((t.dc u).lane l).state = lRun ∧ ((t.dc u).lane l).rung = 3) ∧
  (∀ (u : DcId) (l : Fin 4) (s : State), ((s.dc u).lane l).state = lJudge → ((s.dc u).lane l).rx.train.verdict = 2 → 0 < ((s.dc u).lane l).rung → ((s.dc
    u).lane l).dec = (decDown, 4) → Ends (.decisionApply u (.cause u l)) s fun t => ((t.dc u).lane l).state = lStep ∧ ((t.dc u).lane
    l).rx.train.stepTo = ((s.dc u).lane l).rung - 1 ∧ ((t.dc u).lane l).rx.train.steppedDown) ∧
  (∀ (u : DcId) (l : Fin 4) (s : State), ((s.dc u).lane l).state = lJudge → ((s.dc u).lane l).rx.train.verdict = 2 → ((s.dc u).lane l).rung = 0 → Ends
    (.decisionApply u (.cause u l)) s fun t => ((t.dc u).lane l).state = lFault ∧ ((t.dc u).lane l).rx.train.faultFrame = (s.dc u).frame) ∧
  (∀ (u : DcId) (l : Fin 4) (s : State), ((s.dc u).lane l).state = lStep → Ends (.stepEnd (.cause u l)) s fun t => ((t.dc u).lane l).state = lLock ∧
    ((t.dc u).lane l).rung = ((s.dc u).lane l).rx.train.stepTo ∧ ((t.dc u).lane l).rx.train.verdict = 0) ∧
  (∀ (u : DcId) (l : Fin 4) (s : State), ((s.dc u).lane l).state = lFault → Ends (.faultTimeout (.cause u l)) s fun t => ((t.dc u).lane l).state = lLock
    ∧ ((t.dc u).lane l).rung = 0 ∧ ((t.dc u).lane l).rx.train.afterFault ∧ (t.dc u).now = laterTick (s.dc u).now ((((s.dc u).lane
    l).rx.train.faultFrame + 4096) * frameTicks)) ∧
  (∀ (u : DcId) (l : Fin 4) (s : State), ((s.dc u).lane l).state = lRun → ((s.dc u).lane l).rx.missRun = 1 → Ends (.markerMiss (.cause u l)) s fun t =>
    ((t.dc u).lane l).state = lLock ∧ ((t.dc u).lane l).rung = ((s.dc u).lane l).rung ∧ ((t.dc u).lane l).retrains = satAdd 8 ((s.dc u).lane
    l).retrains 1) ∧
  (∀ (u : DcId) (l : Fin 4) (s : State) (b : List Rec) (rest : List (List Rec)), ((s.dc (otherUnit u)).lane l).state = lRun → ((s.dc u).lane l).tx.slot
    < 4096 → ((s.dc u).lane l).tx.todo = b :: rest → Ends (.uplinkSlotSend (.dc u) l) s fun t => ((t.dc u).lane l).tx.todo = rest ∧ ((t.dc u).lane
    l).tx.slot = ((s.dc u).lane l).tx.slot + 1 ∧ (t.dc u).out = .cause l (upSlot l ((s.dc u).lane l).tx.slot b) :: (s.dc u).out) ∧
  (∀ (u : DcId) (l : Fin 4) (s : State), ((s.dc (otherUnit u)).lane l).state = lRun → ((s.dc u).lane l).tx.slot < 4096 → ((s.dc u).lane l).tx.todo = []
    → training ((s.dc u).lane l).state = false → Ends (.uplinkSlotSend (.dc u) l) s fun t => ((t.dc u).lane l).tx.slot = ((s.dc u).lane l).tx.slot + 1
    ∧ (t.dc u).out = .cause l (upSlot l ((s.dc u).lane l).tx.slot (plainSlot 32 idleWord)) :: (s.dc u).out) ∧
  (∀ (u : DcId) (l : Fin 4) (s : State), training ((s.dc (otherUnit u)).lane l).state → ((s.dc u).lane l).tx.slot < 512 → Ends (.uplinkSlotSend (.dc u)
    l) s fun t => ((t.dc u).lane l).tx.slot = ((s.dc u).lane l).tx.slot + 1 ∧ (t.dc u).out = .cause l (trainSlot ((s.dc u).lane l).tx.slot) :: (s.dc
    u).out) ∧
  (∀ (u : DcId) (l : Fin 4) (s : State), training ((s.dc (otherUnit u)).lane l).state → 512 ≤ ((s.dc u).lane l).tx.slot → ((s.dc u).lane l).tx.slot <
    4096 → Ends (.uplinkSlotSend (.dc u) l) s fun t => ((t.dc u).lane l).tx.slot = ((s.dc u).lane l).tx.slot + 1 ∧ ((t.dc u).lane l).dec = sentAgain
    ((s.dc u).lane l).dec ((s.dc u).lane l).decision ∧ (t.dc u).out = .cause l (upSlot l ((s.dc u).lane l).tx.slot (plainSlot 32 (((s.dc u).lane
    l).judge ((s.dc (otherUnit u)).lane l).rung))) :: (s.dc u).out) ∧
  (∀ (u : DcId) (l : Fin 4) (m fine : Nat) (s : State), (((s.dc (otherUnit u)).lane l).state = lRun ∨ training ((s.dc (otherUnit u)).lane l).state) →
    4096 ≤ ((s.dc u).lane l).tx.slot → Ends (.markerSlot (.dc u) l m fine) s fun t => ((t.dc u).lane l).tx.slot = 0 ∧ ((t.dc u).lane l).tx.markers =
    (((s.dc u).lane l).tx.markers + 1) % 2 ^ 24 ∧ ((t.dc u).lane l).left.head? = some (1024 * m + fine, ((s.dc u).lane l).tx.markers) ∧ (t.dc u).now =
    laterTick (s.dc u).now m ∧ (t.dc u).out = .causeMarker l (markerSlotLine (markerWord l ((s.dc (otherUnit u)).lane l).rung ((s.dc u).lane
    l).tx.markers)) m fine :: (s.dc u).out) ∧
  (∀ (u : DcId) (n : Fin 64) (l : Fin 4) (s : State), unitAt (l / 2) = u → (s.dc u).fld (DC.IBR.LANE.STATE n (l % 2)) = lLock → (s.df n).fld
    (DF.LINK.LANE.STATE l) = lLock → (s.df n).fld (DF.LINK.LANE.RUNG l) = (s.dc u).fld (DC.IBR.LANE.RUNG n (l % 2)) → Ends (.laneLock (.up n l)) s fun
    t => (t.dc u).fld (DC.IBR.LANE.STATE n (l % 2)) = lTrain ∧ (t.df n).fld (DF.LINK.LANE.STATE l) = lTrain ∧ (t.df n).fld (DF.LINK.LANE.RUNG l) =
    (s.df n).fld (DF.LINK.LANE.RUNG l)) ∧
  ∀ (u : DcId) (n : Fin 64) (l : Fin 4) (errs : Nat) (ins : Bool) (s : State), unitAt (l / 2) = u → (s.dc u).fld (DC.IBR.LANE.STATE n (l % 2)) = lTrain
    → (s.df n).fld (DF.LINK.LANE.STATE l) = lTrain → Ends (.trainPassEnd (.up n l) errs ins) s fun t => (t.dc u).fld (DC.IBR.LANE.STATE n (l % 2)) =
    lJudge ∧ (t.df n).fld (DF.LINK.LANE.STATE l) = lJudge ∧ ((t.dc u).recv (2 * n + l % 2)).train.verdict = (if ins = true ∧ errs ≤ (s.dc u).fld
    (DC.IBR.CFG.ERR_MAX n) then 1 else 2)
end

