-- ==== Sys2Proof/Laws/FMap.lean ====
section
/-! SUPPORT. Laws of the sparse maps: a read after a write, and the canonical form. -/
namespace Sys2Proof.Machine

theorem FMap.get_of_notin {α : Type} (d : α) (m : FMap α) (k : Nat) (h : ∀ p ∈ m, p.1 ≠ k) : FMap.get d m k = d := by
  induction m with
  | nil => rfl
  | cons p t ih =>
    obtain ⟨a, v⟩ := p
    have ha : a ≠ k := h (a, v) (by simp)
    simp only [FMap.get, ha, if_false]
    exact ih fun q hq => h q (by simp [hq])

theorem FMap.erase_ne {α : Type} (m : FMap α) (k : Nat) : ∀ p ∈ m.erase k, p.1 ≠ k := by
  intro p hp
  have := (List.mem_filter.mp hp).2
  simpa using this

theorem FMap.get_erase_self {α : Type} (d : α) (m : FMap α) (k : Nat) : FMap.get d (m.erase k) k = d :=
  FMap.get_of_notin d _ k (FMap.erase_ne m k)

theorem FMap.get_erase_ne {α : Type} (d : α) (m : FMap α) (k j : Nat) (h : j ≠ k) : FMap.get d (m.erase k) j = FMap.get d m j := by
  induction m with
  | nil => rfl
  | cons p t ih =>
    obtain ⟨a, v⟩ := p
    unfold FMap.erase at *
    by_cases ha : a = k
    · subst ha
      rw [List.filter_cons_of_neg (by simp), ih]
      simp [FMap.get, Ne.symm h]
    · rw [List.filter_cons_of_pos (by simp [ha])]
      simp only [FMap.get, ih]

theorem FMap.get_ins_self {α : Type} (d : α) (m : FMap α) (k : Nat) (v : α) (h : ∀ p ∈ m, p.1 ≠ k) : FMap.get d (FMap.ins k v m) k = v := by
  induction m with
  | nil => simp [FMap.ins, FMap.get]
  | cons p t ih =>
    obtain ⟨a, w⟩ := p
    have ha : a ≠ k := h (a, w) (by simp)
    simp only [FMap.ins]
    split
    · simp [FMap.get]
    · simp only [FMap.get, ha, if_false]
      exact ih fun q hq => h q (by simp [hq])

theorem FMap.get_ins_ne {α : Type} (d : α) (m : FMap α) (k j : Nat) (v : α) (h : j ≠ k) : FMap.get d (FMap.ins k v m) j = FMap.get d m j := by
  induction m with
  | nil => simp [FMap.ins, FMap.get, Ne.symm h]
  | cons p t ih =>
    obtain ⟨a, w⟩ := p
    simp only [FMap.ins]
    split
    · simp [FMap.get, Ne.symm h]
    · simp only [FMap.get, ih]

/-- A read after a write to the same key gives the value written. -/
@[simp] theorem FMap.get_put_self {α : Type} [DecidableEq α] (d : α) (m : FMap α) (k : Nat) (v : α) : FMap.get d (FMap.put d m k v) k = v := by
  unfold FMap.put
  split
  · rename_i h; rw [FMap.get_erase_self, h]
  · exact FMap.get_ins_self d _ k v (FMap.erase_ne m k)

/-- A write leaves every other key alone. -/
theorem FMap.get_put_ne {α : Type} [DecidableEq α] (d : α) (m : FMap α) (k j : Nat) (v : α) (h : j ≠ k) : FMap.get d (FMap.put d m k v) j = FMap.get d m j := by
  unfold FMap.put
  split
  · exact FMap.get_erase_ne d m k j h
  · rw [FMap.get_ins_ne d _ k j v h, FMap.get_erase_ne d m k j h]

theorem FMap.mem_ins {α : Type} (k : Nat) (v : α) (m : FMap α) (p : Nat × α) : p ∈ FMap.ins k v m ↔ p = (k, v) ∨ p ∈ m := by
  induction m with
  | nil => simp [FMap.ins]
  | cons q t ih =>
    obtain ⟨a, w⟩ := q
    simp only [FMap.ins]
    split
    · simp
    · simp only [List.mem_cons, ih]
      constructor
      · rintro (h | h | h) <;> simp [h]
      · rintro (h | h | h) <;> simp [h]

theorem FMap.sorted_ins {α : Type} (k : Nat) (v : α) (m : FMap α) (hs : m.sorted = true) (h : ∀ p ∈ m, p.1 ≠ k) : (FMap.ins k v m).sorted = true := by
  induction m with
  | nil => simp [FMap.ins, FMap.sorted]
  | cons q t ih =>
    obtain ⟨a, w⟩ := q
    simp only [FMap.sorted, Bool.and_eq_true, List.all_eq_true, decide_eq_true_eq] at hs
    have ha : a ≠ k := h (a, w) (by simp)
    simp only [FMap.ins]
    split
    · rename_i hk
      simp only [FMap.sorted, Bool.and_eq_true, List.all_eq_true, decide_eq_true_eq]
      refine ⟨?_, ?_⟩
      · intro p hp
        rcases List.mem_cons.mp hp with rfl | hp
        · exact hk
        · exact Nat.lt_trans hk (hs.1 p hp)
      · exact ⟨hs.1, hs.2⟩
    · rename_i hk
      simp only [FMap.sorted, Bool.and_eq_true, List.all_eq_true, decide_eq_true_eq]
      refine ⟨?_, ih hs.2 fun p hp => h p (by simp [hp])⟩
      intro p hp
      rcases (FMap.mem_ins k v t p).mp hp with rfl | hp
      · simp only; omega
      · exact hs.1 p hp

theorem FMap.sorted_erase {α : Type} (m : FMap α) (k : Nat) (hs : m.sorted = true) : (m.erase k).sorted = true := by
  induction m with
  | nil => rfl
  | cons q t ih =>
    obtain ⟨a, w⟩ := q
    simp only [FMap.sorted, Bool.and_eq_true, List.all_eq_true, decide_eq_true_eq] at hs
    unfold FMap.erase at *
    by_cases ha : a = k
    · rw [List.filter_cons_of_neg (by simp [ha])]; exact ih hs.2
    · rw [List.filter_cons_of_pos (by simp [ha])]
      simp only [FMap.sorted, Bool.and_eq_true, List.all_eq_true, decide_eq_true_eq]
      exact ⟨fun p hp => hs.1 p (List.mem_filter.mp hp).1, ih hs.2⟩

/-- A write keeps the canonical form. -/
theorem FMap.wf_put {α : Type} [DecidableEq α] (d : α) (m : FMap α) (k : Nat) (v : α) (h : m.wf d = true) : (FMap.put d m k v).wf d = true := by
  unfold FMap.wf at *
  simp only [Bool.and_eq_true, List.all_eq_true, decide_eq_true_eq] at h ⊢
  have he : ∀ p ∈ m.erase k, p ∈ m := fun p hp => (List.mem_filter.mp hp).1
  unfold FMap.put
  split
  · exact ⟨FMap.sorted_erase m k h.1, fun p hp => h.2 p (he p hp)⟩
  · rename_i hv
    refine ⟨FMap.sorted_ins k v _ (FMap.sorted_erase m k h.1) (FMap.erase_ne m k), ?_⟩
    intro p hp
    rcases (FMap.mem_ins k v _ p).mp hp with rfl | hp
    · exact hv
    · exact h.2 p (he p hp)

/-- The keys of a map after a write are its own and the one written. -/
theorem FMap.mem_put {α : Type} [DecidableEq α] (d : α) (m : FMap α) (k : Nat) (v : α) (p : Nat × α) (h : p ∈ FMap.put d m k v) : p.1 = k ∨ p ∈ m := by
  unfold FMap.put at h
  split at h
  · exact Or.inr (List.mem_filter.mp h).1
  · rcases (FMap.mem_ins k v _ p).mp h with rfl | h
    · exact Or.inl rfl
    · exact Or.inr (List.mem_filter.mp h).1

end Sys2Proof.Machine
end

