-- ==== Sys2Proof/Laws/Regs.lean ====
section
/-! SUPPORT. Laws of register words and fields: a field reads back what was set, and setting it leaves every other register and every disjoint
field alone. -/
namespace Sys2Proof.Machine

theorem fieldOf_lt (w : Word) (lo width : Nat) : fieldOf w lo width < 2 ^ width := Nat.mod_lt _ (Nat.two_pow_pos _)

theorem maskW_bit (lo width i : Nat) (hi : i < 32) : (maskW lo width).getLsbD i = (decide (lo ≤ i) && decide (i < lo + width)) := by
  simp only [maskW, BitVec.getLsbD_ofNat, hi, decide_true, Bool.true_and]
  rw [Nat.testBit_mul_two_pow, Nat.testBit_two_pow_sub_one]
  rcases Nat.lt_or_ge i lo with h | h
  · simp [Nat.not_le.mpr h]
  · simp only [h, decide_true, Bool.true_and, decide_eq_decide]; omega

theorem fieldOf_bit (w : Word) (lo width i : Nat) : (fieldOf w lo width).testBit i = (decide (i < width) && w.getLsbD (lo + i)) := by
  unfold fieldOf bits
  rw [Nat.testBit_mod_two_pow, Nat.testBit_div_two_pow]
  simp [BitVec.getLsbD, Nat.add_comm]

theorem withField_bit (w : Word) (lo width v i : Nat) (hi : i < 32) :
    (withField w lo width v).getLsbD i = if lo ≤ i ∧ i < lo + width then v.testBit (i - lo) else w.getLsbD i := by
  unfold withField
  simp only [BitVec.getLsbD_or, BitVec.getLsbD_and, BitVec.getLsbD_not, hi, decide_true, Bool.true_and, maskW_bit lo width i hi,
    BitVec.getLsbD_ofNat]
  rw [Nat.testBit_mul_two_pow, Nat.testBit_mod_two_pow]
  by_cases h1 : lo ≤ i
  · by_cases h2 : i < lo + width
    · have : i - lo < width := by omega
      simp [h1, h2, this]
    · have : ¬ (i - lo < width) := by omega
      simp [h1, h2, this]
  · simp [h1]

/-- A field reads back what it was set to. -/
theorem fieldOf_withField (w : Word) (lo width v : Nat) (h : lo + width ≤ 32) : fieldOf (withField w lo width v) lo width = v % 2 ^ width := by
  apply Nat.eq_of_testBit_eq
  intro i
  rw [fieldOf_bit, Nat.testBit_mod_two_pow]
  by_cases hi : i < width
  · rw [withField_bit w lo width v (lo + i) (by omega)]
    have : lo + i - lo = i := by omega
    simp [hi, this]
  · simp [hi]

/-- Setting a field leaves a disjoint field alone. -/
theorem fieldOf_withField_disjoint (w : Word) (lo width v lo' width' : Nat) (h' : lo' + width' ≤ 32) (hd : lo' + width' ≤ lo ∨ lo + width ≤ lo') :
    fieldOf (withField w lo width v) lo' width' = fieldOf w lo' width' := by
  apply Nat.eq_of_testBit_eq
  intro i
  rw [fieldOf_bit, fieldOf_bit]
  by_cases hi : i < width'
  · rw [withField_bit w lo width v (lo' + i) (by omega), if_neg (by omega)]
  · simp [hi]

/-- Two fields that share no bit. -/
def Fd.apart (f g : Fd) : Prop := f.addr ≠ g.addr ∨ f.lo + f.width ≤ g.lo ∨ g.lo + g.width ≤ f.lo

/-- A field that lies in its word. -/
def Fd.fits (f : Fd) : Prop := f.lo + f.width ≤ 32

@[simp] theorem Df.word_setWord_self (d : Df) (a : Nat) (w : Word) : (d.setWord a w).word a = w := by simp [Df.word, Df.setWord]

theorem Df.word_setWord_ne (d : Df) (a b : Nat) (w : Word) (h : b ≠ a) : (d.setWord a w).word b = d.word b := by
  by_cases hd : dfReset a = dfReset b
  · simp [Df.word, Df.setWord, hd, FMap.get_put_ne _ _ _ _ _ h]
  · simp only [Df.word, Df.setWord]
    unfold FMap.put
    split
    · exact FMap.get_erase_ne _ _ _ _ h
    · rw [FMap.get_ins_ne _ _ _ _ _ h, FMap.get_erase_ne _ _ _ _ h]

theorem Df.fld_set_self (d : Df) (f : Fd) (v : Nat) (h : f.fits) : (d.set f v).fld f = v % 2 ^ f.width := by
  simp [Df.fld, Df.set, fieldOf_withField _ _ _ _ h]

theorem Df.fld_set_apart (d : Df) (f g : Fd) (v : Nat) (hg : g.fits) (h : f.apart g) : (d.set f v).fld g = d.fld g := by
  unfold Df.fld Df.set
  by_cases ha : g.addr = f.addr
  · rw [ha, Df.word_setWord_self]
    apply fieldOf_withField_disjoint _ _ _ _ _ _ hg
    rcases h with h | h | h
    · exact absurd ha.symm h
    · exact Or.inr h
    · exact Or.inl h
  · rw [Df.word_setWord_ne _ _ _ _ ha]

@[simp] theorem Dc.word_setWord_self (d : Dc) (a : Nat) (w : Word) : (d.setWord a w).word a = w := by simp [Dc.word, Dc.setWord]

theorem Dc.word_setWord_ne (d : Dc) (a b : Nat) (w : Word) (h : b ≠ a) : (d.setWord a w).word b = d.word b := by
  simp only [Dc.word, Dc.setWord]
  unfold FMap.put
  split
  · exact FMap.get_erase_ne _ _ _ _ h
  · rw [FMap.get_ins_ne _ _ _ _ _ h, FMap.get_erase_ne _ _ _ _ h]

theorem Dc.fld_set_self (d : Dc) (f : Fd) (v : Nat) (h : f.fits) : (d.set f v).fld f = v % 2 ^ f.width := by
  simp [Dc.fld, Dc.set, fieldOf_withField _ _ _ _ h]

theorem Dc.fld_set_apart (d : Dc) (f g : Fd) (v : Nat) (hg : g.fits) (h : f.apart g) : (d.set f v).fld g = d.fld g := by
  unfold Dc.fld Dc.set
  by_cases ha : g.addr = f.addr
  · rw [ha, Dc.word_setWord_self]
    apply fieldOf_withField_disjoint _ _ _ _ _ _ hg
    rcases h with h | h | h
    · exact absurd ha.symm h
    · exact Or.inr h
    · exact Or.inl h
  · rw [Dc.word_setWord_ne _ _ _ _ ha]

theorem satAdd_lt (w a b : Nat) : satAdd w a b < 2 ^ w := by
  have : 0 < 2 ^ w := Nat.two_pow_pos w
  unfold satAdd; omega

/-- A counter field after a count, saturated. -/
theorem Df.fld_add_self (d : Df) (f : Fd) (n : Nat) (h : f.fits) : (d.add f n).fld f = satAdd f.width (d.fld f) n := by
  rw [Df.add, Df.fld_set_self d f _ h, Nat.mod_eq_of_lt (satAdd_lt _ _ _)]

theorem Dc.fld_add_self (d : Dc) (f : Fd) (n : Nat) (h : f.fits) : (d.add f n).fld f = satAdd f.width (d.fld f) n := by
  rw [Dc.add, Dc.fld_set_self d f _ h, Nat.mod_eq_of_lt (satAdd_lt _ _ _)]

end Sys2Proof.Machine
end

