-- ==== Sys2Proof/Laws/State.lean ====
section
/-! SUPPORT. What each named update of the block, of a chip and of its parts leaves as it was, one lemma per field. -/
namespace Sys2Proof.Machine

@[simp] theorem State.dc_setDc_self (s : State) (u : DcId) (d : Dc) : (s.setDc u d).dc u = d := by cases u <;> rfl

theorem State.dc_setDc_ne (s : State) (u v : DcId) (d : Dc) (h : v ≠ u) : (s.setDc u d).dc v = s.dc v := by
  cases u <;> cases v <;> first | rfl | exact absurd rfl h

@[simp] theorem State.dfs_setDc (s : State) (u : DcId) (d : Dc) : (s.setDc u d).dfs = s.dfs := by cases u <;> rfl
@[simp] theorem State.df_setDc (s : State) (u : DcId) (d : Dc) (n : Nat) : (s.setDc u d).df n = s.df n := by cases u <;> rfl
@[simp] theorem State.pending_setDc (s : State) (u : DcId) (d : Dc) : (s.setDc u d).pending = s.pending := by cases u <;> rfl
@[simp] theorem State.result_setDc (s : State) (u : DcId) (d : Dc) : (s.setDc u d).result = s.result := by cases u <;> rfl
@[simp] theorem State.free_setDc (s : State) (u : DcId) (d : Dc) : (s.setDc u d).free = s.free := by cases u <;> rfl

@[simp] theorem State.df_setDf_self (s : State) (n : Nat) (f : Df) : (s.setDf n f).df n = f := by simp [State.df, State.setDf]

theorem State.df_setDf_ne (s : State) (n m : Nat) (f : Df) (h : m ≠ n) : (s.setDf n f).df m = s.df m := by
  simp [State.df, State.setDf, FMap.get_put_ne _ _ _ _ _ h]

@[simp] theorem State.dc_setDf (s : State) (n : Nat) (f : Df) (u : DcId) : (s.setDf n f).dc u = s.dc u := by cases u <;> rfl
@[simp] theorem State.dc0_setDf (s : State) (n : Nat) (f : Df) : (s.setDf n f).dc0 = s.dc0 := rfl
@[simp] theorem State.dc1_setDf (s : State) (n : Nat) (f : Df) : (s.setDf n f).dc1 = s.dc1 := rfl
@[simp] theorem State.pending_setDf (s : State) (n : Nat) (f : Df) : (s.setDf n f).pending = s.pending := rfl
@[simp] theorem State.result_setDf (s : State) (n : Nat) (f : Df) : (s.setDf n f).result = s.result := rfl
@[simp] theorem State.free_setDf (s : State) (n : Nat) (f : Df) : (s.setDf n f).free = s.free := rfl

@[simp] theorem State.dc_answer (s : State) (st : Nat) (w : Word) (u : DcId) : (s.answer st w).dc u = s.dc u := by cases u <;> rfl
@[simp] theorem State.df_answer (s : State) (st : Nat) (w : Word) (n : Nat) : (s.answer st w).df n = s.df n := rfl
@[simp] theorem State.dfs_answer (s : State) (st : Nat) (w : Word) : (s.answer st w).dfs = s.dfs := rfl
@[simp] theorem State.pending_answer (s : State) (st : Nat) (w : Word) : (s.answer st w).pending = s.pending := rfl
@[simp] theorem State.free_answer (s : State) (st : Nat) (w : Word) : (s.answer st w).free = s.free := rfl
@[simp] theorem State.result_answer (s : State) (st : Nat) (w : Word) : (s.answer st w).result = (st, w) := rfl

@[simp] theorem Df.chan_setChan_self (d : Df) (ch : Nat) (c : Chan) : (d.setChan ch c).chan ch = c := by simp [Df.chan, Df.setChan]
theorem Df.chan_setChan_ne (d : Df) (ch k : Nat) (c : Chan) (h : k ≠ ch) : (d.setChan ch c).chan k = d.chan k := by
  simp [Df.chan, Df.setChan, FMap.get_put_ne _ _ _ _ _ h]
@[simp] theorem Df.pos_setPos_self (d : Df) (p : Nat) (x : Pos) : (d.setPos p x).pos p = x := by simp [Df.pos, Df.setPos]
@[simp] theorem Df.lane_setLane_self (d : Df) (l : Nat) (x : TxLane) : (d.setLane l x).lane l = x := by simp [Df.lane, Df.setLane]
@[simp] theorem Df.down_setDown_self (d : Df) (i : Nat) (x : RxDown) : (d.setDown i x).down i = x := by simp [Df.down, Df.setDown]
@[simp] theorem Dc.recv_setRecv_self (d : Dc) (r : Nat) (x : Rx) : (d.setRecv r x).recv r = x := by simp [Dc.recv, Dc.setRecv]
@[simp] theorem Dc.port_setPort_self (d : Dc) (n : Nat) (x : Port) : (d.setPort n x).port n = x := by simp [Dc.port, Dc.setPort]
@[simp] theorem Dc.lane_setLane_self (d : Dc) (l : Nat) (x : CwLane) : (d.setLane l x).lane l = x := by simp [Dc.lane, Dc.setLane]
@[simp] theorem Dc.ctxLine_setCtx_self (d : Dc) (i : Nat) (l : CtxLine) : (d.setCtx i l).ctxLine i = l := by simp [Dc.ctxLine, Dc.setCtx]
@[simp] theorem Dc.lport_setLport_self (d : Dc) (n : Nat) (x : LdgPort) : (d.setLport n x).lport n = x := by simp [Dc.lport, Dc.setLport]

@[simp] theorem Df.now_setWord (d : Df) (a : Nat) (w : Word) : (d.setWord a w).now = d.now := rfl
@[simp] theorem Df.eff_setWord (d : Df) (a : Nat) (w : Word) : (d.setWord a w).eff = d.eff := rfl
@[simp] theorem Df.pend_setWord (d : Df) (a : Nat) (w : Word) : (d.setWord a w).pend = d.pend := rfl
@[simp] theorem Df.latch_setWord (d : Df) (a : Nat) (w : Word) : (d.setWord a w).latch = d.latch := rfl
@[simp] theorem Df.chans_setWord (d : Df) (a : Nat) (w : Word) : (d.setWord a w).chans = d.chans := rfl
@[simp] theorem Df.slots_setWord (d : Df) (a : Nat) (w : Word) : (d.setWord a w).slots = d.slots := rfl
@[simp] theorem Df.deltas_setWord (d : Df) (a : Nat) (w : Word) : (d.setWord a w).deltas = d.deltas := rfl
@[simp] theorem Df.loopEnd_setWord (d : Df) (a : Nat) (w : Word) : (d.setWord a w).loopEnd = d.loopEnd := rfl
@[simp] theorem Df.hit_setWord (d : Df) (a : Nat) (w : Word) : (d.setWord a w).hit = d.hit := rfl
@[simp] theorem Df.tus_setWord (d : Df) (a : Nat) (w : Word) : (d.setWord a w).tus = d.tus := rfl
@[simp] theorem Df.lanes_setWord (d : Df) (a : Nat) (w : Word) : (d.setWord a w).lanes = d.lanes := rfl
@[simp] theorem Df.downs_setWord (d : Df) (a : Nat) (w : Word) : (d.setWord a w).downs = d.downs := rfl
@[simp] theorem Df.tim_setWord (d : Df) (a : Nat) (w : Word) : (d.setWord a w).tim = d.tim := rfl
@[simp] theorem Df.cmd_setWord (d : Df) (a : Nat) (w : Word) : (d.setWord a w).cmd = d.cmd := rfl
@[simp] theorem Df.hk_setWord (d : Df) (a : Nat) (w : Word) : (d.setWord a w).hk = d.hk := rfl
@[simp] theorem Df.bt_setWord (d : Df) (a : Nat) (w : Word) : (d.setWord a w).bt = d.bt := rfl
@[simp] theorem Df.out_setWord (d : Df) (a : Nat) (w : Word) : (d.setWord a w).out = d.out := rfl
@[simp] theorem Df.now_set (d : Df) (f : Fd) (v : Nat) : (d.set f v).now = d.now := rfl
@[simp] theorem Df.eff_set (d : Df) (f : Fd) (v : Nat) : (d.set f v).eff = d.eff := rfl
@[simp] theorem Df.pend_set (d : Df) (f : Fd) (v : Nat) : (d.set f v).pend = d.pend := rfl
@[simp] theorem Df.latch_set (d : Df) (f : Fd) (v : Nat) : (d.set f v).latch = d.latch := rfl
@[simp] theorem Df.chans_set (d : Df) (f : Fd) (v : Nat) : (d.set f v).chans = d.chans := rfl
@[simp] theorem Df.slots_set (d : Df) (f : Fd) (v : Nat) : (d.set f v).slots = d.slots := rfl
@[simp] theorem Df.deltas_set (d : Df) (f : Fd) (v : Nat) : (d.set f v).deltas = d.deltas := rfl
@[simp] theorem Df.loopEnd_set (d : Df) (f : Fd) (v : Nat) : (d.set f v).loopEnd = d.loopEnd := rfl
@[simp] theorem Df.hit_set (d : Df) (f : Fd) (v : Nat) : (d.set f v).hit = d.hit := rfl
@[simp] theorem Df.tus_set (d : Df) (f : Fd) (v : Nat) : (d.set f v).tus = d.tus := rfl
@[simp] theorem Df.lanes_set (d : Df) (f : Fd) (v : Nat) : (d.set f v).lanes = d.lanes := rfl
@[simp] theorem Df.downs_set (d : Df) (f : Fd) (v : Nat) : (d.set f v).downs = d.downs := rfl
@[simp] theorem Df.tim_set (d : Df) (f : Fd) (v : Nat) : (d.set f v).tim = d.tim := rfl
@[simp] theorem Df.cmd_set (d : Df) (f : Fd) (v : Nat) : (d.set f v).cmd = d.cmd := rfl
@[simp] theorem Df.hk_set (d : Df) (f : Fd) (v : Nat) : (d.set f v).hk = d.hk := rfl
@[simp] theorem Df.bt_set (d : Df) (f : Fd) (v : Nat) : (d.set f v).bt = d.bt := rfl
@[simp] theorem Df.out_set (d : Df) (f : Fd) (v : Nat) : (d.set f v).out = d.out := rfl
@[simp] theorem Df.now_add (d : Df) (f : Fd) (v : Nat) : (d.add f v).now = d.now := rfl
@[simp] theorem Df.eff_add (d : Df) (f : Fd) (v : Nat) : (d.add f v).eff = d.eff := rfl
@[simp] theorem Df.pend_add (d : Df) (f : Fd) (v : Nat) : (d.add f v).pend = d.pend := rfl
@[simp] theorem Df.latch_add (d : Df) (f : Fd) (v : Nat) : (d.add f v).latch = d.latch := rfl
@[simp] theorem Df.chans_add (d : Df) (f : Fd) (v : Nat) : (d.add f v).chans = d.chans := rfl
@[simp] theorem Df.slots_add (d : Df) (f : Fd) (v : Nat) : (d.add f v).slots = d.slots := rfl
@[simp] theorem Df.deltas_add (d : Df) (f : Fd) (v : Nat) : (d.add f v).deltas = d.deltas := rfl
@[simp] theorem Df.loopEnd_add (d : Df) (f : Fd) (v : Nat) : (d.add f v).loopEnd = d.loopEnd := rfl
@[simp] theorem Df.hit_add (d : Df) (f : Fd) (v : Nat) : (d.add f v).hit = d.hit := rfl
@[simp] theorem Df.tus_add (d : Df) (f : Fd) (v : Nat) : (d.add f v).tus = d.tus := rfl
@[simp] theorem Df.lanes_add (d : Df) (f : Fd) (v : Nat) : (d.add f v).lanes = d.lanes := rfl
@[simp] theorem Df.downs_add (d : Df) (f : Fd) (v : Nat) : (d.add f v).downs = d.downs := rfl
@[simp] theorem Df.tim_add (d : Df) (f : Fd) (v : Nat) : (d.add f v).tim = d.tim := rfl
@[simp] theorem Df.cmd_add (d : Df) (f : Fd) (v : Nat) : (d.add f v).cmd = d.cmd := rfl
@[simp] theorem Df.hk_add (d : Df) (f : Fd) (v : Nat) : (d.add f v).hk = d.hk := rfl
@[simp] theorem Df.bt_add (d : Df) (f : Fd) (v : Nat) : (d.add f v).bt = d.bt := rfl
@[simp] theorem Df.out_add (d : Df) (f : Fd) (v : Nat) : (d.add f v).out = d.out := rfl
@[simp] theorem Df.now_inc (d : Df) (f : Fd) : (d.inc f).now = d.now := rfl
@[simp] theorem Df.eff_inc (d : Df) (f : Fd) : (d.inc f).eff = d.eff := rfl
@[simp] theorem Df.pend_inc (d : Df) (f : Fd) : (d.inc f).pend = d.pend := rfl
@[simp] theorem Df.latch_inc (d : Df) (f : Fd) : (d.inc f).latch = d.latch := rfl
@[simp] theorem Df.chans_inc (d : Df) (f : Fd) : (d.inc f).chans = d.chans := rfl
@[simp] theorem Df.slots_inc (d : Df) (f : Fd) : (d.inc f).slots = d.slots := rfl
@[simp] theorem Df.deltas_inc (d : Df) (f : Fd) : (d.inc f).deltas = d.deltas := rfl
@[simp] theorem Df.loopEnd_inc (d : Df) (f : Fd) : (d.inc f).loopEnd = d.loopEnd := rfl
@[simp] theorem Df.hit_inc (d : Df) (f : Fd) : (d.inc f).hit = d.hit := rfl
@[simp] theorem Df.tus_inc (d : Df) (f : Fd) : (d.inc f).tus = d.tus := rfl
@[simp] theorem Df.lanes_inc (d : Df) (f : Fd) : (d.inc f).lanes = d.lanes := rfl
@[simp] theorem Df.downs_inc (d : Df) (f : Fd) : (d.inc f).downs = d.downs := rfl
@[simp] theorem Df.tim_inc (d : Df) (f : Fd) : (d.inc f).tim = d.tim := rfl
@[simp] theorem Df.cmd_inc (d : Df) (f : Fd) : (d.inc f).cmd = d.cmd := rfl
@[simp] theorem Df.hk_inc (d : Df) (f : Fd) : (d.inc f).hk = d.hk := rfl
@[simp] theorem Df.bt_inc (d : Df) (f : Fd) : (d.inc f).bt = d.bt := rfl
@[simp] theorem Df.out_inc (d : Df) (f : Fd) : (d.inc f).out = d.out := rfl
@[simp] theorem Df.regs_until (d : Df) (t : Nat) : (d.until t).regs = d.regs := rfl
@[simp] theorem Df.eff_until (d : Df) (t : Nat) : (d.until t).eff = d.eff := rfl
@[simp] theorem Df.pend_until (d : Df) (t : Nat) : (d.until t).pend = d.pend := rfl
@[simp] theorem Df.latch_until (d : Df) (t : Nat) : (d.until t).latch = d.latch := rfl
@[simp] theorem Df.chans_until (d : Df) (t : Nat) : (d.until t).chans = d.chans := rfl
@[simp] theorem Df.slots_until (d : Df) (t : Nat) : (d.until t).slots = d.slots := rfl
@[simp] theorem Df.deltas_until (d : Df) (t : Nat) : (d.until t).deltas = d.deltas := rfl
@[simp] theorem Df.loopEnd_until (d : Df) (t : Nat) : (d.until t).loopEnd = d.loopEnd := rfl
@[simp] theorem Df.hit_until (d : Df) (t : Nat) : (d.until t).hit = d.hit := rfl
@[simp] theorem Df.tus_until (d : Df) (t : Nat) : (d.until t).tus = d.tus := rfl
@[simp] theorem Df.lanes_until (d : Df) (t : Nat) : (d.until t).lanes = d.lanes := rfl
@[simp] theorem Df.downs_until (d : Df) (t : Nat) : (d.until t).downs = d.downs := rfl
@[simp] theorem Df.tim_until (d : Df) (t : Nat) : (d.until t).tim = d.tim := rfl
@[simp] theorem Df.cmd_until (d : Df) (t : Nat) : (d.until t).cmd = d.cmd := rfl
@[simp] theorem Df.hk_until (d : Df) (t : Nat) : (d.until t).hk = d.hk := rfl
@[simp] theorem Df.bt_until (d : Df) (t : Nat) : (d.until t).bt = d.bt := rfl
@[simp] theorem Df.out_until (d : Df) (t : Nat) : (d.until t).out = d.out := rfl
@[simp] theorem Df.now_setChan (d : Df) (ch : Nat) (c : Chan) : (d.setChan ch c).now = d.now := rfl
@[simp] theorem Df.regs_setChan (d : Df) (ch : Nat) (c : Chan) : (d.setChan ch c).regs = d.regs := rfl
@[simp] theorem Df.eff_setChan (d : Df) (ch : Nat) (c : Chan) : (d.setChan ch c).eff = d.eff := rfl
@[simp] theorem Df.pend_setChan (d : Df) (ch : Nat) (c : Chan) : (d.setChan ch c).pend = d.pend := rfl
@[simp] theorem Df.latch_setChan (d : Df) (ch : Nat) (c : Chan) : (d.setChan ch c).latch = d.latch := rfl
@[simp] theorem Df.slots_setChan (d : Df) (ch : Nat) (c : Chan) : (d.setChan ch c).slots = d.slots := rfl
@[simp] theorem Df.deltas_setChan (d : Df) (ch : Nat) (c : Chan) : (d.setChan ch c).deltas = d.deltas := rfl
@[simp] theorem Df.loopEnd_setChan (d : Df) (ch : Nat) (c : Chan) : (d.setChan ch c).loopEnd = d.loopEnd := rfl
@[simp] theorem Df.hit_setChan (d : Df) (ch : Nat) (c : Chan) : (d.setChan ch c).hit = d.hit := rfl
@[simp] theorem Df.tus_setChan (d : Df) (ch : Nat) (c : Chan) : (d.setChan ch c).tus = d.tus := rfl
@[simp] theorem Df.lanes_setChan (d : Df) (ch : Nat) (c : Chan) : (d.setChan ch c).lanes = d.lanes := rfl
@[simp] theorem Df.downs_setChan (d : Df) (ch : Nat) (c : Chan) : (d.setChan ch c).downs = d.downs := rfl
@[simp] theorem Df.tim_setChan (d : Df) (ch : Nat) (c : Chan) : (d.setChan ch c).tim = d.tim := rfl
@[simp] theorem Df.cmd_setChan (d : Df) (ch : Nat) (c : Chan) : (d.setChan ch c).cmd = d.cmd := rfl
@[simp] theorem Df.hk_setChan (d : Df) (ch : Nat) (c : Chan) : (d.setChan ch c).hk = d.hk := rfl
@[simp] theorem Df.bt_setChan (d : Df) (ch : Nat) (c : Chan) : (d.setChan ch c).bt = d.bt := rfl
@[simp] theorem Df.out_setChan (d : Df) (ch : Nat) (c : Chan) : (d.setChan ch c).out = d.out := rfl
@[simp] theorem Df.now_setPos (d : Df) (p : Nat) (x : Pos) : (d.setPos p x).now = d.now := rfl
@[simp] theorem Df.regs_setPos (d : Df) (p : Nat) (x : Pos) : (d.setPos p x).regs = d.regs := rfl
@[simp] theorem Df.eff_setPos (d : Df) (p : Nat) (x : Pos) : (d.setPos p x).eff = d.eff := rfl
@[simp] theorem Df.pend_setPos (d : Df) (p : Nat) (x : Pos) : (d.setPos p x).pend = d.pend := rfl
@[simp] theorem Df.latch_setPos (d : Df) (p : Nat) (x : Pos) : (d.setPos p x).latch = d.latch := rfl
@[simp] theorem Df.chans_setPos (d : Df) (p : Nat) (x : Pos) : (d.setPos p x).chans = d.chans := rfl
@[simp] theorem Df.slots_setPos (d : Df) (p : Nat) (x : Pos) : (d.setPos p x).slots = d.slots := rfl
@[simp] theorem Df.deltas_setPos (d : Df) (p : Nat) (x : Pos) : (d.setPos p x).deltas = d.deltas := rfl
@[simp] theorem Df.loopEnd_setPos (d : Df) (p : Nat) (x : Pos) : (d.setPos p x).loopEnd = d.loopEnd := rfl
@[simp] theorem Df.tus_setPos (d : Df) (p : Nat) (x : Pos) : (d.setPos p x).tus = d.tus := rfl
@[simp] theorem Df.lanes_setPos (d : Df) (p : Nat) (x : Pos) : (d.setPos p x).lanes = d.lanes := rfl
@[simp] theorem Df.downs_setPos (d : Df) (p : Nat) (x : Pos) : (d.setPos p x).downs = d.downs := rfl
@[simp] theorem Df.tim_setPos (d : Df) (p : Nat) (x : Pos) : (d.setPos p x).tim = d.tim := rfl
@[simp] theorem Df.cmd_setPos (d : Df) (p : Nat) (x : Pos) : (d.setPos p x).cmd = d.cmd := rfl
@[simp] theorem Df.hk_setPos (d : Df) (p : Nat) (x : Pos) : (d.setPos p x).hk = d.hk := rfl
@[simp] theorem Df.bt_setPos (d : Df) (p : Nat) (x : Pos) : (d.setPos p x).bt = d.bt := rfl
@[simp] theorem Df.out_setPos (d : Df) (p : Nat) (x : Pos) : (d.setPos p x).out = d.out := rfl
@[simp] theorem Df.now_setLane (d : Df) (l : Nat) (x : TxLane) : (d.setLane l x).now = d.now := rfl
@[simp] theorem Df.regs_setLane (d : Df) (l : Nat) (x : TxLane) : (d.setLane l x).regs = d.regs := rfl
@[simp] theorem Df.eff_setLane (d : Df) (l : Nat) (x : TxLane) : (d.setLane l x).eff = d.eff := rfl
@[simp] theorem Df.pend_setLane (d : Df) (l : Nat) (x : TxLane) : (d.setLane l x).pend = d.pend := rfl
@[simp] theorem Df.latch_setLane (d : Df) (l : Nat) (x : TxLane) : (d.setLane l x).latch = d.latch := rfl
@[simp] theorem Df.chans_setLane (d : Df) (l : Nat) (x : TxLane) : (d.setLane l x).chans = d.chans := rfl
@[simp] theorem Df.slots_setLane (d : Df) (l : Nat) (x : TxLane) : (d.setLane l x).slots = d.slots := rfl
@[simp] theorem Df.deltas_setLane (d : Df) (l : Nat) (x : TxLane) : (d.setLane l x).deltas = d.deltas := rfl
@[simp] theorem Df.loopEnd_setLane (d : Df) (l : Nat) (x : TxLane) : (d.setLane l x).loopEnd = d.loopEnd := rfl
@[simp] theorem Df.hit_setLane (d : Df) (l : Nat) (x : TxLane) : (d.setLane l x).hit = d.hit := rfl
@[simp] theorem Df.tus_setLane (d : Df) (l : Nat) (x : TxLane) : (d.setLane l x).tus = d.tus := rfl
@[simp] theorem Df.downs_setLane (d : Df) (l : Nat) (x : TxLane) : (d.setLane l x).downs = d.downs := rfl
@[simp] theorem Df.tim_setLane (d : Df) (l : Nat) (x : TxLane) : (d.setLane l x).tim = d.tim := rfl
@[simp] theorem Df.cmd_setLane (d : Df) (l : Nat) (x : TxLane) : (d.setLane l x).cmd = d.cmd := rfl
@[simp] theorem Df.hk_setLane (d : Df) (l : Nat) (x : TxLane) : (d.setLane l x).hk = d.hk := rfl
@[simp] theorem Df.bt_setLane (d : Df) (l : Nat) (x : TxLane) : (d.setLane l x).bt = d.bt := rfl
@[simp] theorem Df.out_setLane (d : Df) (l : Nat) (x : TxLane) : (d.setLane l x).out = d.out := rfl
@[simp] theorem Df.now_setDown (d : Df) (i : Nat) (x : RxDown) : (d.setDown i x).now = d.now := rfl
@[simp] theorem Df.regs_setDown (d : Df) (i : Nat) (x : RxDown) : (d.setDown i x).regs = d.regs := rfl
@[simp] theorem Df.eff_setDown (d : Df) (i : Nat) (x : RxDown) : (d.setDown i x).eff = d.eff := rfl
@[simp] theorem Df.pend_setDown (d : Df) (i : Nat) (x : RxDown) : (d.setDown i x).pend = d.pend := rfl
@[simp] theorem Df.latch_setDown (d : Df) (i : Nat) (x : RxDown) : (d.setDown i x).latch = d.latch := rfl
@[simp] theorem Df.chans_setDown (d : Df) (i : Nat) (x : RxDown) : (d.setDown i x).chans = d.chans := rfl
@[simp] theorem Df.slots_setDown (d : Df) (i : Nat) (x : RxDown) : (d.setDown i x).slots = d.slots := rfl
@[simp] theorem Df.deltas_setDown (d : Df) (i : Nat) (x : RxDown) : (d.setDown i x).deltas = d.deltas := rfl
@[simp] theorem Df.loopEnd_setDown (d : Df) (i : Nat) (x : RxDown) : (d.setDown i x).loopEnd = d.loopEnd := rfl
@[simp] theorem Df.hit_setDown (d : Df) (i : Nat) (x : RxDown) : (d.setDown i x).hit = d.hit := rfl
@[simp] theorem Df.tus_setDown (d : Df) (i : Nat) (x : RxDown) : (d.setDown i x).tus = d.tus := rfl
@[simp] theorem Df.lanes_setDown (d : Df) (i : Nat) (x : RxDown) : (d.setDown i x).lanes = d.lanes := rfl
@[simp] theorem Df.tim_setDown (d : Df) (i : Nat) (x : RxDown) : (d.setDown i x).tim = d.tim := rfl
@[simp] theorem Df.cmd_setDown (d : Df) (i : Nat) (x : RxDown) : (d.setDown i x).cmd = d.cmd := rfl
@[simp] theorem Df.hk_setDown (d : Df) (i : Nat) (x : RxDown) : (d.setDown i x).hk = d.hk := rfl
@[simp] theorem Df.bt_setDown (d : Df) (i : Nat) (x : RxDown) : (d.setDown i x).bt = d.bt := rfl
@[simp] theorem Df.out_setDown (d : Df) (i : Nat) (x : RxDown) : (d.setDown i x).out = d.out := rfl

@[simp] theorem Dc.now_setWord (d : Dc) (a : Nat) (w : Word) : (d.setWord a w).now = d.now := rfl
@[simp] theorem Dc.latch_setWord (d : Dc) (a : Nat) (w : Word) : (d.setWord a w).latch = d.latch := rfl
@[simp] theorem Dc.rx_setWord (d : Dc) (a : Nat) (w : Word) : (d.setWord a w).rx = d.rx := rfl
@[simp] theorem Dc.ports_setWord (d : Dc) (a : Nat) (w : Word) : (d.setWord a w).ports = d.ports := rfl
@[simp] theorem Dc.cw_setWord (d : Dc) (a : Nat) (w : Word) : (d.setWord a w).cw = d.cw := rfl
@[simp] theorem Dc.tim_setWord (d : Dc) (a : Nat) (w : Word) : (d.setWord a w).tim = d.tim := rfl
@[simp] theorem Dc.mire_setWord (d : Dc) (a : Nat) (w : Word) : (d.setWord a w).mire = d.mire := rfl
@[simp] theorem Dc.slu_setWord (d : Dc) (a : Nat) (w : Word) : (d.setWord a w).slu = d.slu := rfl
@[simp] theorem Dc.ctx_setWord (d : Dc) (a : Nat) (w : Word) : (d.setWord a w).ctx = d.ctx := rfl
@[simp] theorem Dc.trg_setWord (d : Dc) (a : Nat) (w : Word) : (d.setWord a w).trg = d.trg := rfl
@[simp] theorem Dc.qlf_setWord (d : Dc) (a : Nat) (w : Word) : (d.setWord a w).qlf = d.qlf := rfl
@[simp] theorem Dc.cmp_setWord (d : Dc) (a : Nat) (w : Word) : (d.setWord a w).cmp = d.cmp := rfl
@[simp] theorem Dc.peat_setWord (d : Dc) (a : Nat) (w : Word) : (d.setWord a w).peat = d.peat := rfl
@[simp] theorem Dc.mem_setWord (d : Dc) (a : Nat) (w : Word) : (d.setWord a w).mem = d.mem := rfl
@[simp] theorem Dc.pair_setWord (d : Dc) (a : Nat) (w : Word) : (d.setWord a w).pair = d.pair := rfl
@[simp] theorem Dc.abs_setWord (d : Dc) (a : Nat) (w : Word) : (d.setWord a w).abs = d.abs := rfl
@[simp] theorem Dc.ldg_setWord (d : Dc) (a : Nat) (w : Word) : (d.setWord a w).ldg = d.ldg := rfl
@[simp] theorem Dc.bt_setWord (d : Dc) (a : Nat) (w : Word) : (d.setWord a w).bt = d.bt := rfl
@[simp] theorem Dc.out_setWord (d : Dc) (a : Nat) (w : Word) : (d.setWord a w).out = d.out := rfl
@[simp] theorem Dc.now_set (d : Dc) (f : Fd) (v : Nat) : (d.set f v).now = d.now := rfl
@[simp] theorem Dc.latch_set (d : Dc) (f : Fd) (v : Nat) : (d.set f v).latch = d.latch := rfl
@[simp] theorem Dc.rx_set (d : Dc) (f : Fd) (v : Nat) : (d.set f v).rx = d.rx := rfl
@[simp] theorem Dc.ports_set (d : Dc) (f : Fd) (v : Nat) : (d.set f v).ports = d.ports := rfl
@[simp] theorem Dc.cw_set (d : Dc) (f : Fd) (v : Nat) : (d.set f v).cw = d.cw := rfl
@[simp] theorem Dc.tim_set (d : Dc) (f : Fd) (v : Nat) : (d.set f v).tim = d.tim := rfl
@[simp] theorem Dc.mire_set (d : Dc) (f : Fd) (v : Nat) : (d.set f v).mire = d.mire := rfl
@[simp] theorem Dc.slu_set (d : Dc) (f : Fd) (v : Nat) : (d.set f v).slu = d.slu := rfl
@[simp] theorem Dc.ctx_set (d : Dc) (f : Fd) (v : Nat) : (d.set f v).ctx = d.ctx := rfl
@[simp] theorem Dc.trg_set (d : Dc) (f : Fd) (v : Nat) : (d.set f v).trg = d.trg := rfl
@[simp] theorem Dc.qlf_set (d : Dc) (f : Fd) (v : Nat) : (d.set f v).qlf = d.qlf := rfl
@[simp] theorem Dc.cmp_set (d : Dc) (f : Fd) (v : Nat) : (d.set f v).cmp = d.cmp := rfl
@[simp] theorem Dc.peat_set (d : Dc) (f : Fd) (v : Nat) : (d.set f v).peat = d.peat := rfl
@[simp] theorem Dc.mem_set (d : Dc) (f : Fd) (v : Nat) : (d.set f v).mem = d.mem := rfl
@[simp] theorem Dc.pair_set (d : Dc) (f : Fd) (v : Nat) : (d.set f v).pair = d.pair := rfl
@[simp] theorem Dc.abs_set (d : Dc) (f : Fd) (v : Nat) : (d.set f v).abs = d.abs := rfl
@[simp] theorem Dc.ldg_set (d : Dc) (f : Fd) (v : Nat) : (d.set f v).ldg = d.ldg := rfl
@[simp] theorem Dc.bt_set (d : Dc) (f : Fd) (v : Nat) : (d.set f v).bt = d.bt := rfl
@[simp] theorem Dc.out_set (d : Dc) (f : Fd) (v : Nat) : (d.set f v).out = d.out := rfl
@[simp] theorem Dc.now_add (d : Dc) (f : Fd) (v : Nat) : (d.add f v).now = d.now := rfl
@[simp] theorem Dc.latch_add (d : Dc) (f : Fd) (v : Nat) : (d.add f v).latch = d.latch := rfl
@[simp] theorem Dc.rx_add (d : Dc) (f : Fd) (v : Nat) : (d.add f v).rx = d.rx := rfl
@[simp] theorem Dc.ports_add (d : Dc) (f : Fd) (v : Nat) : (d.add f v).ports = d.ports := rfl
@[simp] theorem Dc.cw_add (d : Dc) (f : Fd) (v : Nat) : (d.add f v).cw = d.cw := rfl
@[simp] theorem Dc.tim_add (d : Dc) (f : Fd) (v : Nat) : (d.add f v).tim = d.tim := rfl
@[simp] theorem Dc.mire_add (d : Dc) (f : Fd) (v : Nat) : (d.add f v).mire = d.mire := rfl
@[simp] theorem Dc.slu_add (d : Dc) (f : Fd) (v : Nat) : (d.add f v).slu = d.slu := rfl
@[simp] theorem Dc.ctx_add (d : Dc) (f : Fd) (v : Nat) : (d.add f v).ctx = d.ctx := rfl
@[simp] theorem Dc.trg_add (d : Dc) (f : Fd) (v : Nat) : (d.add f v).trg = d.trg := rfl
@[simp] theorem Dc.qlf_add (d : Dc) (f : Fd) (v : Nat) : (d.add f v).qlf = d.qlf := rfl
@[simp] theorem Dc.cmp_add (d : Dc) (f : Fd) (v : Nat) : (d.add f v).cmp = d.cmp := rfl
@[simp] theorem Dc.peat_add (d : Dc) (f : Fd) (v : Nat) : (d.add f v).peat = d.peat := rfl
@[simp] theorem Dc.mem_add (d : Dc) (f : Fd) (v : Nat) : (d.add f v).mem = d.mem := rfl
@[simp] theorem Dc.pair_add (d : Dc) (f : Fd) (v : Nat) : (d.add f v).pair = d.pair := rfl
@[simp] theorem Dc.abs_add (d : Dc) (f : Fd) (v : Nat) : (d.add f v).abs = d.abs := rfl
@[simp] theorem Dc.ldg_add (d : Dc) (f : Fd) (v : Nat) : (d.add f v).ldg = d.ldg := rfl
@[simp] theorem Dc.bt_add (d : Dc) (f : Fd) (v : Nat) : (d.add f v).bt = d.bt := rfl
@[simp] theorem Dc.out_add (d : Dc) (f : Fd) (v : Nat) : (d.add f v).out = d.out := rfl
@[simp] theorem Dc.now_inc (d : Dc) (f : Fd) : (d.inc f).now = d.now := rfl
@[simp] theorem Dc.latch_inc (d : Dc) (f : Fd) : (d.inc f).latch = d.latch := rfl
@[simp] theorem Dc.rx_inc (d : Dc) (f : Fd) : (d.inc f).rx = d.rx := rfl
@[simp] theorem Dc.ports_inc (d : Dc) (f : Fd) : (d.inc f).ports = d.ports := rfl
@[simp] theorem Dc.cw_inc (d : Dc) (f : Fd) : (d.inc f).cw = d.cw := rfl
@[simp] theorem Dc.tim_inc (d : Dc) (f : Fd) : (d.inc f).tim = d.tim := rfl
@[simp] theorem Dc.mire_inc (d : Dc) (f : Fd) : (d.inc f).mire = d.mire := rfl
@[simp] theorem Dc.slu_inc (d : Dc) (f : Fd) : (d.inc f).slu = d.slu := rfl
@[simp] theorem Dc.ctx_inc (d : Dc) (f : Fd) : (d.inc f).ctx = d.ctx := rfl
@[simp] theorem Dc.trg_inc (d : Dc) (f : Fd) : (d.inc f).trg = d.trg := rfl
@[simp] theorem Dc.qlf_inc (d : Dc) (f : Fd) : (d.inc f).qlf = d.qlf := rfl
@[simp] theorem Dc.cmp_inc (d : Dc) (f : Fd) : (d.inc f).cmp = d.cmp := rfl
@[simp] theorem Dc.peat_inc (d : Dc) (f : Fd) : (d.inc f).peat = d.peat := rfl
@[simp] theorem Dc.mem_inc (d : Dc) (f : Fd) : (d.inc f).mem = d.mem := rfl
@[simp] theorem Dc.pair_inc (d : Dc) (f : Fd) : (d.inc f).pair = d.pair := rfl
@[simp] theorem Dc.abs_inc (d : Dc) (f : Fd) : (d.inc f).abs = d.abs := rfl
@[simp] theorem Dc.ldg_inc (d : Dc) (f : Fd) : (d.inc f).ldg = d.ldg := rfl
@[simp] theorem Dc.bt_inc (d : Dc) (f : Fd) : (d.inc f).bt = d.bt := rfl
@[simp] theorem Dc.out_inc (d : Dc) (f : Fd) : (d.inc f).out = d.out := rfl
@[simp] theorem Dc.regs_until (d : Dc) (t : Nat) : (d.until t).regs = d.regs := rfl
@[simp] theorem Dc.latch_until (d : Dc) (t : Nat) : (d.until t).latch = d.latch := rfl
@[simp] theorem Dc.rx_until (d : Dc) (t : Nat) : (d.until t).rx = d.rx := rfl
@[simp] theorem Dc.ports_until (d : Dc) (t : Nat) : (d.until t).ports = d.ports := rfl
@[simp] theorem Dc.cw_until (d : Dc) (t : Nat) : (d.until t).cw = d.cw := rfl
@[simp] theorem Dc.tim_until (d : Dc) (t : Nat) : (d.until t).tim = d.tim := rfl
@[simp] theorem Dc.mire_until (d : Dc) (t : Nat) : (d.until t).mire = d.mire := rfl
@[simp] theorem Dc.slu_until (d : Dc) (t : Nat) : (d.until t).slu = d.slu := rfl
@[simp] theorem Dc.ctx_until (d : Dc) (t : Nat) : (d.until t).ctx = d.ctx := rfl
@[simp] theorem Dc.trg_until (d : Dc) (t : Nat) : (d.until t).trg = d.trg := rfl
@[simp] theorem Dc.qlf_until (d : Dc) (t : Nat) : (d.until t).qlf = d.qlf := rfl
@[simp] theorem Dc.cmp_until (d : Dc) (t : Nat) : (d.until t).cmp = d.cmp := rfl
@[simp] theorem Dc.peat_until (d : Dc) (t : Nat) : (d.until t).peat = d.peat := rfl
@[simp] theorem Dc.mem_until (d : Dc) (t : Nat) : (d.until t).mem = d.mem := rfl
@[simp] theorem Dc.pair_until (d : Dc) (t : Nat) : (d.until t).pair = d.pair := rfl
@[simp] theorem Dc.abs_until (d : Dc) (t : Nat) : (d.until t).abs = d.abs := rfl
@[simp] theorem Dc.ldg_until (d : Dc) (t : Nat) : (d.until t).ldg = d.ldg := rfl
@[simp] theorem Dc.bt_until (d : Dc) (t : Nat) : (d.until t).bt = d.bt := rfl
@[simp] theorem Dc.out_until (d : Dc) (t : Nat) : (d.until t).out = d.out := rfl
@[simp] theorem Dc.now_emit (d : Dc) (x : DcSent) : (d.emit x).now = d.now := rfl
@[simp] theorem Dc.regs_emit (d : Dc) (x : DcSent) : (d.emit x).regs = d.regs := rfl
@[simp] theorem Dc.latch_emit (d : Dc) (x : DcSent) : (d.emit x).latch = d.latch := rfl
@[simp] theorem Dc.rx_emit (d : Dc) (x : DcSent) : (d.emit x).rx = d.rx := rfl
@[simp] theorem Dc.ports_emit (d : Dc) (x : DcSent) : (d.emit x).ports = d.ports := rfl
@[simp] theorem Dc.cw_emit (d : Dc) (x : DcSent) : (d.emit x).cw = d.cw := rfl
@[simp] theorem Dc.tim_emit (d : Dc) (x : DcSent) : (d.emit x).tim = d.tim := rfl
@[simp] theorem Dc.mire_emit (d : Dc) (x : DcSent) : (d.emit x).mire = d.mire := rfl
@[simp] theorem Dc.slu_emit (d : Dc) (x : DcSent) : (d.emit x).slu = d.slu := rfl
@[simp] theorem Dc.ctx_emit (d : Dc) (x : DcSent) : (d.emit x).ctx = d.ctx := rfl
@[simp] theorem Dc.trg_emit (d : Dc) (x : DcSent) : (d.emit x).trg = d.trg := rfl
@[simp] theorem Dc.qlf_emit (d : Dc) (x : DcSent) : (d.emit x).qlf = d.qlf := rfl
@[simp] theorem Dc.cmp_emit (d : Dc) (x : DcSent) : (d.emit x).cmp = d.cmp := rfl
@[simp] theorem Dc.peat_emit (d : Dc) (x : DcSent) : (d.emit x).peat = d.peat := rfl
@[simp] theorem Dc.mem_emit (d : Dc) (x : DcSent) : (d.emit x).mem = d.mem := rfl
@[simp] theorem Dc.pair_emit (d : Dc) (x : DcSent) : (d.emit x).pair = d.pair := rfl
@[simp] theorem Dc.abs_emit (d : Dc) (x : DcSent) : (d.emit x).abs = d.abs := rfl
@[simp] theorem Dc.ldg_emit (d : Dc) (x : DcSent) : (d.emit x).ldg = d.ldg := rfl
@[simp] theorem Dc.bt_emit (d : Dc) (x : DcSent) : (d.emit x).bt = d.bt := rfl
@[simp] theorem Dc.now_setRecv (d : Dc) (r : Nat) (x : Rx) : (d.setRecv r x).now = d.now := rfl
@[simp] theorem Dc.regs_setRecv (d : Dc) (r : Nat) (x : Rx) : (d.setRecv r x).regs = d.regs := rfl
@[simp] theorem Dc.latch_setRecv (d : Dc) (r : Nat) (x : Rx) : (d.setRecv r x).latch = d.latch := rfl
@[simp] theorem Dc.ports_setRecv (d : Dc) (r : Nat) (x : Rx) : (d.setRecv r x).ports = d.ports := rfl
@[simp] theorem Dc.cw_setRecv (d : Dc) (r : Nat) (x : Rx) : (d.setRecv r x).cw = d.cw := rfl
@[simp] theorem Dc.tim_setRecv (d : Dc) (r : Nat) (x : Rx) : (d.setRecv r x).tim = d.tim := rfl
@[simp] theorem Dc.mire_setRecv (d : Dc) (r : Nat) (x : Rx) : (d.setRecv r x).mire = d.mire := rfl
@[simp] theorem Dc.slu_setRecv (d : Dc) (r : Nat) (x : Rx) : (d.setRecv r x).slu = d.slu := rfl
@[simp] theorem Dc.ctx_setRecv (d : Dc) (r : Nat) (x : Rx) : (d.setRecv r x).ctx = d.ctx := rfl
@[simp] theorem Dc.trg_setRecv (d : Dc) (r : Nat) (x : Rx) : (d.setRecv r x).trg = d.trg := rfl
@[simp] theorem Dc.qlf_setRecv (d : Dc) (r : Nat) (x : Rx) : (d.setRecv r x).qlf = d.qlf := rfl
@[simp] theorem Dc.cmp_setRecv (d : Dc) (r : Nat) (x : Rx) : (d.setRecv r x).cmp = d.cmp := rfl
@[simp] theorem Dc.peat_setRecv (d : Dc) (r : Nat) (x : Rx) : (d.setRecv r x).peat = d.peat := rfl
@[simp] theorem Dc.mem_setRecv (d : Dc) (r : Nat) (x : Rx) : (d.setRecv r x).mem = d.mem := rfl
@[simp] theorem Dc.pair_setRecv (d : Dc) (r : Nat) (x : Rx) : (d.setRecv r x).pair = d.pair := rfl
@[simp] theorem Dc.abs_setRecv (d : Dc) (r : Nat) (x : Rx) : (d.setRecv r x).abs = d.abs := rfl
@[simp] theorem Dc.ldg_setRecv (d : Dc) (r : Nat) (x : Rx) : (d.setRecv r x).ldg = d.ldg := rfl
@[simp] theorem Dc.bt_setRecv (d : Dc) (r : Nat) (x : Rx) : (d.setRecv r x).bt = d.bt := rfl
@[simp] theorem Dc.out_setRecv (d : Dc) (r : Nat) (x : Rx) : (d.setRecv r x).out = d.out := rfl
@[simp] theorem Dc.now_setPort (d : Dc) (n : Nat) (x : Port) : (d.setPort n x).now = d.now := rfl
@[simp] theorem Dc.regs_setPort (d : Dc) (n : Nat) (x : Port) : (d.setPort n x).regs = d.regs := rfl
@[simp] theorem Dc.latch_setPort (d : Dc) (n : Nat) (x : Port) : (d.setPort n x).latch = d.latch := rfl
@[simp] theorem Dc.rx_setPort (d : Dc) (n : Nat) (x : Port) : (d.setPort n x).rx = d.rx := rfl
@[simp] theorem Dc.cw_setPort (d : Dc) (n : Nat) (x : Port) : (d.setPort n x).cw = d.cw := rfl
@[simp] theorem Dc.tim_setPort (d : Dc) (n : Nat) (x : Port) : (d.setPort n x).tim = d.tim := rfl
@[simp] theorem Dc.mire_setPort (d : Dc) (n : Nat) (x : Port) : (d.setPort n x).mire = d.mire := rfl
@[simp] theorem Dc.slu_setPort (d : Dc) (n : Nat) (x : Port) : (d.setPort n x).slu = d.slu := rfl
@[simp] theorem Dc.ctx_setPort (d : Dc) (n : Nat) (x : Port) : (d.setPort n x).ctx = d.ctx := rfl
@[simp] theorem Dc.trg_setPort (d : Dc) (n : Nat) (x : Port) : (d.setPort n x).trg = d.trg := rfl
@[simp] theorem Dc.qlf_setPort (d : Dc) (n : Nat) (x : Port) : (d.setPort n x).qlf = d.qlf := rfl
@[simp] theorem Dc.cmp_setPort (d : Dc) (n : Nat) (x : Port) : (d.setPort n x).cmp = d.cmp := rfl
@[simp] theorem Dc.peat_setPort (d : Dc) (n : Nat) (x : Port) : (d.setPort n x).peat = d.peat := rfl
@[simp] theorem Dc.mem_setPort (d : Dc) (n : Nat) (x : Port) : (d.setPort n x).mem = d.mem := rfl
@[simp] theorem Dc.pair_setPort (d : Dc) (n : Nat) (x : Port) : (d.setPort n x).pair = d.pair := rfl
@[simp] theorem Dc.abs_setPort (d : Dc) (n : Nat) (x : Port) : (d.setPort n x).abs = d.abs := rfl
@[simp] theorem Dc.ldg_setPort (d : Dc) (n : Nat) (x : Port) : (d.setPort n x).ldg = d.ldg := rfl
@[simp] theorem Dc.bt_setPort (d : Dc) (n : Nat) (x : Port) : (d.setPort n x).bt = d.bt := rfl
@[simp] theorem Dc.out_setPort (d : Dc) (n : Nat) (x : Port) : (d.setPort n x).out = d.out := rfl
@[simp] theorem Dc.now_setLane (d : Dc) (l : Nat) (x : CwLane) : (d.setLane l x).now = d.now := rfl
@[simp] theorem Dc.regs_setLane (d : Dc) (l : Nat) (x : CwLane) : (d.setLane l x).regs = d.regs := rfl
@[simp] theorem Dc.latch_setLane (d : Dc) (l : Nat) (x : CwLane) : (d.setLane l x).latch = d.latch := rfl
@[simp] theorem Dc.rx_setLane (d : Dc) (l : Nat) (x : CwLane) : (d.setLane l x).rx = d.rx := rfl
@[simp] theorem Dc.ports_setLane (d : Dc) (l : Nat) (x : CwLane) : (d.setLane l x).ports = d.ports := rfl
@[simp] theorem Dc.tim_setLane (d : Dc) (l : Nat) (x : CwLane) : (d.setLane l x).tim = d.tim := rfl
@[simp] theorem Dc.mire_setLane (d : Dc) (l : Nat) (x : CwLane) : (d.setLane l x).mire = d.mire := rfl
@[simp] theorem Dc.slu_setLane (d : Dc) (l : Nat) (x : CwLane) : (d.setLane l x).slu = d.slu := rfl
@[simp] theorem Dc.ctx_setLane (d : Dc) (l : Nat) (x : CwLane) : (d.setLane l x).ctx = d.ctx := rfl
@[simp] theorem Dc.trg_setLane (d : Dc) (l : Nat) (x : CwLane) : (d.setLane l x).trg = d.trg := rfl
@[simp] theorem Dc.qlf_setLane (d : Dc) (l : Nat) (x : CwLane) : (d.setLane l x).qlf = d.qlf := rfl
@[simp] theorem Dc.cmp_setLane (d : Dc) (l : Nat) (x : CwLane) : (d.setLane l x).cmp = d.cmp := rfl
@[simp] theorem Dc.peat_setLane (d : Dc) (l : Nat) (x : CwLane) : (d.setLane l x).peat = d.peat := rfl
@[simp] theorem Dc.mem_setLane (d : Dc) (l : Nat) (x : CwLane) : (d.setLane l x).mem = d.mem := rfl
@[simp] theorem Dc.pair_setLane (d : Dc) (l : Nat) (x : CwLane) : (d.setLane l x).pair = d.pair := rfl
@[simp] theorem Dc.abs_setLane (d : Dc) (l : Nat) (x : CwLane) : (d.setLane l x).abs = d.abs := rfl
@[simp] theorem Dc.ldg_setLane (d : Dc) (l : Nat) (x : CwLane) : (d.setLane l x).ldg = d.ldg := rfl
@[simp] theorem Dc.bt_setLane (d : Dc) (l : Nat) (x : CwLane) : (d.setLane l x).bt = d.bt := rfl
@[simp] theorem Dc.out_setLane (d : Dc) (l : Nat) (x : CwLane) : (d.setLane l x).out = d.out := rfl
@[simp] theorem Dc.now_setCtx (d : Dc) (i : Nat) (l : CtxLine) : (d.setCtx i l).now = d.now := rfl
@[simp] theorem Dc.regs_setCtx (d : Dc) (i : Nat) (l : CtxLine) : (d.setCtx i l).regs = d.regs := rfl
@[simp] theorem Dc.latch_setCtx (d : Dc) (i : Nat) (l : CtxLine) : (d.setCtx i l).latch = d.latch := rfl
@[simp] theorem Dc.rx_setCtx (d : Dc) (i : Nat) (l : CtxLine) : (d.setCtx i l).rx = d.rx := rfl
@[simp] theorem Dc.ports_setCtx (d : Dc) (i : Nat) (l : CtxLine) : (d.setCtx i l).ports = d.ports := rfl
@[simp] theorem Dc.cw_setCtx (d : Dc) (i : Nat) (l : CtxLine) : (d.setCtx i l).cw = d.cw := rfl
@[simp] theorem Dc.tim_setCtx (d : Dc) (i : Nat) (l : CtxLine) : (d.setCtx i l).tim = d.tim := rfl
@[simp] theorem Dc.mire_setCtx (d : Dc) (i : Nat) (l : CtxLine) : (d.setCtx i l).mire = d.mire := rfl
@[simp] theorem Dc.slu_setCtx (d : Dc) (i : Nat) (l : CtxLine) : (d.setCtx i l).slu = d.slu := rfl
@[simp] theorem Dc.trg_setCtx (d : Dc) (i : Nat) (l : CtxLine) : (d.setCtx i l).trg = d.trg := rfl
@[simp] theorem Dc.qlf_setCtx (d : Dc) (i : Nat) (l : CtxLine) : (d.setCtx i l).qlf = d.qlf := rfl
@[simp] theorem Dc.cmp_setCtx (d : Dc) (i : Nat) (l : CtxLine) : (d.setCtx i l).cmp = d.cmp := rfl
@[simp] theorem Dc.peat_setCtx (d : Dc) (i : Nat) (l : CtxLine) : (d.setCtx i l).peat = d.peat := rfl
@[simp] theorem Dc.mem_setCtx (d : Dc) (i : Nat) (l : CtxLine) : (d.setCtx i l).mem = d.mem := rfl
@[simp] theorem Dc.pair_setCtx (d : Dc) (i : Nat) (l : CtxLine) : (d.setCtx i l).pair = d.pair := rfl
@[simp] theorem Dc.abs_setCtx (d : Dc) (i : Nat) (l : CtxLine) : (d.setCtx i l).abs = d.abs := rfl
@[simp] theorem Dc.ldg_setCtx (d : Dc) (i : Nat) (l : CtxLine) : (d.setCtx i l).ldg = d.ldg := rfl
@[simp] theorem Dc.bt_setCtx (d : Dc) (i : Nat) (l : CtxLine) : (d.setCtx i l).bt = d.bt := rfl
@[simp] theorem Dc.out_setCtx (d : Dc) (i : Nat) (l : CtxLine) : (d.setCtx i l).out = d.out := rfl
@[simp] theorem Dc.now_setLport (d : Dc) (n : Nat) (x : LdgPort) : (d.setLport n x).now = d.now := rfl
@[simp] theorem Dc.regs_setLport (d : Dc) (n : Nat) (x : LdgPort) : (d.setLport n x).regs = d.regs := rfl
@[simp] theorem Dc.latch_setLport (d : Dc) (n : Nat) (x : LdgPort) : (d.setLport n x).latch = d.latch := rfl
@[simp] theorem Dc.rx_setLport (d : Dc) (n : Nat) (x : LdgPort) : (d.setLport n x).rx = d.rx := rfl
@[simp] theorem Dc.ports_setLport (d : Dc) (n : Nat) (x : LdgPort) : (d.setLport n x).ports = d.ports := rfl
@[simp] theorem Dc.cw_setLport (d : Dc) (n : Nat) (x : LdgPort) : (d.setLport n x).cw = d.cw := rfl
@[simp] theorem Dc.tim_setLport (d : Dc) (n : Nat) (x : LdgPort) : (d.setLport n x).tim = d.tim := rfl
@[simp] theorem Dc.mire_setLport (d : Dc) (n : Nat) (x : LdgPort) : (d.setLport n x).mire = d.mire := rfl
@[simp] theorem Dc.slu_setLport (d : Dc) (n : Nat) (x : LdgPort) : (d.setLport n x).slu = d.slu := rfl
@[simp] theorem Dc.ctx_setLport (d : Dc) (n : Nat) (x : LdgPort) : (d.setLport n x).ctx = d.ctx := rfl
@[simp] theorem Dc.trg_setLport (d : Dc) (n : Nat) (x : LdgPort) : (d.setLport n x).trg = d.trg := rfl
@[simp] theorem Dc.qlf_setLport (d : Dc) (n : Nat) (x : LdgPort) : (d.setLport n x).qlf = d.qlf := rfl
@[simp] theorem Dc.cmp_setLport (d : Dc) (n : Nat) (x : LdgPort) : (d.setLport n x).cmp = d.cmp := rfl
@[simp] theorem Dc.peat_setLport (d : Dc) (n : Nat) (x : LdgPort) : (d.setLport n x).peat = d.peat := rfl
@[simp] theorem Dc.mem_setLport (d : Dc) (n : Nat) (x : LdgPort) : (d.setLport n x).mem = d.mem := rfl
@[simp] theorem Dc.pair_setLport (d : Dc) (n : Nat) (x : LdgPort) : (d.setLport n x).pair = d.pair := rfl
@[simp] theorem Dc.abs_setLport (d : Dc) (n : Nat) (x : LdgPort) : (d.setLport n x).abs = d.abs := rfl
@[simp] theorem Dc.bt_setLport (d : Dc) (n : Nat) (x : LdgPort) : (d.setLport n x).bt = d.bt := rfl
@[simp] theorem Dc.out_setLport (d : Dc) (n : Nat) (x : LdgPort) : (d.setLport n x).out = d.out := rfl
@[simp] theorem Df.inForce_setWord (d : Df) (a : Nat) (w : Word) (g : Fd) : (d.setWord a w).inForce g = d.inForce g := rfl
@[simp] theorem Df.mode_setWord (d : Df) (a : Nat) (w : Word) (k : Nat) : (d.setWord a w).mode k = d.mode k := rfl
@[simp] theorem Df.chan_setWord (d : Df) (a : Nat) (w : Word) (k : Nat) : (d.setWord a w).chan k = d.chan k := rfl
@[simp] theorem Df.pos_setWord (d : Df) (a : Nat) (w : Word) (k : Nat) : (d.setWord a w).pos k = d.pos k := rfl
@[simp] theorem Df.lane_setWord (d : Df) (a : Nat) (w : Word) (k : Nat) : (d.setWord a w).lane k = d.lane k := rfl
@[simp] theorem Df.down_setWord (d : Df) (a : Nat) (w : Word) (k : Nat) : (d.setWord a w).down k = d.down k := rfl
@[simp] theorem Df.inForce_set (d : Df) (f : Fd) (v : Nat) (g : Fd) : (d.set f v).inForce g = d.inForce g := rfl
@[simp] theorem Df.mode_set (d : Df) (f : Fd) (v : Nat) (k : Nat) : (d.set f v).mode k = d.mode k := rfl
@[simp] theorem Df.chan_set (d : Df) (f : Fd) (v : Nat) (k : Nat) : (d.set f v).chan k = d.chan k := rfl
@[simp] theorem Df.pos_set (d : Df) (f : Fd) (v : Nat) (k : Nat) : (d.set f v).pos k = d.pos k := rfl
@[simp] theorem Df.lane_set (d : Df) (f : Fd) (v : Nat) (k : Nat) : (d.set f v).lane k = d.lane k := rfl
@[simp] theorem Df.down_set (d : Df) (f : Fd) (v : Nat) (k : Nat) : (d.set f v).down k = d.down k := rfl
@[simp] theorem Df.inForce_add (d : Df) (f : Fd) (v : Nat) (g : Fd) : (d.add f v).inForce g = d.inForce g := rfl
@[simp] theorem Df.mode_add (d : Df) (f : Fd) (v : Nat) (k : Nat) : (d.add f v).mode k = d.mode k := rfl
@[simp] theorem Df.chan_add (d : Df) (f : Fd) (v : Nat) (k : Nat) : (d.add f v).chan k = d.chan k := rfl
@[simp] theorem Df.pos_add (d : Df) (f : Fd) (v : Nat) (k : Nat) : (d.add f v).pos k = d.pos k := rfl
@[simp] theorem Df.lane_add (d : Df) (f : Fd) (v : Nat) (k : Nat) : (d.add f v).lane k = d.lane k := rfl
@[simp] theorem Df.down_add (d : Df) (f : Fd) (v : Nat) (k : Nat) : (d.add f v).down k = d.down k := rfl
@[simp] theorem Df.inForce_inc (d : Df) (f : Fd) (g : Fd) : (d.inc f).inForce g = d.inForce g := rfl
@[simp] theorem Df.mode_inc (d : Df) (f : Fd) (k : Nat) : (d.inc f).mode k = d.mode k := rfl
@[simp] theorem Df.chan_inc (d : Df) (f : Fd) (k : Nat) : (d.inc f).chan k = d.chan k := rfl
@[simp] theorem Df.pos_inc (d : Df) (f : Fd) (k : Nat) : (d.inc f).pos k = d.pos k := rfl
@[simp] theorem Df.lane_inc (d : Df) (f : Fd) (k : Nat) : (d.inc f).lane k = d.lane k := rfl
@[simp] theorem Df.down_inc (d : Df) (f : Fd) (k : Nat) : (d.inc f).down k = d.down k := rfl
@[simp] theorem Df.fld_until (d : Df) (t : Nat) (g : Fd) : (d.until t).fld g = d.fld g := rfl
@[simp] theorem Df.word_until (d : Df) (t : Nat) (b : Nat) : (d.until t).word b = d.word b := rfl
@[simp] theorem Df.state_until (d : Df) (t : Nat) : (d.until t).state = d.state := rfl
@[simp] theorem Df.inForce_until (d : Df) (t : Nat) (g : Fd) : (d.until t).inForce g = d.inForce g := rfl
@[simp] theorem Df.mode_until (d : Df) (t : Nat) (k : Nat) : (d.until t).mode k = d.mode k := rfl
@[simp] theorem Df.chan_until (d : Df) (t : Nat) (k : Nat) : (d.until t).chan k = d.chan k := rfl
@[simp] theorem Df.pos_until (d : Df) (t : Nat) (k : Nat) : (d.until t).pos k = d.pos k := rfl
@[simp] theorem Df.lane_until (d : Df) (t : Nat) (k : Nat) : (d.until t).lane k = d.lane k := rfl
@[simp] theorem Df.down_until (d : Df) (t : Nat) (k : Nat) : (d.until t).down k = d.down k := rfl
@[simp] theorem Df.laneRun_until (d : Df) (t : Nat) (k : Nat) : (d.until t).laneRun k = d.laneRun k := rfl
@[simp] theorem Df.source_until (d : Df) (t : Nat) : (d.until t).source = d.source := rfl
@[simp] theorem Df.fld_setChan (d : Df) (ch : Nat) (c : Chan) (g : Fd) : (d.setChan ch c).fld g = d.fld g := rfl
@[simp] theorem Df.word_setChan (d : Df) (ch : Nat) (c : Chan) (b : Nat) : (d.setChan ch c).word b = d.word b := rfl
@[simp] theorem Df.state_setChan (d : Df) (ch : Nat) (c : Chan) : (d.setChan ch c).state = d.state := rfl
@[simp] theorem Df.inForce_setChan (d : Df) (ch : Nat) (c : Chan) (g : Fd) : (d.setChan ch c).inForce g = d.inForce g := rfl
@[simp] theorem Df.mode_setChan (d : Df) (ch : Nat) (c : Chan) (k : Nat) : (d.setChan ch c).mode k = d.mode k := rfl
@[simp] theorem Df.pos_setChan (d : Df) (ch : Nat) (c : Chan) (k : Nat) : (d.setChan ch c).pos k = d.pos k := rfl
@[simp] theorem Df.lane_setChan (d : Df) (ch : Nat) (c : Chan) (k : Nat) : (d.setChan ch c).lane k = d.lane k := rfl
@[simp] theorem Df.down_setChan (d : Df) (ch : Nat) (c : Chan) (k : Nat) : (d.setChan ch c).down k = d.down k := rfl
@[simp] theorem Df.laneRun_setChan (d : Df) (ch : Nat) (c : Chan) (k : Nat) : (d.setChan ch c).laneRun k = d.laneRun k := rfl
@[simp] theorem Df.source_setChan (d : Df) (ch : Nat) (c : Chan) : (d.setChan ch c).source = d.source := rfl
@[simp] theorem Df.fld_setPos (d : Df) (p : Nat) (x : Pos) (g : Fd) : (d.setPos p x).fld g = d.fld g := rfl
@[simp] theorem Df.word_setPos (d : Df) (p : Nat) (x : Pos) (b : Nat) : (d.setPos p x).word b = d.word b := rfl
@[simp] theorem Df.state_setPos (d : Df) (p : Nat) (x : Pos) : (d.setPos p x).state = d.state := rfl
@[simp] theorem Df.inForce_setPos (d : Df) (p : Nat) (x : Pos) (g : Fd) : (d.setPos p x).inForce g = d.inForce g := rfl
@[simp] theorem Df.mode_setPos (d : Df) (p : Nat) (x : Pos) (k : Nat) : (d.setPos p x).mode k = d.mode k := rfl
@[simp] theorem Df.chan_setPos (d : Df) (p : Nat) (x : Pos) (k : Nat) : (d.setPos p x).chan k = d.chan k := rfl
@[simp] theorem Df.lane_setPos (d : Df) (p : Nat) (x : Pos) (k : Nat) : (d.setPos p x).lane k = d.lane k := rfl
@[simp] theorem Df.down_setPos (d : Df) (p : Nat) (x : Pos) (k : Nat) : (d.setPos p x).down k = d.down k := rfl
@[simp] theorem Df.laneRun_setPos (d : Df) (p : Nat) (x : Pos) (k : Nat) : (d.setPos p x).laneRun k = d.laneRun k := rfl
@[simp] theorem Df.source_setPos (d : Df) (p : Nat) (x : Pos) : (d.setPos p x).source = d.source := rfl
@[simp] theorem Df.fld_setLane (d : Df) (l : Nat) (x : TxLane) (g : Fd) : (d.setLane l x).fld g = d.fld g := rfl
@[simp] theorem Df.word_setLane (d : Df) (l : Nat) (x : TxLane) (b : Nat) : (d.setLane l x).word b = d.word b := rfl
@[simp] theorem Df.state_setLane (d : Df) (l : Nat) (x : TxLane) : (d.setLane l x).state = d.state := rfl
@[simp] theorem Df.inForce_setLane (d : Df) (l : Nat) (x : TxLane) (g : Fd) : (d.setLane l x).inForce g = d.inForce g := rfl
@[simp] theorem Df.mode_setLane (d : Df) (l : Nat) (x : TxLane) (k : Nat) : (d.setLane l x).mode k = d.mode k := rfl
@[simp] theorem Df.chan_setLane (d : Df) (l : Nat) (x : TxLane) (k : Nat) : (d.setLane l x).chan k = d.chan k := rfl
@[simp] theorem Df.pos_setLane (d : Df) (l : Nat) (x : TxLane) (k : Nat) : (d.setLane l x).pos k = d.pos k := rfl
@[simp] theorem Df.down_setLane (d : Df) (l : Nat) (x : TxLane) (k : Nat) : (d.setLane l x).down k = d.down k := rfl
@[simp] theorem Df.laneRun_setLane (d : Df) (l : Nat) (x : TxLane) (k : Nat) : (d.setLane l x).laneRun k = d.laneRun k := rfl
@[simp] theorem Df.source_setLane (d : Df) (l : Nat) (x : TxLane) : (d.setLane l x).source = d.source := rfl
@[simp] theorem Df.fld_setDown (d : Df) (i : Nat) (x : RxDown) (g : Fd) : (d.setDown i x).fld g = d.fld g := rfl
@[simp] theorem Df.word_setDown (d : Df) (i : Nat) (x : RxDown) (b : Nat) : (d.setDown i x).word b = d.word b := rfl
@[simp] theorem Df.state_setDown (d : Df) (i : Nat) (x : RxDown) : (d.setDown i x).state = d.state := rfl
@[simp] theorem Df.inForce_setDown (d : Df) (i : Nat) (x : RxDown) (g : Fd) : (d.setDown i x).inForce g = d.inForce g := rfl
@[simp] theorem Df.mode_setDown (d : Df) (i : Nat) (x : RxDown) (k : Nat) : (d.setDown i x).mode k = d.mode k := rfl
@[simp] theorem Df.chan_setDown (d : Df) (i : Nat) (x : RxDown) (k : Nat) : (d.setDown i x).chan k = d.chan k := rfl
@[simp] theorem Df.pos_setDown (d : Df) (i : Nat) (x : RxDown) (k : Nat) : (d.setDown i x).pos k = d.pos k := rfl
@[simp] theorem Df.lane_setDown (d : Df) (i : Nat) (x : RxDown) (k : Nat) : (d.setDown i x).lane k = d.lane k := rfl
@[simp] theorem Df.laneRun_setDown (d : Df) (i : Nat) (x : RxDown) (k : Nat) : (d.setDown i x).laneRun k = d.laneRun k := rfl
@[simp] theorem Df.source_setDown (d : Df) (i : Nat) (x : RxDown) : (d.setDown i x).source = d.source := rfl
@[simp] theorem Dc.recv_setWord (d : Dc) (a : Nat) (w : Word) (k : Nat) : (d.setWord a w).recv k = d.recv k := rfl
@[simp] theorem Dc.port_setWord (d : Dc) (a : Nat) (w : Word) (k : Nat) : (d.setWord a w).port k = d.port k := rfl
@[simp] theorem Dc.lane_setWord (d : Dc) (a : Nat) (w : Word) (k : Nat) : (d.setWord a w).lane k = d.lane k := rfl
@[simp] theorem Dc.ctxLine_setWord (d : Dc) (a : Nat) (w : Word) (k : Nat) : (d.setWord a w).ctxLine k = d.ctxLine k := rfl
@[simp] theorem Dc.lport_setWord (d : Dc) (a : Nat) (w : Word) (k : Nat) : (d.setWord a w).lport k = d.lport k := rfl
@[simp] theorem Dc.tot_setWord (d : Dc) (a : Nat) (w : Word) (k : Nat) : (d.setWord a w).tot k = d.tot k := rfl
@[simp] theorem Dc.recv_set (d : Dc) (f : Fd) (v : Nat) (k : Nat) : (d.set f v).recv k = d.recv k := rfl
@[simp] theorem Dc.port_set (d : Dc) (f : Fd) (v : Nat) (k : Nat) : (d.set f v).port k = d.port k := rfl
@[simp] theorem Dc.lane_set (d : Dc) (f : Fd) (v : Nat) (k : Nat) : (d.set f v).lane k = d.lane k := rfl
@[simp] theorem Dc.ctxLine_set (d : Dc) (f : Fd) (v : Nat) (k : Nat) : (d.set f v).ctxLine k = d.ctxLine k := rfl
@[simp] theorem Dc.lport_set (d : Dc) (f : Fd) (v : Nat) (k : Nat) : (d.set f v).lport k = d.lport k := rfl
@[simp] theorem Dc.tot_set (d : Dc) (f : Fd) (v : Nat) (k : Nat) : (d.set f v).tot k = d.tot k := rfl
@[simp] theorem Dc.recv_add (d : Dc) (f : Fd) (v : Nat) (k : Nat) : (d.add f v).recv k = d.recv k := rfl
@[simp] theorem Dc.port_add (d : Dc) (f : Fd) (v : Nat) (k : Nat) : (d.add f v).port k = d.port k := rfl
@[simp] theorem Dc.lane_add (d : Dc) (f : Fd) (v : Nat) (k : Nat) : (d.add f v).lane k = d.lane k := rfl
@[simp] theorem Dc.ctxLine_add (d : Dc) (f : Fd) (v : Nat) (k : Nat) : (d.add f v).ctxLine k = d.ctxLine k := rfl
@[simp] theorem Dc.lport_add (d : Dc) (f : Fd) (v : Nat) (k : Nat) : (d.add f v).lport k = d.lport k := rfl
@[simp] theorem Dc.tot_add (d : Dc) (f : Fd) (v : Nat) (k : Nat) : (d.add f v).tot k = d.tot k := rfl
@[simp] theorem Dc.recv_inc (d : Dc) (f : Fd) (k : Nat) : (d.inc f).recv k = d.recv k := rfl
@[simp] theorem Dc.port_inc (d : Dc) (f : Fd) (k : Nat) : (d.inc f).port k = d.port k := rfl
@[simp] theorem Dc.lane_inc (d : Dc) (f : Fd) (k : Nat) : (d.inc f).lane k = d.lane k := rfl
@[simp] theorem Dc.ctxLine_inc (d : Dc) (f : Fd) (k : Nat) : (d.inc f).ctxLine k = d.ctxLine k := rfl
@[simp] theorem Dc.lport_inc (d : Dc) (f : Fd) (k : Nat) : (d.inc f).lport k = d.lport k := rfl
@[simp] theorem Dc.tot_inc (d : Dc) (f : Fd) (k : Nat) : (d.inc f).tot k = d.tot k := rfl
@[simp] theorem Dc.fld_until (d : Dc) (t : Nat) (g : Fd) : (d.until t).fld g = d.fld g := rfl
@[simp] theorem Dc.word_until (d : Dc) (t : Nat) (b : Nat) : (d.until t).word b = d.word b := rfl
@[simp] theorem Dc.state_until (d : Dc) (t : Nat) : (d.until t).state = d.state := rfl
@[simp] theorem Dc.role_until (d : Dc) (t : Nat) : (d.until t).role = d.role := rfl
@[simp] theorem Dc.active_until (d : Dc) (t : Nat) : (d.until t).active = d.active := rfl
@[simp] theorem Dc.recv_until (d : Dc) (t : Nat) (k : Nat) : (d.until t).recv k = d.recv k := rfl
@[simp] theorem Dc.port_until (d : Dc) (t : Nat) (k : Nat) : (d.until t).port k = d.port k := rfl
@[simp] theorem Dc.lane_until (d : Dc) (t : Nat) (k : Nat) : (d.until t).lane k = d.lane k := rfl
@[simp] theorem Dc.ctxLine_until (d : Dc) (t : Nat) (k : Nat) : (d.until t).ctxLine k = d.ctxLine k := rfl
@[simp] theorem Dc.lport_until (d : Dc) (t : Nat) (k : Nat) : (d.until t).lport k = d.lport k := rfl
@[simp] theorem Dc.tot_until (d : Dc) (t : Nat) (k : Nat) : (d.until t).tot k = d.tot k := rfl
@[simp] theorem Dc.fld_emit (d : Dc) (x : DcSent) (g : Fd) : (d.emit x).fld g = d.fld g := rfl
@[simp] theorem Dc.word_emit (d : Dc) (x : DcSent) (b : Nat) : (d.emit x).word b = d.word b := rfl
@[simp] theorem Dc.state_emit (d : Dc) (x : DcSent) : (d.emit x).state = d.state := rfl
@[simp] theorem Dc.role_emit (d : Dc) (x : DcSent) : (d.emit x).role = d.role := rfl
@[simp] theorem Dc.active_emit (d : Dc) (x : DcSent) : (d.emit x).active = d.active := rfl
@[simp] theorem Dc.recv_emit (d : Dc) (x : DcSent) (k : Nat) : (d.emit x).recv k = d.recv k := rfl
@[simp] theorem Dc.port_emit (d : Dc) (x : DcSent) (k : Nat) : (d.emit x).port k = d.port k := rfl
@[simp] theorem Dc.lane_emit (d : Dc) (x : DcSent) (k : Nat) : (d.emit x).lane k = d.lane k := rfl
@[simp] theorem Dc.ctxLine_emit (d : Dc) (x : DcSent) (k : Nat) : (d.emit x).ctxLine k = d.ctxLine k := rfl
@[simp] theorem Dc.lport_emit (d : Dc) (x : DcSent) (k : Nat) : (d.emit x).lport k = d.lport k := rfl
@[simp] theorem Dc.tot_emit (d : Dc) (x : DcSent) (k : Nat) : (d.emit x).tot k = d.tot k := rfl
@[simp] theorem Dc.fld_setRecv (d : Dc) (r : Nat) (x : Rx) (g : Fd) : (d.setRecv r x).fld g = d.fld g := rfl
@[simp] theorem Dc.word_setRecv (d : Dc) (r : Nat) (x : Rx) (b : Nat) : (d.setRecv r x).word b = d.word b := rfl
@[simp] theorem Dc.state_setRecv (d : Dc) (r : Nat) (x : Rx) : (d.setRecv r x).state = d.state := rfl
@[simp] theorem Dc.role_setRecv (d : Dc) (r : Nat) (x : Rx) : (d.setRecv r x).role = d.role := rfl
@[simp] theorem Dc.active_setRecv (d : Dc) (r : Nat) (x : Rx) : (d.setRecv r x).active = d.active := rfl
@[simp] theorem Dc.port_setRecv (d : Dc) (r : Nat) (x : Rx) (k : Nat) : (d.setRecv r x).port k = d.port k := rfl
@[simp] theorem Dc.lane_setRecv (d : Dc) (r : Nat) (x : Rx) (k : Nat) : (d.setRecv r x).lane k = d.lane k := rfl
@[simp] theorem Dc.ctxLine_setRecv (d : Dc) (r : Nat) (x : Rx) (k : Nat) : (d.setRecv r x).ctxLine k = d.ctxLine k := rfl
@[simp] theorem Dc.lport_setRecv (d : Dc) (r : Nat) (x : Rx) (k : Nat) : (d.setRecv r x).lport k = d.lport k := rfl
@[simp] theorem Dc.tot_setRecv (d : Dc) (r : Nat) (x : Rx) (k : Nat) : (d.setRecv r x).tot k = d.tot k := rfl
@[simp] theorem Dc.fld_setPort (d : Dc) (n : Nat) (x : Port) (g : Fd) : (d.setPort n x).fld g = d.fld g := rfl
@[simp] theorem Dc.word_setPort (d : Dc) (n : Nat) (x : Port) (b : Nat) : (d.setPort n x).word b = d.word b := rfl
@[simp] theorem Dc.state_setPort (d : Dc) (n : Nat) (x : Port) : (d.setPort n x).state = d.state := rfl
@[simp] theorem Dc.role_setPort (d : Dc) (n : Nat) (x : Port) : (d.setPort n x).role = d.role := rfl
@[simp] theorem Dc.active_setPort (d : Dc) (n : Nat) (x : Port) : (d.setPort n x).active = d.active := rfl
@[simp] theorem Dc.recv_setPort (d : Dc) (n : Nat) (x : Port) (k : Nat) : (d.setPort n x).recv k = d.recv k := rfl
@[simp] theorem Dc.lane_setPort (d : Dc) (n : Nat) (x : Port) (k : Nat) : (d.setPort n x).lane k = d.lane k := rfl
@[simp] theorem Dc.ctxLine_setPort (d : Dc) (n : Nat) (x : Port) (k : Nat) : (d.setPort n x).ctxLine k = d.ctxLine k := rfl
@[simp] theorem Dc.lport_setPort (d : Dc) (n : Nat) (x : Port) (k : Nat) : (d.setPort n x).lport k = d.lport k := rfl
@[simp] theorem Dc.tot_setPort (d : Dc) (n : Nat) (x : Port) (k : Nat) : (d.setPort n x).tot k = d.tot k := rfl
@[simp] theorem Dc.fld_setLane (d : Dc) (l : Nat) (x : CwLane) (g : Fd) : (d.setLane l x).fld g = d.fld g := rfl
@[simp] theorem Dc.word_setLane (d : Dc) (l : Nat) (x : CwLane) (b : Nat) : (d.setLane l x).word b = d.word b := rfl
@[simp] theorem Dc.state_setLane (d : Dc) (l : Nat) (x : CwLane) : (d.setLane l x).state = d.state := rfl
@[simp] theorem Dc.role_setLane (d : Dc) (l : Nat) (x : CwLane) : (d.setLane l x).role = d.role := rfl
@[simp] theorem Dc.active_setLane (d : Dc) (l : Nat) (x : CwLane) : (d.setLane l x).active = d.active := rfl
@[simp] theorem Dc.recv_setLane (d : Dc) (l : Nat) (x : CwLane) (k : Nat) : (d.setLane l x).recv k = d.recv k := rfl
@[simp] theorem Dc.port_setLane (d : Dc) (l : Nat) (x : CwLane) (k : Nat) : (d.setLane l x).port k = d.port k := rfl
@[simp] theorem Dc.ctxLine_setLane (d : Dc) (l : Nat) (x : CwLane) (k : Nat) : (d.setLane l x).ctxLine k = d.ctxLine k := rfl
@[simp] theorem Dc.lport_setLane (d : Dc) (l : Nat) (x : CwLane) (k : Nat) : (d.setLane l x).lport k = d.lport k := rfl
@[simp] theorem Dc.tot_setLane (d : Dc) (l : Nat) (x : CwLane) (k : Nat) : (d.setLane l x).tot k = d.tot k := rfl
@[simp] theorem Dc.fld_setCtx (d : Dc) (i : Nat) (l : CtxLine) (g : Fd) : (d.setCtx i l).fld g = d.fld g := rfl
@[simp] theorem Dc.word_setCtx (d : Dc) (i : Nat) (l : CtxLine) (b : Nat) : (d.setCtx i l).word b = d.word b := rfl
@[simp] theorem Dc.state_setCtx (d : Dc) (i : Nat) (l : CtxLine) : (d.setCtx i l).state = d.state := rfl
@[simp] theorem Dc.role_setCtx (d : Dc) (i : Nat) (l : CtxLine) : (d.setCtx i l).role = d.role := rfl
@[simp] theorem Dc.active_setCtx (d : Dc) (i : Nat) (l : CtxLine) : (d.setCtx i l).active = d.active := rfl
@[simp] theorem Dc.recv_setCtx (d : Dc) (i : Nat) (l : CtxLine) (k : Nat) : (d.setCtx i l).recv k = d.recv k := rfl
@[simp] theorem Dc.port_setCtx (d : Dc) (i : Nat) (l : CtxLine) (k : Nat) : (d.setCtx i l).port k = d.port k := rfl
@[simp] theorem Dc.lane_setCtx (d : Dc) (i : Nat) (l : CtxLine) (k : Nat) : (d.setCtx i l).lane k = d.lane k := rfl
@[simp] theorem Dc.lport_setCtx (d : Dc) (i : Nat) (l : CtxLine) (k : Nat) : (d.setCtx i l).lport k = d.lport k := rfl
@[simp] theorem Dc.tot_setCtx (d : Dc) (i : Nat) (l : CtxLine) (k : Nat) : (d.setCtx i l).tot k = d.tot k := rfl
@[simp] theorem Dc.fld_setLport (d : Dc) (n : Nat) (x : LdgPort) (g : Fd) : (d.setLport n x).fld g = d.fld g := rfl
@[simp] theorem Dc.word_setLport (d : Dc) (n : Nat) (x : LdgPort) (b : Nat) : (d.setLport n x).word b = d.word b := rfl
@[simp] theorem Dc.state_setLport (d : Dc) (n : Nat) (x : LdgPort) : (d.setLport n x).state = d.state := rfl
@[simp] theorem Dc.role_setLport (d : Dc) (n : Nat) (x : LdgPort) : (d.setLport n x).role = d.role := rfl
@[simp] theorem Dc.active_setLport (d : Dc) (n : Nat) (x : LdgPort) : (d.setLport n x).active = d.active := rfl
@[simp] theorem Dc.recv_setLport (d : Dc) (n : Nat) (x : LdgPort) (k : Nat) : (d.setLport n x).recv k = d.recv k := rfl
@[simp] theorem Dc.port_setLport (d : Dc) (n : Nat) (x : LdgPort) (k : Nat) : (d.setLport n x).port k = d.port k := rfl
@[simp] theorem Dc.lane_setLport (d : Dc) (n : Nat) (x : LdgPort) (k : Nat) : (d.setLport n x).lane k = d.lane k := rfl
@[simp] theorem Dc.ctxLine_setLport (d : Dc) (n : Nat) (x : LdgPort) (k : Nat) : (d.setLport n x).ctxLine k = d.ctxLine k := rfl

@[simp] theorem Df.now_until (d : Df) (t : Nat) : (d.until t).now = laterTick d.now t := rfl
@[simp] theorem Dc.now_until (d : Dc) (t : Nat) : (d.until t).now = laterTick d.now t := rfl
@[simp] theorem Dc.out_emit (d : Dc) (x : DcSent) : (d.emit x).out = x :: d.out := rfl
@[simp] theorem Df.out_emit (d : Df) (x : DfSent) : (d.emit x).out = x :: d.out := rfl

end Sys2Proof.Machine
end

