-- ==== Sys2Proof/Laws/Ops.lean ====
section
/-! SUPPORT. What the operations that many commands share can do, each said once: what an event in the correction log, a notice, a bite and a memory read may change, and
that every command answers a next state. -/
namespace Sys2Proof.Machine

/-- Every command answers a next state: no meaning faults and none refuses. -/
theorem exec_answers (c : Instr) (s : State) : ∃ t, exec c s = .next t := by
  cases c <;> first
    | exact ⟨_, rfl⟩
    | (simp only [exec, execBrownOut, execCausewayBlockReceive, execDrainDatagram, execDroopRecover, execDroopStep, execFuseLoad, execImageLoad, execInjErr, execMapRebuild,
        execMarkerSlot, execPatternWordCheck, execPowerOn, execPowerRelease, execRegisterWrite, execSoftReset, execTmrWalk, execUplinkBlockReceive, execUplinkSlotSend]
       repeat' split
       all_goals exact ⟨_, rfl⟩)

/-- A log event changes the correction log and registers alone. -/
theorem Dc.logEvent_frame (d : Dc) (source kind unit pos addr syndrome : Nat) :
    ∃ m r, (d.logEvent source kind unit pos addr syndrome).1 = { d with mem := m, regs := r } := by
  unfold Dc.logEvent
  dsimp only
  split
  · exact ⟨_, _, rfl⟩
  · split <;> exact ⟨_, _, rfl⟩

/-- A log event leaves the marks of memory words as they are. -/
theorem Dc.logEvent_marks (d : Dc) (source kind unit pos addr syndrome : Nat) :
    (d.logEvent source kind unit pos addr syndrome).1.mem.sram = d.mem.sram ∧ (d.logEvent source kind unit pos addr syndrome).1.mem.dram = d.mem.dram := by
  unfold Dc.logEvent
  dsimp only
  split
  · exact ⟨rfl, rfl⟩
  · split <;> exact ⟨rfl, rfl⟩

/-- A bite changes the correction log and registers alone. -/
theorem Dc.bite_frame (d : Dc) (source unit addr : Nat) : ∃ m r, d.bite source unit addr = { d with mem := m, regs := r } := by
  obtain ⟨m, r, h⟩ := (d.inc DC.MEM.BITES.COUNT).logEvent_frame source kindBite unit noPos addr 0
  exact ⟨m, r, h.trans rfl⟩

/-- A bite leaves the marks of memory words as they are. -/
theorem Dc.bite_marks (d : Dc) (source unit addr : Nat) : (d.bite source unit addr).mem.sram = d.mem.sram ∧ (d.bite source unit addr).mem.dram = d.mem.dram :=
  (d.inc DC.MEM.BITES.COUNT).logEvent_marks source kindBite unit noPos addr 0

end Sys2Proof.Machine
end

