-- ==== Sys2Proof/Machine/Pins.lean ====
section
/-! DEFINITION. Where the channel inputs and their returns lie on the package of the DF640 (R486, R488). Nothing in the block reads this. -/
namespace Sys2Proof.Machine

/-- The letters of rows (R486). -/
def rowLetters : List Char := ['A', 'B', 'C', 'D', 'E', 'F', 'G', 'H', 'J', 'K', 'L', 'M', 'N', 'P', 'T', 'U', 'V', 'W', 'Y']

/-- The name of the `k`-th row, counted from 1: one letter, then the letters after A, then those after B (R486). -/
def rowName (k : Nat) : List Char :=
  (if k ≤ 19 then [] else if k ≤ 38 then ['A'] else ['B']) ++ (rowLetters[(k - 1) % 19]?).toList

/-- The column of group `g` of eight channels (R488). -/
def groupColumn (g : Nat) : Nat := if g < 40 then 1 + g / 4 else 36 - (g - 40) / 4

/-- Place `j` of the nine of a group: row and column (R488). -/
def groupBall (g j : Nat) : List Char × Nat := (rowName (9 * (g % 4) + j + 1), groupColumn g)

/-- The ball of channel input `c` (R488). -/
def channelBall (c : Nat) : List Char × Nat := groupBall (c / 8) (if c % 8 < 4 then c % 8 else c % 8 + 1)

/-- The ball of the signal return of group `g` (R488). -/
def returnBall (g : Nat) : List Char × Nat := groupBall g 4

end Sys2Proof.Machine
end

