-- ==== Sys2Proof/WellFormed.lean ====
section
/-! DEFINITION. Which commands are well formed: every operand within the width that the spec gives it. -/
namespace Sys2Proof

/-- An address of a chip's register map: 16 bits and word-aligned by construction in a DF640, 24 bits in a DC64 (R12, R472). -/
def ChipRef.addressWf (c : ChipRef) (a : Nat) : Bool :=
  match c with
  | .dc _ => decide (a < 2 ^ 32)
  | .df _ => decide (a < 65536)

/-- Header fields within their widths (R402). -/
def Pkt.wf (p : Pkt) : Bool :=
  decide (p.port < 2 ∧ p.srcIp < 2 ^ 32 ∧ p.srcUdp < 65536 ∧ p.dstIp < 2 ^ 32 ∧ p.udpLength < 65536) && decide (p.magic < 2 ^ 16 ∧ p.version < 256 ∧ p.flags < 256)
    && decide (p.session < 2 ^ 32 ∧ p.sequence < 2 ^ 32 ∧ p.opcode < 65536 ∧ p.length < 65536 ∧ p.target < 256)
    && decide (p.epoch < 65536 ∧ p.status < 256 ∧ p.reserved < 2 ^ 32 ∧ p.tag < 2 ^ 128)

/-- Command frame fields within their widths (R413). -/
def FrameHdr.wf (f : FrameHdr) : Bool := decide (f.k < 256 ∧ f.epoch < 65536 ∧ f.identity < 4096 ∧ f.owner < 16)

/-- A PTP message within the widths of IEEE 1588 (R177). -/
def PtpMsg.wf (m : PtpMsg) : Bool := decide (m.domain < 256 ∧ m.clockId < 2 ^ 64 ∧ m.portNumber < 65536 ∧ m.sequence < 65536)

/-- A data set within its widths (R178). -/
def Dataset.wf (d : Dataset) : Bool :=
  decide (d.priority1 < 256 ∧ d.clockClass < 256 ∧ d.accuracy < 256 ∧ d.variance < 65536 ∧ d.priority2 < 256 ∧ d.grandmaster < 2 ^ 64 ∧ d.stepsRemoved < 65536)

/-- Findings of a read: an 8-bit syndrome of a SRAM word; eight beats of a DRAM codeword, or none, and eight syndrome symbols (R323, R339). -/
def SramFind.wf (f : SramFind) : Bool := decide (f.syndrome < 256)
def DramFind.wf (f : DramFind) : Bool := decide (f.beats.length = 8 ∨ f.beats.length = 0) && decide (f.syndrome < 2 ^ 64)

/-- Fuse words within their widths (R430). -/
def Fuses.wf (f : Fuses) : Bool :=
  f.key.all (fun k => k.length == 32 && k.all fun b => decide (b < 256)) && f.dieId.all (fun x => decide (x < 2 ^ 64))
    && f.digest.all (fun x => decide (x < 2 ^ 256))

/-- A channel's geometry within the fields of `DC.PEAT.GEOM` (R298, R320). -/
def FlashChan.wf (g : FlashChan) : Bool := decide (g.targets < 4 ∧ g.luns < 2 ∧ g.planes < 4)

/-- A line of eight words, each clean, POISON or TORN (R325). -/
def LineWrite.wf (x : LineWrite) : Bool := x.data.length == 8 && x.marks.length == 8 && x.marks.all fun m => decide (m < 3)

/-- Wrong bits of the 16 BCH codewords of a flash page (R331). -/
def pageWrongWf (wrong : List Nat) : Bool := decide (wrong.length ≤ 16)

/-- Every operand of a command within its width. -/
def Instr.wf : Instr → Bool
  | .registerWrite c req addr _ => decide (req < 10) && c.addressWf addr
  | .rcRead c req addr => decide (req < 10) && c.addressWf addr
  | .loReadLatch c req addr => decide (req < 10) && c.addressWf addr
  | .leadingEdge _ _ _ m _ => decide (m < 2 ^ 64)
  | .vCrossing _ _ x => decide (x.tick < 2 ^ 64)
  | .validationWindowEnd _ _ => true
  | .gateClose _ _ => true
  | .trailingEdge _ _ _ m _ => decide (m < 2 ^ 64)
  | .totSatTimeout _ _ => true
  | .clampConduction _ _ _ => true
  | .blcLimit _ _ _ => true
  | .blankingEnd _ _ => true
  | .sourceChangeBlankEnd _ _ => true
  | .calibrationWindowEnd _ _ _ _ => true
  | .refreshTimerExpiry _ _ => true
  | .calRetryTimer _ _ => true
  | .retry _ _ => true
  | .anchorDllLock _ _ => true
  | .anchorDllUnlock _ _ => true
  | .anchorRearm _ _ => true
  | .rootLockLoss _ => true
  | .rootLockReturn _ => true
  | .injectionLaunch _ _ levels => levels.all fun c => decide (c.1 < 640)
  | .hitComplete _ _ => true
  | .dispatch _ => true
  | .blockFlushTimeout _ _ => true
  | .tussockEvaluation _ => true
  | .ledgerEmit _ => true
  | .dfFrameBoundary _ => true
  | .uplinkSlotSend _ _ => true
  | .markerSlot _ _ m fine => decide (m < 2 ^ 64) && decide (fine < 1024)
  | .laneSleep _ _ => true
  | .wakeSlotSend _ _ => true
  | .uplinkBlockReceive _ _ _ k line t fine => decide (k < 4096) && line.length == 2134 && decide (t < 2 ^ 64) && decide (fine < 1024)
  | .sleepSlotReceive _ _ _ => true
  | .wakeSlotReceive _ _ _ => true
  | .markerReceive _ _ _ t fine => decide (t < 2 ^ 64) && decide (fine < 1024)
  | .markerMiss _ => true
  | .downlinkRestart _ _ => true
  | .laneLock _ => true
  | .lockTimeout _ => true
  | .trainPassEnd _ errors _ => decide (errors < 2 ^ 20 + 1)
  | .judgeWordAccept _ _ => true
  | .decisionApply _ _ => true
  | .stepEnd _ => true
  | .faultTimeout _ => true
  | .portEn _ _ _ => true
  | .portTest _ _ _ => true
  | .laneTest _ lanes => decide (lanes < 16)
  | .injErr _ _ => true
  | .downlinkWake _ _ => true
  | .dcFrameBoundary _ => true
  | .downlinkBlockSend _ _ => true
  | .downlinkBlockReceive _ _ k line => decide (k < 981) && [534, 1068, 2136].contains line.length
  | .frameMarkerReceive _ _ _ m fine => decide (m < 2 ^ 64) && decide (fine < 1024)
  | .epochSetGo _ => true
  | .trigInEdge _ _ _ t fine => decide (t < 2 ^ 64) && decide (fine < 1024)
  | .ppsInEdge _ t fine => decide (t < 2 ^ 64) && decide (fine < 1024)
  | .ppsOutEdge _ => true
  | .ppsOutEnd _ => true
  | .alignment _ _ _ _ => true
  | .clockSourceSwitch _ => true
  | .ptpSyncReceive _ _ msg => msg.wf
  | .ptpAnnounceReceive _ _ msg ds => msg.wf && ds.wf
  | .delayReqSend _ _ tag t fine => decide (tag < 65536) && decide (t < 2 ^ 64) && decide (fine < 1024)
  | .ptpDelayResponse _ _ msg tag _ => msg.wf && decide (tag < 65536)
  | .txqHead _ req => decide (req < 10)
  | .masterLoss _ => true
  | .mireSlotWrite _ _ => true
  | .frameIndexWrite _ => true
  | .dramRefresh _ _ t => decide (t < 2 ^ 64)
  | .rdl _ _ target line => decide (target < 9) && decide (line < 2 ^ 40)
  | .wr _ _ target line x => decide (target < 9) && decide (line < 2 ^ 40) && x.wf
  | .wru _ _ target line x => decide (target < 9) && decide (line < 2 ^ 40) && x.wf
  | .unl _ _ => true
  | .sequenceLeaseExpiry _ _ => true
  | .tornRelease _ _ => true
  | .contextWrite _ _ _ _ => true
  | .rateSweep _ => true
  | .calibrationEvaluation _ => true
  | .wmWaitExpiry _ => true
  | .groupEvaluation _ => true
  | .soft _ pkt tag => pkt.wf && decide (tag < 2 ^ 32)
  | .window _ pkt start stop tag => pkt.wf && decide (start < 2 ^ 64) && decide (stop < 2 ^ 64) && decide (tag < 2 ^ 32)
  | .engineEn _ _ => true
  | .patternEn _ _ _ => true
  | .captureReady _ seq slots => decide (seq < 2 ^ 48) && decide (slots < 2 ^ 40)
  | .fragmentClose _ seq => decide (seq < 2 ^ 48)
  | .extractionComplete _ seq => decide (seq < 2 ^ 48)
  | .ratePeriodEnd _ => true
  | .qualifierFragmentArrival _ => true
  | .maskLoad _ _ _ => true
  | .codeRecord _ fault => fault.all fun x => decide (x.2 < 256)
  | .lzdFlush _ _ => true
  | .foldStart _ _ => true
  | .foldData64 _ _ _ => true
  | .foldData32 _ _ _ => true
  | .foldValueWrite _ _ _ _ => true
  | .recordSubmit _ => true
  | .pageFlushTimeout _ => true
  | .pageProgramDone _ page _ t => decide (page < 2 ^ 50) && decide (t < 2 ^ 64)
  | .journalPageProgram _ => true
  | .journalProgramDone _ _ _ => true
  | .checkpointStart _ => true
  | .checkpointDone _ => true
  | .blockEraseDone _ _ _ => true
  | .blockRelocation _ _ block => decide (block < 2 ^ 20)
  | .pfail _ => true
  | .peatResume _ => true
  | .peatReplay _ x => decide (x.ms < 2 ^ 32)
  | .drainDatagram _ _ wrong => pageWrongWf wrong
  | .mapRebuild _ wrong => pageWrongWf wrong
  | .ackWaitTimeout _ => true
  | .peatStoreEn _ _ => true
  | .peatCredit _ pkt id limit => pkt.wf && decide (id < 2 ^ 32) && decide (limit < 2 ^ 64)
  | .peatAck _ pkt id pos => pkt.wf && decide (id < 2 ^ 32) && decide (pos < 2 ^ 64)
  | .peatRewind _ pkt id pos => pkt.wf && decide (id < 2 ^ 32) && decide (pos < 2 ^ 64)
  | .peatCheckpoint _ pkt => pkt.wf
  | .peatFormat _ pkt word => pkt.wf && decide (word < 2 ^ 32)
  | .peatFence _ pkt index => pkt.wf && decide (index < 2 ^ 32)
  | .sramScrub _ _ word found => decide (word < 2 ^ 24) && found.wf
  | .bucketLeak _ _ => true
  | .scrubRead _ _ addr found => addr % 32 == 0 && found.wf
  | .memHeal _ pkt c start len => pkt.wf && decide (c < 8) && decide (start < 2 ^ 64) && decide (len < 2 ^ 64)
  | .memRetire _ pkt c page => pkt.wf && decide (c < 8) && decide (page < 2 ^ 32)
  | .logAck _ index => decide (index < 2 ^ 32)
  | .tmrWalk _ copies => decide (copies < 2 ^ 32)
  | .causewayBlockReceive _ _ k line t fine => decide (k < 4096) && line.length == 2134 && decide (t < 2 ^ 64) && decide (fine < 1024)
  | .heartbeatCheck _ => true
  | .roleTimeout _ => true
  | .stateCopySend _ => true
  | .copyDeadline _ => true
  | .ackDeadline _ => true
  | .ownershipCheck _ replies => replies.all fun r => decide (r.epoch < 65536) && decide (r.source < 2)
  | .takeover _ => true
  | .handover _ => true
  | .gratuitousArp _ => true
  | .pairHandover _ pkt => pkt.wf
  | .pairForce _ pkt seq => pkt.wf && decide (seq < 2 ^ 48)
  | .hkConversionSlot _ codes wires _ => (codes ++ wires).all fun x => decide (-(2 ^ 23) ≤ x ∧ x < 2 ^ 23)
  | .hkEn _ _ => true
  | .hkCalibration _ => true
  | .hkCalibrationDone _ points => points.length == 8 && points.all fun x => decide (x.1.natAbs < 32768 ∧ x.2.natAbs < 1000000)
  | .hkPortClamp _ _ _ => true
  | .biasEvaluation _ => true
  | .monitorUpdate _ _ age => decide (age < 2 ^ 32)
  | .arpRequest _ _ ip asker => decide (ip < 2 ^ 32) && decide (asker < 2 ^ 32)
  | .strangerFrame _ _ x => decide (x.etherType < 65536 ∧ x.asked < 2 ^ 32 ∧ x.dstIp < 2 ^ 32) && decide (x.protocol < 256 ∧ x.dstUdp < 65536 ∧ x.udpLength < 65536)
  | .rateLimitLeak _ => true
  | .absynRead _ pkt addr count => pkt.wf && decide (addr < 2 ^ 32) && decide (1 ≤ count ∧ count ≤ 64)
  | .absynWrite _ pkt addr _ => pkt.wf && decide (addr < 2 ^ 32)
  | .absynWriteBlock _ pkt addr values => pkt.wf && decide (addr < 2 ^ 32) && decide (1 ≤ values.length ∧ values.length ≤ 64)
  | .sessionOpen _ pkt nonce => pkt.wf && decide (nonce < 2 ^ 64)
  | .sessionClose _ pkt => pkt.wf
  | .noticeAck _ pkt seq => pkt.wf && decide (seq < 2 ^ 32)
  | .noticeResend _ => true
  | .forwarded _ pkt params => pkt.wf && decide (params.length < 256)
  | .commandFrameSend _ _ => true
  | .commandRetry _ _ => true
  | .ibastRead _ f addr count => f.wf && decide (addr < 65536) && decide (1 ≤ count ∧ count ≤ 8)
  | .ibastWrite _ f addr _ => f.wf && decide (addr < 65536)
  | .ibastWriteBlock _ f addr values => f.wf && decide (addr < 65536) && decide (1 ≤ values.length ∧ values.length ≤ 32)
  | .lock _ f => f.wf
  | .commit _ f => f.wf
  | .abandon _ f => f.wf
  | .leaseExpiry _ => true
  | .take _ f _ => f.wf
  | .sync _ f => f.wf
  | .arm _ f => f.wf
  | .disarm _ f => f.wf
  | .inject _ f armMask stopMask => f.wf && decide (armMask < 16) && decide (stopMask < 16)
  | .hkInject _ f _ _ => f.wf
  | .linkStep _ f lanes downs _ => f.wf && decide (lanes < 16) && decide (downs < 4)
  | .sleep _ f => f.wf
  | .dormant _ f => f.wf
  | .wake _ f => f.wf
  | .echo _ f => f.wf
  | .echoTimeout _ => true
  | .powerOn _ => true
  | .brownOut _ => true
  | .pinReset _ => true
  | .softReset _ _ => true
  | .powerRelease _ _ _ => true
  | .fuseLoad _ fuses => fuses.wf
  | .imageLoad _ image _ => image.all fun b => decide (b < 256)
  | .imageRetry _ => true
  | .selftest _ fail => decide (fail < 2 ^ 32)
  | .dramTrain _ caps => caps.length == 8 && caps.all fun c => c.all fun k => decide (k < 4)
  | .fill _ ms => decide (ms < 2 ^ 32)
  | .coreStart _ image flash => (image.all fun b => decide (b < 256)) && flash.all fun l => l.length == 8 && l.all FlashChan.wf
  | .goCluster _ => true
  | .goRun _ => true
  | .frontEndConfig _ _ => true
  | .done _ => true
  | .listenTimeout _ => true
  | .safeEntry _ => true
  | .droopStep _ mv => decide (mv < 1024)
  | .droopRecover _ => true
  | .ledgerSettlement _ _ => true
  | .ledgerStale _ _ => true
  | .snap _ => true
  | .patternWordCheck _ _ _ _ => true
  | .phaseSlewEnd _ => true
  | .ptpFollowUpReceive _ _ msg => msg.wf
  | .ethernetPortLinkChange _ _ _ => true
  | .dramTemperatureReport _ _ _ => true
  | .coreRestartDone _ => true
  | .memHealComplete _ => true

end Sys2Proof
end

