-- ==== Sys2Proof/Tests/Slice0.lean ====
section
/-! SUPPORT. Tests of the model: ill-formed commands are refused by the check of well-formedness; worked examples and tables of the spec; and for each
statement with hypotheses a state and operands that meet them, clause by clause. -/
namespace Sys2Proof.Machine

set_option Elab.async false

/-- A packet header and a command frame header within their widths. -/
def pktOk : Pkt := {
  port := 0, udpLength := 55, srcIp := 1, srcUdp := 2, dstIp := 3, magic := 0xA5B1, version := 1, flags := 0, session := 4, sequence := 5, opcode := 6, length := 7, target := 255, epoch := 8, status := 0, reserved := 0, tag := 9 }
def hdrOk : FrameHdr := { k := 0, epoch := 7, identity := 0xBA1, owner := 2 }
def msgOk : PtpMsg := { domain := 0, clockId := 1, portNumber := 1, twoStep := false, sequence := 1, origin := 0, correction := 0, logInterval := 0, stamp := 0, via := .udp ptpGroup }
def dsOk : Dataset := { priority1 := 128, clockClass := 6, accuracy := 33, variance := 1, priority2 := 128, grandmaster := 1, stepsRemoved := 0 }
def fusesOk : Fuses := { dieId := some 1, grade := some 1, trim := some 0, l1 := some 1, l2 := some 1, refinLat := some 0, key := none, digest := none, rxLat := [], txLat := [] }

theorem test_wf_headers : pktOk.wf = true ∧ hdrOk.wf = true ∧ msgOk.wf = true ∧ dsOk.wf = true ∧ fusesOk.wf = true := by decide

theorem test_wf_refuses_headers :
    ([{ pktOk with port := 2 }, { pktOk with srcIp := 2 ^ 32 }, { pktOk with udpLength := 65536 }, { pktOk with srcUdp := 65536 }, { pktOk with dstIp := 2 ^ 32 }, { pktOk with magic := 65536 },
      { pktOk with version := 256 }, { pktOk with flags := 256 }, { pktOk with session := 2 ^ 32 }, { pktOk with sequence := 2 ^ 32 },
      { pktOk with opcode := 65536 }, { pktOk with length := 65536 }, { pktOk with target := 256 }, { pktOk with epoch := 65536 },
      { pktOk with status := 256 }, { pktOk with reserved := 2 ^ 32 }, { pktOk with tag := 2 ^ 128 }].all fun p => !p.wf) = true ∧
    ([{ hdrOk with k := 256 }, { hdrOk with epoch := 65536 }, { hdrOk with identity := 4096 }, { hdrOk with owner := 16 }].all fun h => !h.wf) = true ∧
    ([{ msgOk with domain := 256 }, { msgOk with clockId := 2 ^ 64 }, { msgOk with portNumber := 65536 }, { msgOk with sequence := 65536 }].all
      fun m => !m.wf) = true ∧
    ([{ dsOk with priority1 := 256 }, { dsOk with clockClass := 256 }, { dsOk with accuracy := 256 }, { dsOk with variance := 65536 },
      { dsOk with priority2 := 256 }, { dsOk with grandmaster := 2 ^ 64 }, { dsOk with stepsRemoved := 65536 }].all fun d => !d.wf) = true := by decide

theorem test_wf_refuses_findings :
    ([{ fusesOk with key := some [1, 2] }, { fusesOk with key := some (List.replicate 32 256) }, { fusesOk with dieId := some (2 ^ 64) },
      { fusesOk with digest := some (2 ^ 256) }].all fun f => !f.wf) = true ∧
    SramFind.wf ⟨0, 0, 256⟩ = false ∧ DramFind.wf ⟨[0], 0⟩ = false ∧ DramFind.wf ⟨[], 2 ^ 64⟩ = false ∧
    ([⟨4, 0, 0, 1, 1, 7, []⟩, ⟨0, 2, 0, 1, 1, 7, []⟩, ⟨0, 0, 4, 1, 1, 7, []⟩].all fun (f : FlashChan) => !f.wf) = true := by decide

theorem test_wf_refuses_events_of_a_df640 :
    ([Instr.registerWrite (.df 0) 10 0 0, .registerWrite (.df 0) 0 65536 0, .registerWrite (.dc .u0) 0 (2 ^ 32) 0, .rcRead (.dc .u0) 10 0,
      .rcRead (.df 0) 0 65536, .loReadLatch (.dc .u0) 10 0, .loReadLatch (.df 0) 0 65536, .leadingEdge 0 0 .stage (2 ^ 64) ⟨⟨0, 0⟩, 0⟩,
      .vCrossing 0 0 ⟨2 ^ 64, 0⟩, .trailingEdge 0 0 .stage (2 ^ 64) ⟨0, 0⟩, .injectionLaunch 0 0 [(640, false, 0)], .markerSlot (.df 0) 0 (2 ^ 64) 0,
      .markerSlot (.df 0) 0 0 1024, .uplinkBlockReceive .u0 0 0 4096 (List.replicate 2134 false) 0 0, .uplinkBlockReceive .u0 0 0 0 [] 0 0,
      .uplinkBlockReceive .u0 0 0 0 (List.replicate 2134 false) (2 ^ 64) 0, .uplinkBlockReceive .u0 0 0 0 (List.replicate 2134 false) 0 1024,
      .markerReceive .u0 (.up 0 0) 0 (2 ^ 64) 0, .markerReceive .u0 (.up 0 0) 0 0 1024, .trainPassEnd (.up 0 0) (2 ^ 20 + 1) true, .laneTest 0 16,
      .downlinkBlockReceive 0 0 981 (List.replicate 534 false), .downlinkBlockReceive 0 0 0 [], .frameMarkerReceive 0 0 0 (2 ^ 64) 0,
      .frameMarkerReceive 0 0 0 0 1024, .hkConversionSlot 0 [2 ^ 23] [] false, .hkConversionSlot 0 [] [2 ^ 23] false, .hkCalibrationDone 0 [], .hkCalibrationDone 0 (List.replicate 8 (32768, 0)),
      .hkCalibrationDone 0 (List.replicate 8 (0, 1000000)), .monitorUpdate 0 0 (2 ^ 32)].all fun i => !i.wf) = true := by decide +kernel

theorem test_wf_refuses_events_of_a_dc64 :
    ([Instr.trigInEdge .u0 0 true (2 ^ 64) 0, .trigInEdge .u0 0 true 0 1024, .ppsInEdge .u0 (2 ^ 64) 0, .ppsInEdge .u0 0 1024, .dramRefresh .u0 0 (2 ^ 64),
      .ptpSyncReceive .u0 0 { msgOk with domain := 256 }, .ptpAnnounceReceive .u0 0 { msgOk with domain := 256 } dsOk,
      .ptpAnnounceReceive .u0 0 msgOk { dsOk with priority1 := 256 }, .delayReqSend .u0 0 65536 0 0, .delayReqSend .u0 0 0 (2 ^ 64) 0, .delayReqSend .u0 0 0 0 1024,
      .ptpDelayResponse .u0 0 { msgOk with domain := 256 } 0 .peer, .ptpDelayResponse .u0 0 msgOk 65536 .peer, .txqHead .u0 10,
      .ptpFollowUpReceive .u0 0 { msgOk with domain := 256 }, .rdl .u0 0 9 0, .rdl .u0 0 0 (2 ^ 40), .captureReady .u0 (2 ^ 48) 0, .captureReady .u0 0 (2 ^ 40),
      .fragmentClose .u0 (2 ^ 48), .extractionComplete .u0 (2 ^ 48), .codeRecord .u0 [(0, 256)], .pageProgramDone .u0 (2 ^ 50) true 0, .pageProgramDone .u0 0 true (2 ^ 64), .blockRelocation .u0 0 (2 ^ 20),
      .peatReplay .u0 ⟨2 ^ 32, [], []⟩, .drainDatagram .u0 false (List.replicate 17 0), .mapRebuild .u0 (List.replicate 17 0), .sramScrub .u0 0 (2 ^ 24) ⟨0, 0, 0⟩,
      .sramScrub .u0 0 0 ⟨0, 0, 256⟩, .scrubRead .u0 0 1 ⟨[], 0⟩, .scrubRead .u0 0 0 ⟨[0], 0⟩, .logAck .u0 (2 ^ 32), .tmrWalk (.dc .u0) (2 ^ 32),
      .causewayBlockReceive .u0 0 4096 (List.replicate 2134 false) 0 0, .causewayBlockReceive .u0 0 0 [] 0 0,
      .causewayBlockReceive .u0 0 0 (List.replicate 2134 false) (2 ^ 64) 0, .causewayBlockReceive .u0 0 0 (List.replicate 2134 false) 0 1024,
      .ownershipCheck .u0 [{ n := 0, epoch := 65536, valid := true, source := 0 }], .ownershipCheck .u0 [{ n := 0, epoch := 0, valid := true, source := 2 }],
      .arpRequest .u0 0 (2 ^ 32) 0, .arpRequest .u0 0 0 (2 ^ 32), .strangerFrame .u0 0 ⟨true, 65536, false, 0, 0, 17, true, 0, 8⟩,
      .strangerFrame .u0 0 ⟨true, 0, false, 2 ^ 32, 0, 17, true, 0, 8⟩, .strangerFrame .u0 0 ⟨true, 0, false, 0, 2 ^ 32, 17, true, 0, 8⟩,
      .strangerFrame .u0 0 ⟨true, 0, false, 0, 0, 256, true, 0, 8⟩, .strangerFrame .u0 0 ⟨true, 0, false, 0, 0, 17, true, 65536, 8⟩,
      .strangerFrame .u0 0 ⟨true, 0, false, 0, 0, 17, true, 0, 65536⟩, .fuseLoad (.dc .u0) { fusesOk with dieId := some (2 ^ 64) }, .imageLoad .u0 [256] false,
      .selftest .u0 (2 ^ 32), .dramTrain .u0 [], .dramTrain .u0 (List.replicate 8 (some 4)), .fill .u0 (2 ^ 32), .coreStart .u0 [256] none, .coreStart .u0 [] (some []),
      .coreStart .u0 [] (some (List.replicate 8 ⟨4, 0, 0, 1, 1, 7, []⟩)), .droopStep (.dc .u0) 1024].all fun i => !i.wf) = true := by decide +kernel

theorem test_wf_refuses_writes_of_lines :
    let data : List Rec := List.replicate 8 0
    let marks := List.replicate 8 0
    ([Instr.wr .u0 0 9 0 ⟨data, marks⟩, .wr .u0 0 0 (2 ^ 40) ⟨data, marks⟩, .wr .u0 0 0 0 ⟨[], marks⟩, .wr .u0 0 0 0 ⟨data, []⟩, .wr .u0 0 0 0 ⟨data, (List.replicate 8 3)⟩,
      .wru .u0 0 9 0 ⟨data, marks⟩, .wru .u0 0 0 (2 ^ 40) ⟨data, marks⟩, .wru .u0 0 0 0 ⟨[], marks⟩, .wru .u0 0 0 0 ⟨data, []⟩, .wru .u0 0 0 0 ⟨data, (List.replicate 8 3)⟩].all
        fun i => !i.wf) = true := by decide +kernel

theorem test_wf_refuses_commands_of_the_host :
    let bad := { pktOk with port := 2 }
    ([Instr.soft .u0 bad 0, .soft .u0 pktOk (2 ^ 32), .window .u0 bad 0 0 0, .window .u0 pktOk (2 ^ 64) 0 0, .window .u0 pktOk 0 (2 ^ 64) 0, .window .u0 pktOk 0 0 (2 ^ 32),
      .peatCredit .u0 bad 0 0, .peatCredit .u0 pktOk (2 ^ 32) 0, .peatCredit .u0 pktOk 0 (2 ^ 64), .peatAck .u0 bad 0 0, .peatAck .u0 pktOk (2 ^ 32) 0,
      .peatAck .u0 pktOk 0 (2 ^ 64), .peatRewind .u0 bad 0 0, .peatRewind .u0 pktOk (2 ^ 32) 0, .peatRewind .u0 pktOk 0 (2 ^ 64), .peatCheckpoint .u0 bad,
      .peatFormat .u0 bad 0, .peatFormat .u0 pktOk (2 ^ 32), .peatFence .u0 bad 0, .peatFence .u0 pktOk (2 ^ 32), .memHeal .u0 bad 0 0 0, .memHeal .u0 pktOk 8 0 0,
      .memHeal .u0 pktOk 0 (2 ^ 64) 0, .memHeal .u0 pktOk 0 0 (2 ^ 64), .memRetire .u0 bad 0 0, .memRetire .u0 pktOk 8 0, .memRetire .u0 pktOk 0 (2 ^ 32),
      .pairHandover .u0 bad, .pairForce .u0 bad 0, .pairForce .u0 pktOk (2 ^ 48), .absynRead .u0 bad 0 1, .absynRead .u0 pktOk (2 ^ 32) 1, .absynRead .u0 pktOk 0 0,
      .absynRead .u0 pktOk 0 65, .absynWrite .u0 bad 0 0, .absynWrite .u0 pktOk (2 ^ 32) 0, .absynWriteBlock .u0 bad 0 [0], .absynWriteBlock .u0 pktOk (2 ^ 32) [0],
      .absynWriteBlock .u0 pktOk 0 [], .absynWriteBlock .u0 pktOk 0 (List.replicate 65 0), .sessionOpen .u0 bad 0, .sessionOpen .u0 pktOk (2 ^ 64), .sessionClose .u0 bad,
      .noticeAck .u0 bad 0, .noticeAck .u0 pktOk (2 ^ 32), .forwarded .u0 bad [], .forwarded .u0 pktOk (List.replicate 256 0)].all fun i => !i.wf) = true := by
  decide +kernel

theorem test_wf_refuses_command_frames :
    let bad := { hdrOk with k := 256 }
    ([Instr.ibastRead 0 bad 0 1, .ibastRead 0 hdrOk 65536 1, .ibastRead 0 hdrOk 0 0, .ibastRead 0 hdrOk 0 9, .ibastWrite 0 bad 0 0, .ibastWrite 0 hdrOk 65536 0,
      .ibastWriteBlock 0 bad 0 [0], .ibastWriteBlock 0 hdrOk 65536 [0], .ibastWriteBlock 0 hdrOk 0 [], .ibastWriteBlock 0 hdrOk 0 (List.replicate 33 0), .lock 0 bad,
      .commit 0 bad, .abandon 0 bad, .take 0 bad 0, .sync 0 bad, .arm 0 bad, .disarm 0 bad, .inject 0 bad 0 0, .inject 0 hdrOk 16 0, .inject 0 hdrOk 0 16,
      .hkInject 0 bad 0 0, .linkStep 0 bad 0 0 false, .linkStep 0 hdrOk 16 0 false, .linkStep 0 hdrOk 0 4 false, .sleep 0 bad, .dormant 0 bad, .wake 0 bad,
      .echo 0 bad].all fun i => !i.wf) = true := by decide +kernel

theorem test_wf_admits : ([Instr.leadingEdge 63 639 .stage 5 ⟨⟨1, 1⟩, 0⟩, .absynRead .u1 pktOk 8 64, .ibastWriteBlock 0 hdrOk 65535 (List.replicate 32 0), .powerOn (.df 63)].all
    fun i => i.wf) = true := by decide +kernel

/-- R443, R453: a chip after reset is one that has gone through a power-on reset and its release. -/
theorem test_reset_is_a_released_power_on_reset : ((({} : Df).resetBy causePor).powerRelease) = dfFresh ∧
    ((({} : Dc).resetBy dcCausePor).powerRelease true true).regs = (dcFresh 1).regs := by decide +kernel

/-- Example of chapter 3, steps 4 to 8. -/
theorem test_example_of_a_reading : reedTime 37 1012 0x0312ABCF 600 = (1024 * 0x0312ABCD + 433, true) ∧ reedTime 37 1012 0x0312AC27 805 = (1024 * 0x0312AC25 + 217, true) ∧
    totOf (1024 * 0x0312ABCD + 433) (1024 * 0x0312AC25 + 217) = 5619 ∧ hitWord 40 0xABCD 0x1B1 0x15F3 0 = 0x10A2AF35B115F300 := by decide +kernel

/-- Example of chapter 4: tussock 5 with seven members, m = 3 and w = 4. -/
def tussockExample : Df :=
  let e := [100, 101, 102, 120, 121, 122, 140].foldl (fun e ch => FMap.put 0 e (DF.TUS.MEMBER.addr ch) 0x45) ([] : RegFile)
  { dfFresh with
    eff := FMap.put 0 e (DF.TUS.RULE.addr 5) (BitVec.ofNat 32 (2 ^ 16 + 3 * 2 ^ 10 + 3)),
    tus := { crossings := [(2006, 122), (2004, 100), (2003, 140), (2001, 121), (2000, 100)].map fun x => (786 * 16384 + x.1, x.2) } }
theorem test_example_of_a_tussock : ([2000, 2001, 2002, 2003, 2004, 2005, 2006, 2007].map fun s => tussockExample.tussockState 5 (786 * 16384 + s)) =
      [false, false, false, true, true, false, true, false] ∧
    primWord 5 1 2003 3 = 0x2163E98060000000 ∧ primWord 5 0 2005 2 = 0x2143EA8040000000 ∧ watermarkWord 2047 786 4 = 0x331FFC000C480040 := by decide +kernel

/-- Examples of chapters 5 and 14. -/
theorem test_example_of_headers : blockHeader 12 0 0x1F40 786 30 = 0x30001F40000312F0 ∧ frameHeader 4 0 7 0xBA1 2 = 0x04000007BA120000 := by decide +kernel

/-- Example of chapter 6: θ, the round trip and the adjustment. -/
theorem test_example_of_an_alignment :
    let e : EchoSample := { depart := 0, lrx := 300, ltx := 30720000, arrive := 30753850 }
    echoTheta (-150) e = -16700 ∧ echoRtt e = 34150 ∧ adjWord 16700 = BitVec.ofNat 32 (16 + 316 * 65536) := by decide +kernel

/-- Example of chapter 7: the update of channel 40 and a hit read after it, and the window words of chapter 17. -/
def contextExample : CtxLine := cput (cput (cput (cput (cput (cput ctxReset cBase 1200) cRef 15000) cOffset 1205) cGen 0x41) cSum 1344) cNpts 64
theorem test_example_of_an_update :
    let d := ((dcFresh 1).set DC.CTX.CAL.N 64).set DC.CTX.CAL.STEP_MAX 16
    let d := (d.set DC.PAIR.STATUS.ROLE 0).setCtx 7720 contextExample
    (cint ((d.evalLine 7720).ctxLine 7720) cOffsetNext = 1221) ∧ cget ((d.evalLine 7720).ctxLine 7720) cNpts = 0 ∧
    ((d.setCtx 7720 (cput (cput contextExample cOffset 1221) cGen 0x42)).busRead 0 0x578A08 2).2 = (0, [0x3A980042, 0x04C504B0]) ∧
    ((d.setCtx 7720 (cput contextExample cOffset 1221)).extHit 12 0 (hitWord 40 0 433 100 0)).2.time = 357 := by decide +kernel

/-- Examples of chapter 8: the header words, and the refused post-window with 32 GiB. -/
theorem test_example_of_trigger_headers :
    (headerWords 0xE { source := 1, seq := 0x4A3C1 } 0 0 0 0 0).head? = some 0xE1100000_0004A3C1 ∧
    (tombWords { source := 1, seq := 0x4A3C2 } 0 tombHoldoff).head? = some 0xD1100000_0004A3C2 := by decide +kernel
theorem test_example_of_a_refused_window :
    let d := (((dcFresh 1).set DC.TRG.DCAP.TICKS 61166933).set DC.TRG.GUARD.FRAMES 8).set DC.TRG.WIN_MAX.FRAMES 1024
    d.windowLimit = 60610901 ∧ d.writeStatus (DC.TRG.PRE.addr 1) 4000000 = 0 ∧
    (d.set (DC.TRG.PRE.SLICES 1) 4000000).writeStatus (DC.TRG.POST.addr 1) 12000000 = stWindow := by decide +kernel

/-- Example of chapter 9: one FRB48 block, its canonical form, and what the verify decoder makes of the coded body. -/
def codedExample : List Rec := [0x81E28000C0028001, 0x90000AF16515F300, 0x81E29000C0029001, 0x90000AFC80025801]
def canonExample : List Rec := [0x81E2800000000001, 0x90000AF16515E800, 0x81E2900000000001, 0x90000AFC80025601]
theorem test_example_of_a_coded_body : (frbBody modeFrb48 codedExample).1 =
      [0x4200000000000000, 0x8F14000800000015, 0xE2CB4E808F148008, 0x00000015F900AE02] ∧ totCode 5619 = 669 ∧ totCode 600 = 348 ∧
    frbCanon modeFrb48 0 codedExample = canonExample ∧ frbVerified modeFrb48 codedExample (frbBody modeFrb48 codedExample) [] = true ∧
    frbVerified modeFrb48 codedExample (frbBody modeFrb48 codedExample) [(17, 1)] = false ∧ frbVerified modeFrb40 codedExample (frbBody modeFrb40 codedExample) [] = true := by
  decide +kernel

/-- The check values of R292, for the bytes "123456789". -/
def foldCheck (poly init reflect' xor : Nat) : Nat :=
  let d := (((dcFresh 1).set (DC.FOLD.CFG.POLY 4) poly).set (DC.FOLD.CFG.REFIN 4) reflect').set (DC.FOLD.CFG.REFOUT 4) reflect'
  let d := (d.set (DC.FOLD.INIT_LO.INIT 4) init).set (DC.FOLD.XOR_LO.XOROUT 4) xor
  ((d.setFold 4 (d.foldInit 4)).foldBytes 4 [0x31, 0x32, 0x33, 0x34, 0x35, 0x36, 0x37, 0x38, 0x39]).foldResult 4
theorem test_check_values_of_fold : foldCheck 0 0xFFFF 0 0 = 0x29B1 ∧ foldCheck 1 0xFFFFFFFF 1 0xFFFFFFFF = 0xCBF43926 ∧
    foldCheck 2 0xFFFFFFFF 1 0xFFFFFFFF = 0xE3069283 ∧ foldCheck 3 0 0 0 = 0x6C40DF5F0B497347 := by decide +kernel

/-- R300: 137,625,600 good pages give the largest log. -/
theorem test_example_of_usable_pages : usablePages 137625600 = 2 ^ 27 := by decide +kernel

/-- The table of commands gives bits to no row. -/
theorem test_no_word_spells_a_command (nbits w : Nat) : decodeTableWord nbits w = none ∧ State.reset.withFetchWord nbits w = State.reset := ⟨rfl, rfl⟩

/-- A block with one DF640 that differs from its state after reset. -/
def onePort (n : Nat) (g : Df → Df) : State := State.reset.setDf n (g dfFresh)

/-- A block with one DC64 that differs from its state after reset. -/
def oneUnit (u : DcId) (g : Dc → Dc) : State := State.reset.setDc u (g (State.reset.dc u))

/-- A staged field in force. -/
def force (x : Fd) (v : Nat) (d : Df) : Df :=
  { d with eff := FMap.put (dfReset x.addr) d.eff x.addr (withField (FMap.get (dfReset x.addr) d.eff x.addr) x.lo x.width v) }

/-- A channel that is LIVE, armed and ready, with good constants and the state `g` gives it. -/
def liveChan (ch : Nat) (g : Chan → Chan) (d : Df) : Df :=
  let d := (((force (DF.AFE.CH.MODE ch) modeLive d).set (DF.REED.CH.RA ch) 60).set (DF.REED.CH.RB ch) 1000)
  let d := { d with tim := { d.tim with rootLocked := true } }
  d.setChan ch (g { armed := true, ready := true })

/-- The balls of channel 40, of CRET5 and of channel 639, and the last row of the DC64 (R486, R488). -/
theorem test_balls : channelBall 40 = (['K'], 2) ∧ returnBall 5 = (['P'], 2) ∧ channelBall 639 = (['A', 'V'], 27) ∧ rowName 55 = ['B', 'V'] := by decide

/-! The statements over every command and state. -/

theorem test_step_keeps_the_invariant_can_hold : ∃ s t : State, s.Inv ∧ step s = .next t ∧ t.pending = [] :=
  ⟨{ State.reset with pending := [.powerOn (.df 3)] }, _, ⟨by decide +kernel, by decide +kernel⟩, rfl, rfl⟩

theorem test_idle_step_is_one_tick_can_hold : ∃ s : State, s.Inv ∧ s.pending = [] ∧ (s.df 3).tim.rootLocked :=
  ⟨onePort 3 (liveChan 5 id), ⟨by decide +kernel, by decide +kernel⟩, by decide +kernel, by decide +kernel⟩

theorem test_commands_stay_in_their_reach_can_hold : ∃ (c : Instr) (s t : State), exec c s = .next t ∧ reachOf c = .df 3 :=
  ⟨.leadingEdge 3 5 .stage 1000 ⟨⟨2 ^ 500 - 1, 0⟩, 400⟩, onePort 3 (liveChan 5 id), _, rfl, rfl⟩

theorem test_commands_leave_the_queue_can_hold : ∃ (c : Instr) (s t : State), exec c s = .next t ∧ t.result ≠ s.result :=
  ⟨.registerWrite (.dc .u0) 8 1 0, State.reset, _, rfl, by decide +kernel⟩

theorem test_parts_of_a_dc64_can_hold : ∃ (c : Instr) (s t : State) (l : List DcPart) (p : DcPart), exec c s = .next t ∧ dcChanged c = some l ∧ p ∉ l :=
  ⟨.ppsInEdge .u0 5 6, State.reset, _, _, .store, rfl, rfl, by decide⟩

theorem test_parts_of_a_df640_can_hold :
    (∃ (c : Instr) (s t : State) (l : List DfPart) (p : DfPart), exec c s = .next t ∧ dfChanged c = some l ∧ p ∉ l) ∧
    ∃ (c : Instr) (s t : State) (n ch : Nat) (l : List Nat), exec c s = .next t ∧ channelEvent c = some (n, ch, l) :=
  ⟨⟨.gateClose 3 ⟨5, 0⟩, onePort 3 (liveChan 5 id), _, _, .time, rfl, rfl, by decide⟩, ⟨.gateClose 3 ⟨5, 0⟩, onePort 3 (liveChan 5 id), _, _, _, _, rfl, rfl⟩⟩

theorem test_line_code_round_trip_can_hold : (∃ ws : List Rec, ws.length = 32) ∧ ∃ ws : List Rec, ws.length = 8 :=
  ⟨⟨List.replicate 32 0x0123456789ABCDEF, by decide⟩, ⟨List.replicate 8 0, by decide⟩⟩

/-! The statements clause by clause. -/

theorem test_leading_edge_can_hold :
  (∃ (n : Fin 64) (ch : Fin 640) (m : Nat) (src : EdgeSource) (tp : Taps) (lev : Int) (s : State), (ch.val < 632) ∧ ((s.df
    n).takesEdge ch true src) ∧ (discriminator ((s.df n).thresholdT ch) false lev) ∧ ((s.df n).mode ch ≠ modeOff) ∧ (((s.df n).chan ch).blankEnd =
    none) ∧ (((s.df n).chan ch).srcBlank = none) ∧ (((s.df n).chan ch).armed) ∧ (((s.df n).chan ch).ready) ∧ (((s.df n).chan ch).running = none) ∧
    (((s.df n).chan ch).wins = []) ∧ (((s.df n).chan ch).rearmAt = none) ∧ ((reedTime ((s.df n).fld (DF.REED.CH.RA ch)) ((s.df n).fld (DF.REED.CH.RB
    ch)) m (reading tp)).2)) ∧
  (∃ (n : Fin 64) (ch : Fin 640) (src : EdgeSource) (lev : Int) (s : State) (h : Cand), ((s.df n).takesEdge ch true src) ∧ (((s.df
    n).refin ch ∨ discriminator ((s.df n).thresholdT ch) false lev)) ∧ ((s.df n).mode ch ≠ modeOff) ∧ (((s.df n).chan ch).blankEnd = none) ∧ (((s.df
    n).chan ch).srcBlank = none) ∧ (((s.df n).chan ch).armed) ∧ (((s.df n).chan ch).ready) ∧ (((s.df n).chan ch).running = some h)) ∧
  (∃ (n : Fin 64) (ch : Fin 640) (src : EdgeSource) (lev : Int) (s : State), ((s.df n).takesEdge ch true src) ∧ (((s.df n).refin ch ∨
    discriminator ((s.df n).thresholdT ch) false lev)) ∧ ((s.df n).mode ch ≠ modeOff) ∧ (((s.df n).chan ch).blankEnd = none) ∧ (((s.df n).chan
    ch).srcBlank = none) ∧ (((s.df n).chan ch).armed) ∧ (((s.df n).chan ch).ready = false)) ∧
  (∃ (n : Fin 64) (ch : Fin 640) (src : EdgeSource) (lev : Int) (s : State), ((s.df n).takesEdge ch true src = false ∨ ((s.df n).refin ch =
    false ∧ discriminator ((s.df n).thresholdT ch) false lev = false) ∨ (s.df n).mode ch = modeOff ∨ ((s.df n).chan ch).srcBlank ≠ none ∨ ((s.df
    n).chan ch).blankEnd ≠ none ∨ ((s.df n).chan ch).armed = false)) :=
  ⟨⟨3, 5, 1000, .stage, (⟨2 ^ 500 - 1, 0⟩), 400, (onePort 3 (liveChan 5 id)), by decide +kernel⟩,
  ⟨3, 5, .stage, 400,
    (onePort 3 (liveChan 5 fun c => { c with cands := [{ lead := 1000000, rA := 60, rB := 1000, valid := some true, counted := true }] })),
    ({ lead := 1000000, rA := 60, rB := 1000, valid := some true, counted := true }), by decide +kernel⟩,
  ⟨3, 5, .stage, 400, (onePort 3 (liveChan 5 fun c => { c with ready := false })), by decide +kernel⟩,
  ⟨3, 5, .stage, 400, State.reset, by decide +kernel⟩⟩

theorem test_reed_conversion_can_hold :
  (∃ rA rB m r : Nat, calValid rA rB ∧ 3 ≤ m ∧ ((r : Int) < (rA : Int) - 64 ∨ (r : Int) > (rB : Int) + 64)) ∧
  (∃ rA rB m r : Nat, calValid rA rB ∧ 3 ≤ m ∧ (rA : Int) - 64 ≤ r ∧ (r : Int) ≤ (rB : Int) + 64) ∧
  (∃ (n : Fin 64) (ch : Fin 640) (m : Nat) (src : EdgeSource) (tp : Taps) (lev : Int) (s : State), (ch.val < 632) ∧ ((s.df
    n).takesEdge ch true src) ∧ (discriminator ((s.df n).thresholdT ch) false lev) ∧ ((s.df n).mode ch ≠ modeOff) ∧ (((s.df n).chan ch).blankEnd =
    none) ∧ (((s.df n).chan ch).srcBlank = none) ∧ (((s.df n).chan ch).armed) ∧ (((s.df n).chan ch).ready) ∧ (((s.df n).chan ch).running = none) ∧
    (((s.df n).chan ch).wins = []) ∧ (((s.df n).chan ch).rearmAt = none) ∧ ((reedTime ((s.df n).fld (DF.REED.CH.RA ch)) ((s.df n).fld (DF.REED.CH.RB
    ch)) m (reading tp)).2 = false)) :=
  ⟨⟨100, 1000, 3, 35, by decide⟩,
  ⟨100, 1000, 3, 36, by decide⟩,
  ⟨3, 5, 1000, .stage, (⟨0, 0⟩), 400, (onePort 3 fun f => (liveChan 5 id f).set (DF.REED.CH.RA 5) 100), by decide +kernel⟩⟩

theorem test_validation_can_hold :
  (∃ (n : Fin 64) (ch : Fin 640) (m : Nat) (lev : Int) (s : State) (h : Cand), (discriminator ((s.df n).thresholdV ch) false lev) ∧
    ((s.df n).mode ch ≠ modeOff) ∧ (((s.df n).chan ch).blankEnd = none) ∧ (((s.df n).chan ch).cands = [h]) ∧ (h.valid = none) ∧ (h.coarse = false) ∧
    (h.lead / 1024 ≤ m) ∧ (m ≤ h.valEnd)) ∧
  (∃ (n : Fin 64) (ch : Fin 640) (m : Nat) (lev : Int) (s : State), (discriminator ((s.df n).thresholdV ch) false lev) ∧ ((s.df n).mode ch ≠
    modeOff) ∧ (((s.df n).chan ch).blankEnd = none) ∧ ((s.df n).crossingCounts ch m)) ∧
  (∃ (n : Fin 64) (ch : Fin 640) (s : State) (h : Cand), (((s.df n).chan ch).cands = [h]) ∧ (h.valid = none)) :=
  ⟨⟨3, 5, 981, 400, (onePort 3 (liveChan 5 fun c => { c with cands := [{ lead := 1000000, rA := 60, rB := 1000, valEnd := 981 }] })),
    ({ lead := 1000000, rA := 60, rB := 1000, valEnd := 981 }), by decide +kernel⟩,
  ⟨3, 5, 1000, 400, (onePort 3 (liveChan 5 id)), by decide +kernel⟩,
  ⟨3, 5, (onePort 3 (liveChan 5 fun c => { c with cands := [{ lead := 1000000, rA := 60, rB := 1000, valEnd := 981 }] })),
    ({ lead := 1000000, rA := 60, rB := 1000, valEnd := 981 }), by decide +kernel⟩⟩

theorem test_gate_and_trailing_edge_can_hold :
  (∃ (n : Fin 64) (ch : Fin 640) (s : State) (e : Nat) (h : Cand), (((s.df n).chan ch).gateEnd = some e) ∧ (((s.df n).chan ch).running =
    some h)) ∧
  (∃ (n : Fin 64) (ch : Fin 640) (s : State) (e : Nat), (((s.df n).chan ch).gateEnd = some e) ∧ (((s.df n).chan ch).running = none)) ∧
  (∃ (n : Fin 64) (ch : Fin 640) (m : Nat) (src : EdgeSource) (tp : Taps) (s : State) (h : Cand), (ch.val < 632) ∧ ((s.df n).takesEdge
    ch false src) ∧ (((s.df n).chan ch).srcBlank = none) ∧ (((s.df n).chan ch).armed) ∧ (((s.df n).chan ch).running = some h) ∧ (h.valid = some true)
    ∧ (h.counted) ∧ (((s.df n).chan ch).wins = []) ∧ ((reedTime h.rA h.rB m (reading tp)).2) ∧ (h.gate ≤ (reedTime h.rA h.rB m (reading tp)).1 /
    1024)) ∧
  (∃ (n : Fin 64) (ch : Fin 640) (s : State) (h : Cand), (((s.df n).chan ch).running = some h) ∧ (h.valid = some true)) :=
  ⟨⟨3, 5,
    (onePort 3 (liveChan 5 fun c => { c with cands := [{ lead := 1000000, rA := 60, rB := 1000, valid := some true, counted := true }], gateEnd := some 900 })),
    900, ({ lead := 1000000, rA := 60, rB := 1000, valid := some true, counted := true }), by decide +kernel⟩,
  ⟨3, 5, (onePort 3 (liveChan 5 fun c => { c with gateEnd := some 900 })), 900, by decide +kernel⟩,
  ⟨3, 5, 1000, .stage, (⟨2 ^ 500 - 1, 0⟩),
    (onePort 3 (liveChan 5 fun c => { c with cands := [{ lead := 1000000, rA := 60, rB := 1000, valid := some true, counted := true }] })),
    ({ lead := 1000000, rA := 60, rB := 1000, valid := some true, counted := true }), by decide +kernel⟩,
  ⟨3, 5, (onePort 3 (liveChan 5 fun c => { c with cands := [{ lead := 1000000, rA := 60, rB := 1000, valid := some true, counted := true }] })),
    ({ lead := 1000000, rA := 60, rB := 1000, valid := some true, counted := true }), by decide +kernel⟩⟩

theorem test_clamp_baseline_and_blanking_can_hold :
  (∃ (n : Fin 64) (ch : Fin 640) (s : State), ((s.df n).mode ch ≠ modeOff)) ∧
  (∃ (n : Fin 64) (s : State), ((s.df n).inForce DF.AFE.CONFIG.BLC_EN = 1)) ∧
  (∃ (n : Fin 64) (s : State), ((s.df n).inForce DF.AFE.CONFIG.BLC_EN = 0)) ∧
  (∃ (n : Fin 64) (ch : Fin 640) (s : State) (e : Nat), (ch.val < 632) ∧ (((s.df n).chan ch).blankEnd = some e) ∧ (((s.df n).chan ch).armed =
    false) ∧ ((s.df n).state = dfRun) ∧ ((s.df n).mode ch ≠ modeOff) ∧ ((s.df n).tim.rootLocked)) ∧
  (∃ (n : Fin 64) (ch : Fin 640) (s : State) (e : Nat), (ch.val < 632) ∧ (((s.df n).chan ch).blankEnd = some e) ∧ (((s.df n).chan ch).armed)) ∧
  (∃ (n : Fin 64) (k : Fin 8) (s : State) (e : Nat), (((s.df n).chan (632 + k)).srcBlank = some e)) :=
  ⟨⟨3, 5, (onePort 3 (liveChan 5 id)), by decide +kernel⟩,
  ⟨3, State.reset, by decide +kernel⟩,
  ⟨3, (onePort 3 fun f => force DF.AFE.CONFIG.BLC_EN 0 f), by decide +kernel⟩,
  ⟨3, 5, (onePort 3 fun f => (liveChan 5 (fun c => { c with armed := false, blankEnd := some 900 }) f).set DF.BOOT.STATE.STATE dfRun), 900,
    by decide +kernel⟩,
  ⟨3, 5, (onePort 3 (liveChan 5 fun c => { c with blankEnd := some 900 })), 900, by decide +kernel⟩,
  ⟨3, 2, (onePort 3 fun f => f.setChan 634 { srcBlank := some 900 }), 900, by decide +kernel⟩⟩

theorem test_calibration_window_can_hold :
  (∃ (n : Fin 64) (ch : Fin 640) (tp : Taps) (tq : Taps) (s : State) (w : CalWin) (ws : List CalWin), (ch.val < 632) ∧ (((s.df n).chan
    ch).wins = w :: ws) ∧ (calValid (reading tp) (reading tq))) ∧
  (∃ (n : Fin 64) (ch : Fin 640) (tp : Taps) (tq : Taps) (s : State) (w : CalWin) (ws : List CalWin), (ch.val < 632) ∧ (((s.df n).chan
    ch).wins = w :: ws) ∧ (calValid (reading tp) (reading tq) = false)) :=
  ⟨⟨3, 5, (⟨2 ^ 100 - 1, 0⟩), (⟨2 ^ 500 - 1, 2 ^ 500 - 1⟩), (onePort 3 (liveChan 5 fun c => { c with wins := [⟨1000, false⟩] })), (⟨1000, false⟩),
    [], by decide +kernel⟩,
  ⟨3, 5, (⟨2 ^ 100 - 1, 0⟩), (⟨2 ^ 500 - 1, 2 ^ 479 - 1⟩),
    (onePort 3 (liveChan 5 fun c => { c with wins := [⟨1000, true⟩], ready := false, badRun := 15 })), (⟨1000, true⟩), [], by decide +kernel⟩⟩

theorem test_refresh_and_retry_can_hold :
  (∃ (n : Fin 64) (ch : Fin 640) (s : State) (e : Nat), (ch.val < 632) ∧ (((s.df n).chan ch).refreshAt = some e) ∧ (((s.df n).chan ch).ready) ∧
    (((s.df n).chan ch).running = none) ∧ ((s.df n).nearLaunch ch e = false)) ∧
  (∃ (n : Fin 64) (ch : Fin 640) (s : State) (e : Nat), (((s.df n).chan ch).retryAt = some e) ∧ (((s.df n).chan ch).ready = false) ∧ (((s.df
    n).chan ch).armed)) ∧
  (∃ (ch : Fin 640), (ch.val < 632)) :=
  ⟨⟨3, 5, (onePort 3 (liveChan 5 fun c => { c with refreshAt := some 900 })), 900, by decide +kernel⟩,
  ⟨3, 5, (onePort 3 (liveChan 5 fun c => { c with retryAt := some 900, ready := false })), 900, by decide +kernel⟩,
  ⟨5, by decide +kernel⟩⟩

theorem test_anchors_root_and_injection_can_hold :
  (∃ (n : Fin 64) (s : State), ((s.df n).tim.rootLocked)) ∧
  (∃ (n : Fin 64) (k : Fin 8) (s : State), ((s.df n).fld (DF.REED.ANCHOR.LOCKED k) = 1)) ∧
  (∃ (n : Fin 64) (k : Fin 8) (s : State) (e : Nat), (((s.df n).chan (632 + k)).rearmAt = some e)) ∧
  (∃ (n : Fin 64) (q : Fin 4) (s : State), ((s.df n).slotArmed q)) :=
  ⟨⟨3, (onePort 3 (liveChan 5 id)), by decide +kernel⟩,
  ⟨3, 2, (onePort 3 fun f => f.set (DF.REED.ANCHOR.LOCKED 2) 1), by decide +kernel⟩,
  ⟨3, 2, (onePort 3 fun f => f.setChan 634 { rearmAt := some 900 }), 900, by decide +kernel⟩,
  ⟨3, 0,
    (onePort 3 fun f => { ((liveChan 5 id f).set (DF.AFE.INJ_A.ARMED 0) 1).set (DF.AFE.CH.INJ_SEL 5) 1 with slots := [(0, { next := 2, left := some 1 })] }),
    by decide +kernel⟩⟩

theorem test_hits_enter_the_derandomiser_can_hold :
  (∃ (n : Fin 64) (ch : Fin 640) (s : State) (h : Cand) (rest : List Cand), (takeComplete ((s.df n).chan ch).cands = some (h, rest)) ∧
    (h.masked = false) ∧ (((s.df n).chan ch).derand.length < 8)) ∧
  (∃ (n : Fin 64) (ch : Fin 640) (s : State) (h : Cand) (rest : List Cand), (takeComplete ((s.df n).chan ch).cands = some (h, rest)) ∧
    (h.masked)) ∧
  (∃ (n : Fin 64) (ch : Fin 640) (s : State) (h : Cand) (rest : List Cand), (takeComplete ((s.df n).chan ch).cands = some (h, rest)) ∧
    (h.masked = false) ∧ (8 ≤ ((s.df n).chan ch).derand.length)) :=
  ⟨⟨3, 5,
    (onePort 3 fun f => liveChan 5 (fun c => { c with cands := [{ lead := 70000000, rA := 60, rB := 1000, valid := some true, tot := some 99, doneAt := 68500 }] }) f),
    ({ lead := 70000000, rA := 60, rB := 1000, valid := some true, tot := some 99, doneAt := 68500 }), [], by decide +kernel⟩,
  ⟨3, 5,
    (onePort 3 fun f => liveChan 5 (fun c => { c with cands := [{ ({ lead := 70000000, rA := 60, rB := 1000, valid := some true, tot := some 99, doneAt := 68500 } : Cand) with masked := true }] }) f),
    ({ ({ lead := 70000000, rA := 60, rB := 1000, valid := some true, tot := some 99, doneAt := 68500 } : Cand) with masked := true }), [],
    by decide +kernel⟩,
  ⟨3, 5,
    (onePort 3 fun f => liveChan 5 (fun c => { c with cands := [{ lead := 70000000, rA := 60, rB := 1000, valid := some true, tot := some 99, doneAt := 68500 }], derand := List.replicate 8 {} }) f),
    ({ lead := 70000000, rA := 60, rB := 1000, valid := some true, tot := some 99, doneAt := 68500 }), [], by decide +kernel⟩⟩

theorem test_dispatch_and_flush_can_hold :
  (∃ (n : Fin 64) (ch : Fin 640) (s : State) (h : HitRec) (rest : List HitRec), ((s.df n).offer 0 = some ch.val) ∧ (ch.val < 160) ∧ ((s.df
    n).offer 1 = none) ∧ ((s.df n).offer 2 = none) ∧ ((s.df n).offer 3 = none) ∧ (((s.df n).chan ch).derand = h :: rest) ∧ ((s.df n).posUp 0) ∧ ((s.df
    n).posUp 1 = false) ∧ (((s.df n).pos 0).closed.isSome) ∧ ((s.df n).laneFill 0 < laneLimit ((s.df n).posRung 0)) ∧ ((s.df n).cmd.held = []) ∧
    ((s.df n).cmd.waiting = none)) ∧
  (∃ (n : Fin 64) (ch : Fin 640) (s : State) (h : HitRec) (rest : List HitRec), ((s.df n).offer 0 = some ch.val) ∧ (ch.val < 160) ∧ ((s.df
    n).offer 1 = none) ∧ ((s.df n).offer 2 = none) ∧ ((s.df n).offer 3 = none) ∧ (((s.df n).chan ch).derand = h :: rest) ∧ ((s.df n).posUp 0 = false)
    ∧ ((s.df n).posUp 1 = false) ∧ ((s.df n).cmd.held = []) ∧ ((s.df n).cmd.waiting = none)) ∧
  (∃ (n : Fin 64) (p : Fin 2) (s : State) (e : Nat), (((s.df n).compose p).oldest = some e) ∧ ((s.df n).posUp p) ∧ (((s.df n).pos p).closed =
    none) ∧ ((s.df n).fld DF.ID.INDEX.SET = 1) ∧ ((s.df n).cmd.held = []) ∧ ((s.df n).cmd.waiting = none)) :=
  ⟨⟨3, 5,
    (onePort 3 fun f => (((f.set (DF.LINK.LANE.STATE 0) 5).set DF.ID.INDEX.SET 1).setChan 5 { derand := [{ word := 9, frame := 1 }] }).setPos 0 { closed := some [] }),
    ({ word := 9, frame := 1 }), [], by decide +kernel⟩,
  ⟨3, 5, (onePort 3 fun f => f.setChan 5 { derand := [{ word := 9, frame := 1 }] }), ({ word := 9, frame := 1 }), [], by decide +kernel⟩,
  ⟨3, 0,
    (onePort 3 fun f => ((f.set (DF.LINK.LANE.STATE 0) 5).set DF.ID.INDEX.SET 1).setPos 0 { hits := [{ word := 9, frame := 1, since := 900 }], seq := 2 ^ 24 - 1 }),
    900, by decide +kernel⟩⟩

theorem test_tussocks_and_ledger_can_hold :
  (∃ (n : Fin 64) (s : State), ((s.df n).hit.ledgerFrame = none) ∧ (0 < (s.df n).frame)) :=
  ⟨3,
    (onePort 3 fun f => { f.set DF.BOOT.STATE.STATE dfRun with now := 70000, hit := { frames := [(0, 7), (1, 5), (6, 3)], totals := [(0, 2 ^ 48 - 1)] } }),
    by decide +kernel⟩

theorem test_frame_boundary_of_a_df640_can_hold :
  (∃ (n : Fin 64) (s : State), ((s.df n).bt.softIn = none) ∧ ((s.df n).cmd.goTo = none) ∧ ((s.df n).cmd.step = none) ∧ ((s.df n).cmd.sync = none) ∧
    ((s.df n).cmd.held = []) ∧ ((s.df n).cmd.waiting = none) ∧ ((s.df n).cmd.commit = none)) ∧
  (∃ (n : Fin 64) (s : State) (i : Nat) (w : Word), ((s.df n).bt.softIn = none) ∧ ((s.df n).cmd.goTo = none) ∧ ((s.df n).cmd.step = none) ∧
    ((s.df n).cmd.sync = none) ∧ ((s.df n).cmd.held = []) ∧ ((s.df n).cmd.waiting = none) ∧ ((s.df n).cmd.commit = some (i, false)) ∧ ((s.df
    n).cmd.shadow = [(DF.AFE.CONFIG.addr, w)]) ∧ ((s.df n).fld DF.CMD.LOCK.HELD = 1) ∧ ((s.df n).nextBoundary ≤ (s.df n).cmd.leaseAt)) ∧
  (∃ (n : Fin 64) (s : State), ((s.df n).bt.softIn = some 1)) :=
  ⟨⟨3, (onePort 3 fun f => { ((f.set DF.AFE.CONFIG.GATE 9).set (DF.AFE.CH.MODE 5) 1).set DF.AFE.GLOBAL.T_DAC 77 with pend := true }),
    by decide +kernel⟩,
  ⟨3,
    (onePort 3 fun f => { f.set DF.CMD.LOCK.HELD 1 with cmd := { commit := some (9, false), shadow := [(DF.AFE.CONFIG.addr, 0x9003)], leaseAt := 5 } }),
    9, (0x9003), by decide +kernel⟩,
  ⟨3, (onePort 3 fun f => { f with bt := { softIn := some 1 }, now := 9 }), by decide +kernel⟩⟩

theorem test_housekeeping_conversions_can_hold :
  (∃ (n : Fin 64) (s : State) (e : Nat) (c : Int), ((s.df n).fld DF.HK.STATUS.CAL_BUSY = 0) ∧ ((s.df n).hk.queue = []) ∧ ((s.df n).hk.calReq =
    false) ∧ ((s.df n).fld DF.HK.CTRL.EN = 1) ∧ ((s.df n).nextEnabled = some e) ∧ (((s.df n).entry e).input ≠ 8) ∧ (((s.df n).entry e).curve = 0) ∧
    (((s.df n).entry e).wire ≠ 1) ∧ (((s.df n).hk.cal[((s.df n).entry e).gain]?).getD (0, 0) = (0, 0)) ∧ (-32768 ≤ c) ∧ (c ≤ 32767)) ∧
  (∃ (n : Fin 64) (s : State) (i : Nat) (j : HkJob) (rest : List (Nat × HkJob)), ((s.df n).fld DF.HK.STATUS.CAL_BUSY = 0) ∧ ((s.df
    n).hk.calReq = false ∨ (s.df n).hk.calAhead ≠ 0) ∧ ((s.df n).hk.queue = (i, j) :: rest) ∧ (i < 4)) ∧
  (∃ (w : Word), (fieldOf w 1 1 = 0)) ∧
  (∃ (n : Fin 64) (s : State), ((s.df n).fld DF.HK.STATUS.CAL_BUSY = 0) ∧ ((s.df n).fld DF.HK.CTRL.LP = 0)) ∧
  (∃ (n : Fin 64) (s : State), ((s.df n).fld DF.HK.STATUS.CAL_BUSY = 1)) :=
  ⟨⟨3, (onePort 3 fun f => (f.set DF.HK.CTRL.EN 1).set (DF.HK.ENTRY_A.EN 7) 1), 7, (-5), by decide +kernel⟩,
  ⟨3, (onePort 3 fun f => { f with hk := { queue := [(1, ⟨0, 0⟩)] } }), 1, (⟨0, 0⟩), [], by decide +kernel⟩,
  ⟨(0x21), by decide +kernel⟩,
  ⟨3, State.reset, by decide +kernel⟩,
  ⟨3, (onePort 3 fun f => f.set DF.HK.STATUS.CAL_BUSY 1), by decide +kernel⟩⟩

theorem test_bias_and_monitors_can_hold :
  (∃ (n : Fin 64) (s : State), ((s.df n).state ≠ dfSafe)) ∧
  (∃ (n : Fin 64) (i : Fin 2) (s : State), ((s.df n).fld (DF.HK.MON_CFG.EN i) = 0)) ∧
  (∃ (n : Fin 64) (i : Fin 2) (age : Nat) (s : State), ((s.df n).monFault i age = false) ∧ (FMap.get none (s.df n).hk.monY i = none) ∧ ((s.df
    n).fld (DF.HK.RESULT.COUNT ((s.df n).fld (DF.HK.MON_CFG.SRC i))) ≠ FMap.get 0 (s.df n).hk.monSeen i) ∧ (usableFlags ((s.df n).fld
    (DF.HK.RESULT.FLAGS ((s.df n).fld (DF.HK.MON_CFG.SRC i)))))) :=
  ⟨⟨3,
    (onePort 3 fun f => ((((force (DF.AFE.CH.MODE 16) 1 f).set (DF.BIAS.GROUP_A.BASE 1) 100).set (DF.LINK.LANE.STATE 0) 5).set DF.BIAS.CTRL.EVAL 1).set DF.BIAS.CTRL.DEADBAND 1),
    by decide +kernel⟩,
  ⟨3, 1, State.reset, by decide +kernel⟩,
  ⟨3, 1, 3,
    (onePort 3 fun f => ((((((f.set (DF.HK.MON_CFG.EN 1) 1).set DF.HK.CTRL.EN 1).set (DF.HK.ENTRY_A.EN 0) 1).set (DF.HK.RESULT.FLAGS 0) 1).set (DF.HK.RESULT.COUNT 0) 4).set (DF.HK.MON_SCALE.HI 1) 1000).set (DF.HK.RESULT.VALUE 0) 2000),
    by decide +kernel⟩⟩

theorem test_resets_of_a_df640_can_hold :
  (∃ (n : Fin 64) (s : State), ((s.df n).state = dfPower)) ∧
  (∃ (n : Fin 64) (s : State) (fu : Fuses) (i : Nat) (g : Nat) (a : Nat) (b : Nat), ((s.df n).state = dfFuse) ∧ (fu.dieId = some i) ∧
    (fu.grade = some g) ∧ (fu.l1 = some a) ∧ (fu.l2 = some b) ∧ (a < 1024) ∧ (b < 1024)) ∧
  (∃ (n : Fin 64) (s : State), ((s.df n).state = dfListen) ∧ ((s.df n).fld (DF.LINK.DN.SOURCE 0) = 0) ∧ ((s.df n).fld (DF.LINK.DN.SOURCE 1) = 0) ∧
    ((s.df n).bt.listen = 0)) :=
  ⟨⟨3, (onePort 3 fun f => f.set DF.BOOT.STATE.STATE 0), by decide +kernel⟩,
  ⟨3, State.reset,
    ({ dieId := some 0x123456789, grade := some 1, trim := some 0, l1 := some 770, l2 := some 745, refinLat := some 5, key := none, digest := none, rxLat := [], txLat := [] }),
    (0x123456789), 1, 770, 745, by decide +kernel⟩,
  ⟨3, (onePort 3 fun f => f.set DF.BOOT.STATE.STATE dfListen), by decide +kernel⟩⟩

theorem test_running_states_of_a_df640_can_hold :
  (∃ (n : Fin 64) (s : State), ((s.df n).state = dfConfig) ∧ ((s.df n).bt.taken)) ∧
  (∃ (n : Fin 64) (s : State), ((s.df n).state ≠ dfConfig ∨ (s.df n).bt.taken = false)) ∧
  (∃ (n : Fin 64) (s : State) (e : Nat), ((s.df n).bt.noDownSince = some e) ∧ ((s.df n).state = dfRun)) ∧
  (∃ (n : Fin 64) (mv : Nat) (s : State), (mv < (s.df n).fld DF.BOOT.DROOP_CFG.L2) ∧ ((s.df n).fld DF.BOOT.DROOP_STAT.STEP < 2)) ∧
  (∃ (n : Fin 64) (s : State), ((s.df n).fld DF.BOOT.DROOP_STAT.STEP = 2) ∧ ((s.df n).fld DF.BOOT.DROOP_CFG.L2 + 10 ≤ (s.df n).bt.droopMv)) ∧
  (∃ (w : Word), (w ≠ 0xB007)) :=
  ⟨⟨3, (onePort 3 fun f => { f.set DF.BOOT.STATE.STATE dfConfig with bt := { taken := true } }), by decide +kernel⟩,
  ⟨3, State.reset, by decide +kernel⟩,
  ⟨3, (onePort 3 fun f => { ((liveChan 5 id f).set DF.BOOT.STATE.STATE dfRun).set (DF.AFE.CH.MODE 5) 1 with bt := { noDownSince := some 900 } }),
    900, by decide +kernel⟩,
  ⟨3, 700, (onePort 3 fun f => (f.set DF.BOOT.DROOP_CFG.L2 740).set DF.BOOT.DROOP_CFG.L1 765), by decide +kernel⟩,
  ⟨3, (onePort 3 fun f => f.set DF.BOOT.DROOP_STAT.STEP 2), by decide +kernel⟩,
  ⟨0, by decide +kernel⟩⟩

theorem test_delayed_effects_of_a_df640_can_hold :
  (∃ (n : Fin 64) (s : State), ((s.df n).fld DF.CMD.LOCK.HELD = 1) ∧ ((s.df n).cmd.leaseAt < (s.df n).nextBoundary) ∧ (1 < (s.df n).fld
    DF.CMD.LOCK.LEASE)) ∧
  (∃ (n : Fin 64) (s : State), ((s.df n).fld DF.CMD.LOCK.HELD = 1) ∧ ((s.df n).cmd.leaseAt < (s.df n).nextBoundary) ∧ ((s.df n).fld DF.CMD.LOCK.LEASE
    = 1)) ∧
  (∃ (n : Fin 64) (s : State) (e : EchoRun), ((s.df n).tim.echo = some e) ∧ (e.answered = false) ∧ ((s.df n).cmd.held = []) ∧ ((s.df
    n).cmd.waiting = none)) ∧
  (∃ (n : Fin 64) (s : State), ((s.df n).fld DF.TIME.STATUS.SLEWING = 1)) :=
  ⟨⟨3, (onePort 3 fun f => (f.set DF.CMD.LOCK.HELD 1).set DF.CMD.LOCK.LEASE 16), by decide +kernel⟩,
  ⟨3, (onePort 3 fun f => { (f.set DF.CMD.LOCK.HELD 1).set DF.CMD.LOCK.LEASE 1 with cmd := { shadow := [(7, 7)] } }), by decide +kernel⟩,
  ⟨3, (onePort 3 fun f => { f with tim := { echo := some { identity := 9 } } }), ({ identity := 9 }), by decide +kernel⟩,
  ⟨3, (onePort 3 fun f => f.set DF.TIME.STATUS.SLEWING 1), by decide +kernel⟩⟩

theorem test_uplink_slots_can_hold :
  (∃ (n : Fin 64) (l : Fin 4) (s : State) (b : List Rec) (rest : List (List Rec)), ((s.df n).laneRun l) ∧ ((s.df n).fld (DF.LINK.LANE.ASLEEP
    l) = 0) ∧ (((s.df n).lane l).slot < 4096) ∧ (((s.df n).lane l).todo = b :: rest) ∧ ((s.df n).cmd.held = []) ∧ ((s.df n).cmd.waiting = none)) ∧
  (∃ (n : Fin 64) (l : Fin 4) (s : State), ((s.df n).laneRun l) ∧ ((s.df n).fld (DF.LINK.LANE.ASLEEP l) = 0) ∧ (((s.df n).lane l).slot < 4096) ∧
    (((s.df n).lane l).todo = []) ∧ (((s.df n).pos (l % 2)).closed = none) ∧ (training ((s.df n).fld (DF.LINK.DN.STATE (l / 2))) = false) ∧ ((s.df
    n).cmd.held = []) ∧ ((s.df n).cmd.waiting = none)) ∧
  (∃ (n : Fin 64) (l : Fin 4) (s : State), ((s.df n).laneRun l) ∧ ((s.df n).fld (DF.LINK.LANE.ASLEEP l) = 0) ∧ (4096 ≤ ((s.df n).lane l).slot)) ∧
  (∃ (n : Fin 64) (l : Fin 4) (s : State), (training ((s.df n).fld (DF.LINK.LANE.STATE l))) ∧ (((s.df n).lane l).slot < 512)) ∧
  (∃ (n : Fin 64) (l : Fin 4) (s : State), ((s.df n).fld (DF.LINK.LANE.STATE l) = lTest) ∧ ((s.df n).fld DF.LINK.TEST.LOOP ≠ 3)) ∧
  (∃ (n : Fin 64) (p : Fin 2) (s : State) (e : Nat), (((s.df n).pos p).lowSince = some e) ∧ ((s.df n).posUp p) ∧ (2 ≤ (s.df n).posRung p) ∧
    ((s.df n).fld DF.LINK.SLEEP.EN = 1) ∧ (([p.val, p.val + 2].all fun l => !(s.df n).laneRun l || decide (((s.df n).lane l).slot < 4096)) = true)) ∧
  (∃ (n : Fin 64) (l : Fin 4) (s : State) (e : Nat), (((s.df n).pos (l % 2)).wakeAt = some e) ∧ ((s.df n).laneRun l) ∧ ((s.df n).fld
    (DF.LINK.LANE.ASLEEP l) = 1)) :=
  ⟨⟨3, 2, (onePort 3 fun f => (f.set (DF.LINK.LANE.STATE 2) 5).setLane 2 { todo := [[]], slot := 4095 }), [], [], by decide +kernel⟩,
  ⟨3, 2, (onePort 3 fun f => f.set (DF.LINK.LANE.STATE 2) 5), by decide +kernel⟩,
  ⟨3, 2, (onePort 3 fun f => (f.set (DF.LINK.LANE.STATE 2) 5).setLane 2 { slot := 4096 }), by decide +kernel⟩,
  ⟨3, 2, (onePort 3 fun f => (f.set (DF.LINK.LANE.STATE 2) 2).setLane 2 { slot := 511 }), by decide +kernel⟩,
  ⟨3, 2, (onePort 3 fun f => (f.set (DF.LINK.LANE.STATE 2) lTest).setLane 2 { gen := 9, invert := true }), by decide +kernel⟩,
  ⟨3, 0,
    (onePort 3 fun f => (((f.set (DF.LINK.LANE.STATE 2) 5).set (DF.LINK.LANE.RUNG 2) 3).set DF.LINK.SLEEP.EN 1).setPos 0 { lowSince := some 900 }),
    900, by decide +kernel⟩,
  ⟨3, 2, (onePort 3 fun f => ((f.set (DF.LINK.LANE.STATE 2) 5).set (DF.LINK.LANE.ASLEEP 2) 1).setPos 0 { wakeAt := some 900 }), 900,
    by decide +kernel⟩⟩

set_option maxRecDepth 100000 in
theorem test_uplink_reception_can_hold :
  (∃ (u : DcId) (n : Fin 64) (j : Fin 2) (kk : Nat) (line : List Bool) (s : State) (ws : List Rec), ((s.dc u).rxRun n j) ∧ ((s.dc
    u).fld (DC.IBR.CFG.EN n) = 1) ∧ ((s.dc u).fld (DC.IBR.LANE.ASLEEP n j) = 0) ∧ (upWords (2 * unitNum u + j) kk line = some ws) ∧ (ws.getD 0 0 ≠
    idleWord) ∧ (ws.getD 0 0 ≠ sleepWord) ∧ (ws.getD 0 0 ≠ wakeWord) ∧ (rb (ws.getD 0 0) 48 16 ≠ 0xA7E5) ∧ (blockCrcOk n j ws) ∧ (((s.dc u).recv (2 *
    n + j)).lastSeq = none) ∧ ((FMap.get [] (s.dc u).mire.staged ((s.dc u).mire.next % 8)).length < 64)) ∧
  (∃ (u : DcId) (n : Fin 64) (j : Fin 2) (kk : Nat) (line : List Bool) (s : State) (ws : List Rec), ((s.dc u).rxRun n j) ∧ ((s.dc
    u).fld (DC.IBR.CFG.EN n) = 1) ∧ ((s.dc u).fld (DC.IBR.LANE.ASLEEP n j) = 0) ∧ (upWords (2 * unitNum u + j) kk line = some ws) ∧ (ws.getD 0 0 ≠
    idleWord) ∧ (ws.getD 0 0 ≠ sleepWord) ∧ (ws.getD 0 0 ≠ wakeWord) ∧ (rb (ws.getD 0 0) 48 16 ≠ 0xA7E5) ∧ (blockCrcOk n j ws = false) ∧ (((s.dc
    u).recv (2 * n + j)).crcRun < 63)) ∧
  (∃ (u : DcId) (n : Fin 64) (j : Fin 2) (s : State), ((s.dc u).rxRun n j)) ∧
  (∃ (u : DcId) (n : Fin 64) (j : Fin 2) (s : State), ((s.dc u).rxRun n j)) ∧
  (∃ (u : DcId) (n : Fin 64) (l : Fin 4) (word : Rec) (fine : Nat) (s : State), (unitAt (l / 2) = u) ∧ ((s.dc u).rxRun n (l % 2)) ∧ (rb
    word 56 8 = 0x4D) ∧ (fine < 1024)) ∧
  (∃ (u : DcId) (n : Fin 64) (l : Fin 4) (s : State), (unitAt (l / 2) = u) ∧ ((s.dc u).rxRun n (l % 2)) ∧ ((s.dc u).fld (DC.IBR.LANE.ASLEEP n
    (l % 2)) = 0) ∧ (((s.dc u).recv (2 * n + l % 2)).missRun = 0)) ∧
  (∃ (u : DcId) (n : Fin 64) (l : Fin 4) (s : State), (unitAt (l / 2) = u) ∧ ((s.dc u).rxRun n (l % 2)) ∧ ((s.dc u).fld (DC.IBR.LANE.ASLEEP n
    (l % 2)) = 0) ∧ (((s.dc u).recv (2 * n + l % 2)).missRun = 1)) :=
  ⟨⟨.u0, 3, 1, 0, (upSlot 1 0 (makeBlock 3 1 7 0 2 [hitWord 5 9 9 9 0, hitWord 6 9 9 9 0])),
    (oneUnit .u0 fun d => (d.set (DC.IBR.CFG.EN 3) 1).set (DC.IBR.LANE.STATE 3 1) 5), (makeBlock 3 1 7 0 2 [hitWord 5 9 9 9 0, hitWord 6 9 9 9 0]),
    by decide +kernel⟩,
  ⟨.u0, 3, 1, 0, (upSlot 1 0 ((makeBlock 3 1 7 0 2 [hitWord 5 9 9 9 0, hitWord 6 9 9 9 0]).set 5 1)),
    (oneUnit .u0 fun d => (d.set (DC.IBR.CFG.EN 3) 1).set (DC.IBR.LANE.STATE 3 1) 5),
    ((makeBlock 3 1 7 0 2 [hitWord 5 9 9 9 0, hitWord 6 9 9 9 0]).set 5 1), by decide +kernel⟩,
  ⟨.u0, 3, 1, (oneUnit .u0 fun d => (d.set (DC.IBR.CFG.EN 3) 1).set (DC.IBR.LANE.STATE 3 1) 5), by decide +kernel⟩,
  ⟨.u0, 3, 1, (oneUnit .u0 fun d => ((d.set (DC.IBR.CFG.EN 3) 1).set (DC.IBR.LANE.STATE 3 1) 5).set (DC.IBR.LANE.ASLEEP 3 1) 1),
    by decide +kernel⟩,
  ⟨.u0, 3, 1, (markerWord 1 3 77), 7, (oneUnit .u0 fun d => (d.set (DC.IBR.CFG.EN 3) 1).set (DC.IBR.LANE.STATE 3 1) 5), by decide +kernel⟩,
  ⟨.u0, 3, 1, (oneUnit .u0 fun d => (d.set (DC.IBR.CFG.EN 3) 1).set (DC.IBR.LANE.STATE 3 1) 5), by decide +kernel⟩,
  ⟨.u0, 3, 1, (oneUnit .u0 fun d => (d.set (DC.IBR.CFG.EN 3) 1).set (DC.IBR.LANE.STATE 3 1) 5 |>.setRecv 7 { missRun := 1 }), by decide +kernel⟩⟩

theorem test_ports_and_downlinks_can_hold :
  (∃ (u : DcId) (n : Fin 64) (s : State), ((s.dc u).fld (DC.IBR.CFG.EN n) = 0) ∧ ((s.dc u).fld (DC.IBR.CFG.TEST n) = 0) ∧ ((s.dc u).fld
    (DC.IBR.CFG.DN_CAP n) ≠ 3) ∧ ((s.dc u).dnRun n = false) ∧ ((s.dc u).state = dcRun)) ∧
  (∃ (u : DcId) (n : Fin 64) (s : State), ((s.dc u).fld (DC.IBR.CFG.EN n) = 1) ∧ ((s.dc u).fld (DC.IBR.CFG.TEST n) = 0) ∧ ((s.dc u).fld
    (DC.IBR.CFG.DN_CAP n) ≠ 3) ∧ ((s.dc u).state = dcRun)) ∧
  (∃ (n : Fin 64) (x : Nat) (s : State), (x < 16) ∧ ((s.df n).fld DF.LINK.TEST.LOOP = 0) ∧ ((s.df n).fld DF.LINK.TEST.LANES = 0)) ∧
  (∃ (u : DcId) (n : Fin 64) (s : State), ((s.dc u).fld (DC.IBR.STAT.DN_STATE n) = lTest) ∧ ((s.dc u).fld (DC.IBR.CFG.DN_CAP n) ≠ 3)) ∧
  (∃ (u : DcId) (n : Fin 64) (s : State) (e : Nat), (((s.dc u).port n).outFrom = some e) ∧ ((s.dc u).fld (DC.IBR.CFG.EN n) = 1) ∧ ((s.dc u).fld
    (DC.IBR.CFG.TEST n) = 0)) ∧
  (∃ (u : DcId) (n : Fin 64) (s : State), (((s.dc u).port n).asleep) ∧ ((s.dc u).fld (DC.IBR.CFG.EN n) = 1)) ∧
  (∃ (u : DcId) (n : Fin 64) (s : State), ((s.dc u).dnRun n) ∧ (((s.dc u).port n).slot < downSlots ((s.dc u).fld (DC.IBR.STAT.DN_RUNG n))) ∧
    (((s.dc u).port n).tx = []) ∧ ((s.dc u).judges n = false)) ∧
  (∃ (u : DcId) (n : Fin 64) (s : State), ((s.dc u).dnRun n) ∧ (((s.dc u).port n).slot < downSlots ((s.dc u).fld (DC.IBR.STAT.DN_RUNG n))) ∧
    (((s.dc u).port n).tx ≠ [])) ∧
  (∃ (u : DcId) (s : State), ((s.dc u).state = dcClusterUp) ∧ ((s.dc u).bt.goTo = some dcRun) ∧ ((s.dc u).bt.softAt = none) ∧ ((s.dc u).tim.epoch =
    none) ∧ ((s.dc u).active) ∧ ((s.dc u).paired = false)) :=
  ⟨⟨.u0, 3, (oneUnit .u0 fun d => d.set DC.BOOT.STATE.STATE dcRun), by decide +kernel⟩,
  ⟨.u0, 3, (oneUnit .u0 fun d => ((d.set (DC.IBR.CFG.EN 3) 1).set DC.BOOT.STATE.STATE dcRun)), by decide +kernel⟩,
  ⟨3, 15, State.reset, by decide +kernel⟩,
  ⟨.u0, 3, (oneUnit .u0 fun d => d.set (DC.IBR.STAT.DN_STATE 3) lTest), by decide +kernel⟩,
  ⟨.u0, 3, (oneUnit .u0 fun d => ((d.set (DC.IBR.CFG.EN 3) 1).set DC.BOOT.STATE.STATE dcRun).setPort 3 { outFrom := some 900 }), 900,
    by decide +kernel⟩,
  ⟨.u0, 3, (oneUnit .u0 fun d => ((d.set (DC.IBR.CFG.EN 3) 1).set DC.BOOT.STATE.STATE dcRun).setPort 3 { asleep := true }), by decide +kernel⟩,
  ⟨.u0, 3, (oneUnit .u0 fun d => d.set (DC.IBR.STAT.DN_STATE 3) 5), by decide +kernel⟩,
  ⟨.u0, 3, (oneUnit .u0 fun d => (d.set (DC.IBR.STAT.DN_STATE 3) 5).setPort 3 { tx := [1, 2, 3, 4, 5, 6, 7] }), by decide +kernel⟩,
  ⟨.u0,
    (oneUnit .u0 fun d => let d := ((d.set DC.BOOT.STATE.STATE dcClusterUp).set DC.PAIR.CFG.PAIRED 0).set DC.PAIR.STATUS.ROLE 0; { d with bt := { d.bt with goTo := some dcRun } }),
    by decide +kernel⟩⟩

set_option maxRecDepth 100000 in
theorem test_downlink_reception_can_hold :
  (∃ (n : Fin 64) (dd : Fin 2) (kk : Nat) (line : List Bool) (s : State) (ws : List Rec), ((s.df n).downRun dd) ∧ (downWords ((s.df
    n).fld (DF.LINK.DN.RUNG dd)) kk line = some ws) ∧ (ws.getD 0 0 ≠ idleWord) ∧ (rb (ws.getD 0 0) 48 16 ≠ 0xA7E5) ∧ ((s.df n).fld DF.ID.INDEX.SET =
    1) ∧ (downCrcOk ((s.df n).fld DF.ID.INDEX.N) ws) ∧ (((s.df n).down dd).lastSeq = none) ∧ (((s.df n).down dd).rx = []) ∧ (rb (ws.getD 0 0) 24 8 =
    0) ∧ ((s.df n).cmd.held = []) ∧ ((s.df n).cmd.waiting = none)) ∧
  (∃ (n : Fin 64) (dd : Fin 2) (kk : Nat) (line : List Bool) (s : State) (ws : List Rec), ((s.df n).downRun dd) ∧ (downWords ((s.df
    n).fld (DF.LINK.DN.RUNG dd)) kk line = some ws) ∧ (ws.getD 0 0 ≠ idleWord) ∧ (rb (ws.getD 0 0) 48 16 ≠ 0xA7E5) ∧ ((s.df n).fld DF.ID.INDEX.SET =
    1) ∧ (downCrcOk ((s.df n).fld DF.ID.INDEX.N) ws) ∧ (((s.df n).down dd).lastSeq = some (rb (ws.getD 0 0) 32 24))) ∧
  (∃ (n : Fin 64) (dd : Fin 2) (s : State), ((s.df n).downRun dd)) ∧
  (∃ (n : Fin 64) (s : State), ((s.df n).source = 0) ∧ ((s.df n).downRun 1)) ∧
  (∃ (n : Fin 64) (jj : Fin 2) (s : State), ((s.df n).fld DF.LINK.TEST.LANES ≠ 0) ∧ (((s.df n).down jj).check.seed = none)) ∧
  (∃ (u : DcId) (n : Fin 64) (jj : Fin 2) (s : State), ((s.dc u).fld (DC.IBR.LANE.STATE n jj) = lTest) ∧ (((s.dc u).recv (2 * n +
    jj)).check.seed = none)) :=
  ⟨⟨3, 1, 0, (repeatBits 4 (downCoded 0 (makeDownBlock 3 7 []))),
    (onePort 3 fun f => ((f.set (DF.LINK.DN.STATE 1) 5).set DF.ID.INDEX.SET 1).set DF.ID.INDEX.N 3), (makeDownBlock 3 7 []), by decide +kernel⟩,
  ⟨3, 1, 0, (repeatBits 4 (downCoded 0 (makeDownBlock 3 7 []))),
    (onePort 3 fun f => ((((f.set (DF.LINK.DN.STATE 1) 5).set DF.ID.INDEX.SET 1).set DF.ID.INDEX.N 3)).setDown 1 { lastSeq := some 7 }),
    (makeDownBlock 3 7 []), by decide +kernel⟩,
  ⟨3, 0, (onePort 3 fun f => f.set (DF.LINK.DN.STATE 0) 5), by decide +kernel⟩,
  ⟨3, (onePort 3 fun f => f.set (DF.LINK.DN.STATE 1) 5), by decide +kernel⟩,
  ⟨3, 1, (onePort 3 fun f => (f.set DF.LINK.TEST.LANES 4).set DF.LINK.TEST.SYNC 2), by decide +kernel⟩,
  ⟨.u0, 3, 1, (oneUnit .u0 fun d => d.set (DC.IBR.LANE.STATE 3 1) lTest), by decide +kernel⟩⟩

theorem test_edges_and_epoch_set_can_hold :
  (∃ (u : DcId) (s : State), ((s.dc u).state = dcHostwait) ∧ ((s.dc u).frame + 1 ≤ (s.dc u).fld DC.TIME.SET_LO.FRAME + 2 ^ 32 * (s.dc u).fld
    DC.TIME.SET_HI.FRAME)) ∧
  (∃ (u : DcId) (s : State), ((s.dc u).state = dcHostwait) ∧ ((s.dc u).fld DC.TIME.SET_LO.FRAME + 2 ^ 32 * (s.dc u).fld DC.TIME.SET_HI.FRAME < (s.dc
    u).frame + 1)) ∧
  (∃ (u : DcId) (s : State), ((s.dc u).state ≠ dcHostwait)) ∧
  (∃ (tt : Nat) (fine : Nat), (tt < 2 ^ 54) ∧ (fine < 1024)) ∧
  (∃ (u : DcId) (s : State), ((s.dc u).fld DC.TIME.PPS_CTRL.MODE = 2)) ∧
  (∃ (u : DcId) (s : State) (e : Nat), ((s.dc u).tim.ppsEnd = some e)) ∧
  (∃ (u : DcId) (pin : Fin 4) (rising : Bool) (s : State), (((s.dc u).fld DC.TRG.EXT.EN).testBit pin) ∧ (rising ≠ ((s.dc u).fld
    DC.TRG.EXT.FALL).testBit pin) ∧ ((s.dc u).sourceOn srcExt) ∧ ((s.dc u).fld DC.TRG.CTRL.ISSUE = 0)) ∧
  (∃ (u : DcId) (pin : Fin 4) (rising : Bool) (s : State), (((s.dc u).fld DC.TRG.EXT.EN).testBit pin) ∧ (rising ≠ ((s.dc u).fld
    DC.TRG.EXT.FALL).testBit pin) ∧ ((s.dc u).sourceOn srcExt) ∧ ((s.dc u).fld DC.TRG.CTRL.ISSUE = 1) ∧ ((s.dc u).trg.tombs.length < 16384)) ∧
  (∃ (u : DcId) (req : Nat) (tag : Nat) (port : Nat) (f : Nat) (rest : List (Nat × Nat × Nat)) (s : State), ((s.dc u).tim.txq = (tag,
    port, f) :: rest) ∧ (req < 9) ∧ (tag < 65536) ∧ (port < 2) ∧ (f < 2 ^ 64)) :=
  ⟨⟨.u0, (oneUnit .u0 fun d => (d.set DC.BOOT.STATE.STATE dcHostwait).set DC.TIME.SET_LO.FRAME 9), by decide +kernel⟩,
  ⟨.u0, (oneUnit .u0 fun d => d.set DC.BOOT.STATE.STATE dcHostwait), by decide +kernel⟩,
  ⟨.u0, (oneUnit .u0 fun d => d), by decide +kernel⟩,
  ⟨70000000000, 7, by decide +kernel⟩,
  ⟨.u0, (oneUnit .u0 fun d => d.set DC.TIME.PPS_CTRL.MODE 2), by decide +kernel⟩,
  ⟨.u0, (oneUnit .u0 fun d => { d with tim := { d.tim with ppsEnd := some 900 } }), 900, by decide +kernel⟩,
  ⟨.u0, 1, true, (oneUnit .u0 fun d => ((d.set DC.TRG.EXT.EN 2).set (DC.TRG.HOLDOFF.EN srcExt) 1).set DC.TRG.CTRL.ISSUE 0), by decide +kernel⟩,
  ⟨.u0, 1, true, (oneUnit .u0 fun d => ((d.set DC.TRG.EXT.EN 2).set (DC.TRG.HOLDOFF.EN srcExt) 1).set DC.TRG.CTRL.ISSUE 1), by decide +kernel⟩,
  ⟨.u0, 0, 9, 1, 7000, [], (oneUnit .u0 fun d => { d with tim := { d.tim with txq := [(9, 1, 7000)] } }), by decide +kernel⟩⟩

theorem test_network_time_can_hold :
  (∃ (u : DcId) (port : Fin 2) (msg : PtpMsg) (i : Nat) (s : State), ((s.dc u).receivePoison = none) ∧ ((s.dc u).active) ∧ (FMap.get 0 (s.dc
    u).abs.level (2 * port + 1) < (s.dc u).fld (DC.ABS.RL_B.BURST port)) ∧ ((s.dc u).ptpHears port msg) ∧ ((s.dc u).masterEntry msg = some i) ∧
    (syncLow ≤ msg.logInterval) ∧ (msg.logInterval ≤ syncHigh) ∧ (msg.twoStep)) ∧
  (∃ (u : DcId) (port : Fin 2) (msg : PtpMsg) (i : Nat) (pd : Int) (s : State), ((s.dc u).receivePoison = none) ∧ ((s.dc u).active) ∧
    (FMap.get 0 (s.dc u).abs.level (2 * port + 1) < (s.dc u).fld (DC.ABS.RL_B.BURST port)) ∧ ((s.dc u).ptpHears port msg) ∧ ((s.dc u).masterEntry msg
    = some i) ∧ (syncLow ≤ msg.logInterval) ∧ (msg.logInterval ≤ syncHigh) ∧ (msg.twoStep = false) ∧ ((s.dc u).fld DC.TIME.STATUS.MASTER = i) ∧ ((s.dc
    u).pathDelay port = some pd) ∧ ((s.dc u).servo = svUnsync) ∧ ((s.dc u).tim.openSeg = none)) ∧
  (∃ (u : DcId) (port : Fin 2) (msg : PtpMsg) (i : Nat) (x : TwoStep) (s : State), ((s.dc u).receivePoison = none) ∧ (FMap.get 0 (s.dc
    u).abs.level (2 * port + 1) < (s.dc u).fld (DC.ABS.RL_B.BURST port)) ∧ ((s.dc u).ptpHears port msg) ∧ ((s.dc u).masterEntry msg = some i) ∧
    (anyLow ≤ msg.logInterval) ∧ (msg.logInterval ≤ anyHigh) ∧ ((s.dc u).fld DC.TIME.STATUS.MASTER = i) ∧ (FMap.get none (s.dc u).tim.twoStep port =
    some x) ∧ (x.entry = i) ∧ (x.sequence = msg.sequence)) ∧
  (∃ (u : DcId) (port : Fin 2) (msg : PtpMsg) (i : Nat) (s : State), ((s.dc u).receivePoison = none) ∧ ((s.dc u).active) ∧ (FMap.get 0 (s.dc
    u).abs.level (2 * port + 1) < (s.dc u).fld (DC.ABS.RL_B.BURST port)) ∧ ((s.dc u).ptpHears port msg) ∧ ((s.dc u).masterEntry msg = some i) ∧
    (announceLow ≤ msg.logInterval) ∧ (msg.logInterval ≤ announceHigh) ∧ (i < 16) ∧ ((s.dc u).fld DC.TIME.STATUS.MASTER = 0x1F) ∧ (∀ j ∈ List.range
    16, ((s.dc u).master j).ds = none)) ∧
  (∃ (u : DcId) (port : Fin 2) (s : State), ((s.dc u).transmitPoison = none) ∧ ((s.dc u).active) ∧ (((s.dc u).fld DC.PTP.CFG.EN).testBit port) ∧
    ((s.dc u).tim.txq.length < 64)) ∧
  (∃ (u : DcId) (port : Fin 2) (s : State), ((s.dc u).transmitPoison = none) ∧ ((s.dc u).active) ∧ (((s.dc u).fld DC.PTP.CFG.EN).testBit port) ∧
    (64 ≤ (s.dc u).tim.txq.length)) ∧
  (∃ (u : DcId) (port : Fin 2) (msg : PtpMsg) (tag : Nat) (x : Nat) (s : State), ((s.dc u).receivePoison = none) ∧ (FMap.get 0 (s.dc
    u).abs.level (2 * port + 1) < (s.dc u).fld (DC.ABS.RL_B.BURST port)) ∧ ((s.dc u).ptpHears port msg) ∧ (((s.dc u).fld DC.PTP.CFG.P2P).testBit port)
    ∧ (msg.twoStep = false) ∧ ((s.dc u).tim.reqs = [(port.val, tag % 65536, x)]) ∧ ((msg.clockId, msg.portNumber) = Config.linkPeer port)) ∧
  (∃ (u : DcId) (i : Nat) (s : State), ((s.dc u).fld DC.TIME.STATUS.MASTER = i) ∧ (i ≠ 0x1F) ∧ ((s.dc u).servo = svTrack) ∧ ((s.dc
    u).abs.notices.length < 64)) :=
  ⟨⟨.u0, 0,
    ({ domain := 0, clockId := 77, portNumber := 1, twoStep := true, sequence := 9, origin := 5000000, correction := 0, logInterval := 0, stamp := 2048000, via := .ether 0x011B19000000 }),
    0,
    (oneUnit .u0 fun d => ((((((d.set DC.PTP.CFG.L2 3).set DC.PAIR.STATUS.ROLE 0).set DC.PTP.CFG.EN 1).set (DC.PTP.MSEL.EN 0) 1).set (DC.PTP.MID_LO.ID 0) 77).set (DC.PTP.MSEL.PORT 0) 0xFFFF)),
    by decide +kernel⟩,
  ⟨.u0, 0,
    ({ domain := 0, clockId := 77, portNumber := 1, twoStep := false, sequence := 9, origin := 5000000, correction := 0, logInterval := 0, stamp := 2048000, via := .ether 0x011B19000000 }),
    0, 9000,
    (oneUnit .u0 fun d => let d := (((((((d.set DC.PTP.CFG.L2 3).set DC.PAIR.STATUS.ROLE 0).set DC.PTP.CFG.EN 1).set (DC.PTP.MSEL.EN 0) 1).set (DC.PTP.MID_LO.ID 0) 77).set (DC.PTP.MSEL.PORT 0) 0xFFFF).set DC.TIME.STATUS.MASTER 0); { d with tim := { d.tim with delay := [(0, some 9000)] } }),
    by decide +kernel⟩,
  ⟨.u0, 0,
    ({ domain := 0, clockId := 77, portNumber := 1, twoStep := false, sequence := 9, origin := 5000000, correction := 0, logInterval := 0, stamp := 2048000, via := .ether 0x011B19000000 }),
    0, (⟨0, 0, 9, 2000, 0⟩),
    (oneUnit .u0 fun d => let d := ((((((d.set DC.PTP.CFG.L2 3).set DC.PAIR.STATUS.ROLE 0).set DC.PTP.CFG.EN 1).set (DC.PTP.MSEL.EN 0) 1).set (DC.PTP.MID_LO.ID 0) 77).set (DC.PTP.MSEL.PORT 0) 0xFFFF).set DC.TIME.STATUS.MASTER 0; { d with tim := { d.tim with twoStep := [(0, some ⟨0, 0, 9, 2000, 0⟩)] } }),
    by decide +kernel⟩,
  ⟨.u0, 0,
    ({ domain := 0, clockId := 77, portNumber := 1, twoStep := false, sequence := 9, origin := 5000000, correction := 0, logInterval := 0, stamp := 2048000, via := .ether 0x011B19000000 }),
    0,
    (oneUnit .u0 fun d => ((((((d.set DC.PTP.CFG.L2 3).set DC.PAIR.STATUS.ROLE 0).set DC.PTP.CFG.EN 1).set (DC.PTP.MSEL.EN 0) 1).set (DC.PTP.MID_LO.ID 0) 77).set (DC.PTP.MSEL.PORT 0) 0xFFFF)),
    by decide +kernel⟩,
  ⟨.u0, 0,
    (oneUnit .u0 fun d => ((((((d.set DC.PTP.CFG.L2 3).set DC.PAIR.STATUS.ROLE 0).set DC.PTP.CFG.EN 1).set (DC.PTP.MSEL.EN 0) 1).set (DC.PTP.MID_LO.ID 0) 77).set (DC.PTP.MSEL.PORT 0) 0xFFFF)),
    by decide +kernel⟩,
  ⟨.u0, 0,
    (oneUnit .u0 fun d => let d := ((((((d.set DC.PTP.CFG.L2 3).set DC.PAIR.STATUS.ROLE 0).set DC.PTP.CFG.EN 1).set (DC.PTP.MSEL.EN 0) 1).set (DC.PTP.MID_LO.ID 0) 77).set (DC.PTP.MSEL.PORT 0) 0xFFFF); { d with tim := { d.tim with txq := List.replicate 64 (0, 0, 0) } }),
    by decide +kernel⟩,
  ⟨.u0, 0,
    ({ domain := 0, clockId := (Config.linkPeer 0).1, portNumber := (Config.linkPeer 0).2, twoStep := false, sequence := 9, origin := 5000000, correction := 0, logInterval := 0, stamp := 2048000, via := .ether 0x0180C200000E }),
    5, 2000000,
    (oneUnit .u0 fun d => let d := ((((((d.set DC.PTP.CFG.L2 3).set DC.PAIR.STATUS.ROLE 0).set DC.PTP.CFG.EN 1).set (DC.PTP.MSEL.EN 0) 1).set (DC.PTP.MID_LO.ID 0) 77).set (DC.PTP.MSEL.PORT 0) 0xFFFF).set DC.PTP.CFG.P2P 1; { d with tim := { d.tim with reqs := [(0, 5, 2000000)] } }),
    by decide +kernel, by decide +kernel, by decide +kernel, by decide +kernel, by decide +kernel, by decide +kernel, rfl⟩,
  ⟨.u0, 2, (oneUnit .u0 fun d => (d.set DC.TIME.STATUS.MASTER 2).set DC.TIME.STATUS.STATE 1), by decide +kernel⟩⟩

theorem test_alignment_can_hold :
  (∃ (u : DcId) (n : Fin 64) (e : EchoReply) (x : EchoSample) (s : State), ((s.dc u).active) ∧ ((s.dc u).paired = false) ∧ ((s.dc
    u).echoSample n (s.dc u).homing e = some x) ∧ ((s.df n).state = dfRun) ∧ ((s.dc u).fld DC.TIME.ALIGN_PERIOD.FRAMES ≠ 0) ∧ (((s.dc u).alignSt
    n).count = 255) ∧ (32 < ((((s.dc u).alignSt n).add fun _ => (echoTheta (s32 ((s.dc u).fld (DC.TIME.ASYM.FINE n))) x)).mean (s.dc
    u).homing).natAbs)) ∧
  (∃ (u : DcId) (n : Fin 64) (e : EchoReply) (x : EchoSample) (s : State), ((s.dc u).active) ∧ ((s.dc u).paired = false) ∧ ((s.dc
    u).echoSample n (s.dc u).homing e = some x) ∧ ((s.df n).state = dfRun) ∧ ((s.dc u).fld DC.TIME.ALIGN_PERIOD.FRAMES ≠ 0) ∧ (((s.dc u).alignSt
    n).count = 255) ∧ (((((s.dc u).alignSt n).add fun _ => (echoTheta (s32 ((s.dc u).fld (DC.TIME.ASYM.FINE n))) x)).mean (s.dc u).homing).natAbs ≤
    32) ∧ (((((s.dc u).alignSt n).add fun _ => (echoTheta (s32 ((s.dc u).fld (DC.TIME.ASYM.FINE n))) x)).mean (s.dc u).homing) ≠ 0)) ∧
  (∃ (u : DcId) (n : Fin 64) (e : EchoReply) (x : EchoSample) (s : State), ((s.dc u).active) ∧ ((s.dc u).paired = false) ∧ ((s.dc
    u).echoSample n (s.dc u).homing e = some x) ∧ ((s.df n).state = dfAlign) ∧ (((s.dc u).alignSt n).written = false) ∧ (((s.dc u).alignSt n).count <
    255)) ∧
  (∃ (u : DcId) (n : Fin 64) (e : EchoReply) (x : EchoSample) (s : State), ((s.dc u).active) ∧ ((s.dc u).paired = false) ∧ ((s.dc
    u).echoSample n (s.dc u).homing e = some x) ∧ ((s.df n).state = dfAlign) ∧ (((s.dc u).alignSt n).written = false) ∧ (((s.dc u).alignSt n).count =
    255)) ∧
  (∃ (u : DcId) (n : Fin 64) (e : EchoReply) (x : EchoSample) (s : State), ((s.dc u).active) ∧ ((s.dc u).paired = false) ∧ ((s.dc
    u).echoSample n (s.dc u).homing e = some x) ∧ ((s.df n).state = dfAlign) ∧ (((s.dc u).alignSt n).written) ∧ ((echoTheta (s32 ((s.dc u).fld
    (DC.TIME.ASYM.FINE n))) x).natAbs ≤ 2)) :=
  ⟨⟨.u0, 12, ({ echo := 0x05000000, probe0 := 0x012C0000, probe1 := 0, mark0a := 7, mark0b := 0, mark1a := 0, mark1b := 0 }),
    ({ depart := 0, lrx := 300, ltx := 0, arrive := 850 }),
    ((onePort 12 fun f => f.set DF.BOOT.STATE.STATE 5).setDc .u0 (((((dcFresh 1).set DC.PAIR.STATUS.ROLE 0).set (DC.TIME.ASYM.FINE 12) 4294967146).setRecv 24 { marks := [(850, 7)] }).setAlign 12 { count := 255, sum0 := -51000 })),
    by decide +kernel⟩,
  ⟨.u0, 12, ({ echo := 0x05000000, probe0 := 0x012C0000, probe1 := 0, mark0a := 7, mark0b := 0, mark1a := 0, mark1b := 0 }),
    ({ depart := 0, lrx := 300, ltx := 0, arrive := 490 }),
    ((onePort 12 fun f => f.set DF.BOOT.STATE.STATE 5).setDc .u0 (((((dcFresh 1).set DC.PAIR.STATUS.ROLE 0).set (DC.TIME.ASYM.FINE 12) 4294967146).setRecv 24 { marks := [(490, 7)] }).setAlign 12 { count := 255, sum0 := -5100 })),
    by decide +kernel⟩,
  ⟨.u0, 12, ({ echo := 0x05000000, probe0 := 0x012C0000, probe1 := 0, mark0a := 7, mark0b := 0, mark1a := 0, mark1b := 0 }),
    ({ depart := 0, lrx := 300, ltx := 0, arrive := 450 }),
    ((onePort 12 fun f => f.set DF.BOOT.STATE.STATE 4).setDc .u0 (((((dcFresh 1).set DC.PAIR.STATUS.ROLE 0).set (DC.TIME.ASYM.FINE 12) 4294967146).setRecv 24 { marks := [(450, 7)] }).setAlign 12 { count := 254 })),
    by decide +kernel⟩,
  ⟨.u0, 12, ({ echo := 0x05000000, probe0 := 0x012C0000, probe1 := 0, mark0a := 7, mark0b := 0, mark1a := 0, mark1b := 0 }),
    ({ depart := 0, lrx := 300, ltx := 0, arrive := 490 }),
    ((onePort 12 fun f => f.set DF.BOOT.STATE.STATE 4).setDc .u0 (((((dcFresh 1).set DC.PAIR.STATUS.ROLE 0).set (DC.TIME.ASYM.FINE 12) 4294967146).setRecv 24 { marks := [(490, 7)] }).setAlign 12 { count := 255, sum0 := -5100 })),
    by decide +kernel⟩,
  ⟨.u0, 12, ({ echo := 0x05000000, probe0 := 0x012C0000, probe1 := 0, mark0a := 7, mark0b := 0, mark1a := 0, mark1b := 0 }),
    ({ depart := 0, lrx := 300, ltx := 0, arrive := 450 }),
    ((onePort 12 fun f => f.set DF.BOOT.STATE.STATE 4).setDc .u0 (((((dcFresh 1).set DC.PAIR.STATUS.ROLE 0).set (DC.TIME.ASYM.FINE 12) 4294967146).setRecv 24 { marks := [(450, 7)] }).setAlign 12 { written := true })),
    by decide +kernel⟩⟩

theorem test_mire_slots_can_hold :
  (∃ (u : DcId) (c : Fin 8) (k : Nat) (x : Slot) (rest : List (Nat × Slot)) (s : State), (FMap.get [] (s.dc u).mire.staged c = (k, x) ::
    rest) ∧ ((s.dc u).mire.retired = []) ∧ (FMap.get 0 (s.dc u).mire.lent c = 0)) ∧
  (∃ (u : DcId) (c : Fin 8) (s : State), ((s.dc u).mire.hot = [c.val])) :=
  ⟨⟨.u0, 5, 13, ({ arr := 66000000, recv := 6, words := List.replicate 32 0, bad := [] }), [],
    (oneUnit .u0 fun d => { d with mire := { d.mire with staged := [(5, [(13, { arr := 66000000, recv := 6, words := List.replicate 32 0, bad := [] })])], next := 14, debt := [(5, 9)] } }),
    by decide +kernel⟩,
  ⟨.u0, 5, (oneUnit .u0 fun d => { d with mire := { d.mire with hot := [5] } }), by decide +kernel⟩⟩

theorem test_locked_sequences_can_hold :
  (∃ (u : DcId) (r : Fin 10) (target : Nat) (line : Nat) (s : State), (sluiceReaches r target) ∧ ((s.dc u).lineExists target line) ∧ ((s.dc
    u).slu.wait = []) ∧ ((s.dc u).seqOf r = none) ∧ ((s.dc u).unlockable target line = false) ∧ ((s.dc u).lockedBy target line = none) ∧ ((s.dc
    u).mem.dram = []) ∧ ((s.dc u).mem.sram = [])) ∧
  (∃ (u : DcId) (r : Fin 10) (target : Nat) (line : Nat) (s : State), (sluiceReaches r target) ∧ ((s.dc u).lineExists target line) ∧ ((s.dc
    u).slu.wait = []) ∧ ((s.dc u).seqOf r = none) ∧ ((s.dc u).unlockable target line)) ∧
  (∃ (u : DcId) (r : Fin 10) (target : Nat) (line : Nat) (o : Nat) (s : State), (sluiceReaches r target) ∧ ((s.dc u).lineExists target
    line) ∧ ((s.dc u).slu.wait = []) ∧ ((s.dc u).seqOf r = none) ∧ ((s.dc u).unlockable target line = false) ∧ ((s.dc u).lockedBy target line = some
    o) ∧ (o ≠ r)) ∧
  (∃ (u : DcId) (r : Fin 10) (target : Nat) (line : Nat) (data : List Rec) (b : Bool) (since : Nat) (rd : Nat) (s : State),
    ((s.dc u).seqOf r = some { lines := [(target, line, b)], since := since, rdls := rd }) ∧ (data.length = 8)) ∧
  (∃ (u : DcId) (r : Fin 10) (target : Nat) (line : Nat) (data : List Rec) (b : Bool) (since : Nat) (rd : Nat) (s : State),
    ((s.dc u).seqOf r = some { lines := [(target, line, b)], since := since, rdls := rd }) ∧ (data.length = 8) ∧ ((s.dc u).slu.wait = [])) ∧
  (∃ (u : DcId) (r : Fin 10) (s : State), (((s.dc u).seqOf r).isSome) ∧ ((s.dc u).slu.wait = [])) ∧
  (∃ (u : DcId) (r : Fin 10) (q : SluSeq) (s : State), ((s.dc u).seqOf r = some q) ∧ (q.lines.any (·.2.2) = false) ∧ ((s.dc u).slu.wait = [])) ∧
  (∃ (u : DcId) (r : Fin 10) (line : Nat) (since : Nat) (rd : Nat) (s : State), ((s.dc u).seqOf r = some
    { lines := [(8, line, true)], since := since, rdls := rd }) ∧ ((s.dc u).slu.wait = [])) :=
  ⟨⟨.u0, 1, 8, 77, (oneUnit .u0 fun d => d), by decide +kernel⟩,
  ⟨.u0, 1, 0, 77, (oneUnit .u0 fun d => d), by decide +kernel⟩,
  ⟨.u0, 1, 8, 77, 2, (oneUnit .u0 fun d => { d with slu := { d.slu with seqs := [(2, some { lines := [(8, 77, false)], since := 4 })] } }),
    by decide +kernel⟩,
  ⟨.u0, 1, 8, 77, ([1, 2, 3, 4, 5, 6, 7, 8]), false, 4, 1,
    (oneUnit .u0 fun d => { d with slu := { d.slu with seqs := [(1, some { lines := [(8, 77, false)], since := 4, rdls := 1 })] } }),
    by decide +kernel⟩,
  ⟨.u0, 1, 7, 130000000, ([1, 2, 3, 4, 5, 6, 7, 8]), false, 4, 1,
    (oneUnit .u0 fun d => { d with slu := { d.slu with seqs := [(1, some { lines := [(7, 130000000, false)], since := 4, rdls := 1 })] } }),
    by decide +kernel⟩,
  ⟨.u0, 1, (oneUnit .u0 fun d => { d with slu := { d.slu with seqs := [(1, some { lines := [(8, 77, true)], since := 4 })] } }), by decide +kernel⟩,
  ⟨.u0, 1, ({ lines := [(8, 77, false)], since := 4 }),
    (oneUnit .u0 fun d => { d with slu := { d.slu with seqs := [(1, some { lines := [(8, 77, false)], since := 4 })] } }), by decide +kernel⟩,
  ⟨.u0, 1, 77, 4, 0, (oneUnit .u0 fun d => { d with slu := { d.slu with seqs := [(1, some { lines := [(8, 77, true)], since := 4 })] } }),
    by decide +kernel⟩⟩

theorem test_contexts_and_calibration_can_hold :
  (∃ (u : DcId) (idx : Fin 40960) (s : State), (((s.dc u).ctxLine idx).length = 8) ∧ ((s.dc u).heldFrom 7 8 idx = false)) ∧
  (∃ (u : DcId) (i : Fin 40960) (s : State), ((s.dc u).mem.sram = []) ∧ ((s.dc u).slu.seqs = []) ∧ (cget ((s.dc u).ctxLine i) cPoisoned = 0)) ∧
  (∃ (u : DcId) (i : Fin 40960) (s : State), ((s.dc u).fld DC.CTX.CAL.N ≠ 0) ∧ ((s.dc u).fld DC.CTX.CAL.N ≤ cget ((s.dc u).ctxLine i) cNpts) ∧
    ((s.dc u).mem.sram = []) ∧ ((s.dc u).slu.seqs = []) ∧ (cget ((s.dc u).ctxLine i) cPoisoned = 0) ∧ ((s.dc u).role ≠ roleStandby) ∧ ((s.dc u).stepOk
    (cint ((s.dc u).ctxLine i) cBase + halfAway (cint ((s.dc u).ctxLine i) cSum) (cget ((s.dc u).ctxLine i) cNpts)) (cint ((s.dc u).ctxLine i)
    cOffset))) ∧
  (∃ (u : DcId) (i : Fin 40960) (s : State), ((s.dc u).fld DC.CTX.CAL.N ≠ 0) ∧ ((s.dc u).fld DC.CTX.CAL.N ≤ cget ((s.dc u).ctxLine i) cNpts) ∧
    ((s.dc u).mem.sram = []) ∧ ((s.dc u).slu.seqs = []) ∧ (cget ((s.dc u).ctxLine i) cPoisoned = 0) ∧ (((s.dc u).role = roleStandby ∨ (s.dc u).stepOk
    (cint ((s.dc u).ctxLine i) cBase + halfAway (cint ((s.dc u).ctxLine i) cSum) (cget ((s.dc u).ctxLine i) cNpts)) (cint ((s.dc u).ctxLine i)
    cOffset) = false))) ∧
  (∃ (u : DcId) (n : Fin 64) (s : State), ((s.dc u).fld DC.CTX.CAL.N ≠ 0) ∧ ((s.dc u).fld DC.CTX.CAL.N ≤ FMap.get 0 (s.dc u).ctx.chipPts n) ∧
    ((s.dc u).role ≠ roleStandby) ∧ ((s.dc u).stepOk (halfAway (FMap.get 0 (s.dc u).ctx.chipSum n) (FMap.get 0 (s.dc u).ctx.chipPts n)) (signed 16
    ((s.dc u).fld (DC.CTX.CHIP.CHIP_OFF n))))) :=
  ⟨⟨.u0, 1930, (oneUnit .u0 fun d => d), by decide +kernel⟩,
  ⟨.u0, 7, (oneUnit .u0 fun d => d), by decide +kernel⟩,
  ⟨.u0, 7,
    (oneUnit .u0 fun d => let d := (d.set DC.PAIR.STATUS.ROLE 0).set DC.CTX.CAL.N 4; { d with ctx := { d.ctx with ctxs := [(7, [0x0000000700000000, 0x0010001000000001, 0, 0, 0x0000F00400000000, 0xFFFFFF0000000000, 0, 0])] } }),
    by decide +kernel⟩,
  ⟨.u0, 7,
    (oneUnit .u0 fun d => let d := (d.set DC.PAIR.STATUS.ROLE 1).set DC.CTX.CAL.N 4; { d with ctx := { d.ctx with ctxs := [(7, [0x0000000700000000, 0x0010001000000001, 0, 0, 0x0000F00400000000, 0xFFFFFF0000000000, 0, 0])] } }),
    by decide +kernel⟩,
  ⟨.u0, 3,
    (oneUnit .u0 fun d => let d := (d.set DC.PAIR.STATUS.ROLE 0).set DC.CTX.CAL.N 4; { d with ctx := { d.ctx with chipPts := [(3, 4)], chipSum := [(3, -10)] } }),
    by decide +kernel⟩⟩

theorem test_memory_integrity_can_hold :
  (∃ (u : DcId) (array : Fin 10) (found : SramFind) (bit : Nat) (s : State), (sramResult found = .single bit) ∧ (found.marks = 0) ∧ ((s.dc
    u).fld (DC.MEM.BUCKET.LEVEL array) < (s.dc u).fld (DC.MEM.BUCKET.DEPTH array))) ∧
  (∃ (u : DcId) (array : Fin 10) (found : SramFind) (bit : Nat) (s : State), (sramResult found = .single bit) ∧ (found.marks = 0) ∧ ((s.dc
    u).fld (DC.MEM.BUCKET.DEPTH array) ≤ (s.dc u).fld (DC.MEM.BUCKET.LEVEL array))) ∧
  (∃ (u : DcId) (array : Fin 10) (word : Nat) (found : SramFind) (s : State), (sramResult found = .double) ∧ (found.marks = 0) ∧ ((s.dc
    u).sramMark array word ≠ markPoison)) ∧
  (∃ (u : DcId) (array : Fin 10) (s : State), (0 < (s.dc u).fld (DC.MEM.BUCKET.LEVEL array))) ∧
  (∃ (u : DcId) (c : Fin 8) (addr : Nat) (found : DramFind) (sym : Nat) (s : State), (dramResult found = .correctable sym) ∧ ((s.dc
    u).mem.scrubAt = (c.val, addr / 32)) ∧ ((s.dc u).fld DC.MEM.CTRL.SCRUB_EN = 1) ∧ (dcCore ≤ (s.dc u).state) ∧ ((s.dc u).state ≠ dcLimp) ∧ (addr %
    32 = 0) ∧ (addr < 64 * (s.dc u).chanLines) ∧ ((s.dc u).mire.retired = []) ∧ ((s.dc u).slu.seqs = [])) ∧
  (∃ (u : DcId) (h : HealJob) (s : State), ((s.dc u).mem.heal = some h) ∧ (h.len = 0)) ∧
  (∃ (u : DcId) (h : HealJob) (cw : Nat) (found : DramFind) (sym : Nat) (s : State), (dramResult found = .correctable sym) ∧ ((s.dc
    u).mem.heal = some h) ∧ ((s.dc u).mem.dram = [(dramKey h.c cw, found)]) ∧ (h.start / 32 ≤ cw) ∧ (cw < h.start / 32 + h.len / 32)) ∧
  (∃ (u : DcId) (s : State), ((s.dc u).mem.coreDown)) :=
  ⟨⟨.u0, 2, ({ wrong := 8, marks := 0, syndrome := 1 }), 3, (oneUnit .u0 fun d => d), by decide +kernel⟩,
  ⟨.u0, 2, ({ wrong := 8, marks := 0, syndrome := 1 }), 3, (oneUnit .u0 fun d => (d.set (DC.MEM.BUCKET.DEPTH 2) 4).set (DC.MEM.BUCKET.LEVEL 2) 4),
    by decide +kernel⟩,
  ⟨.u0, 4, 7, ({ wrong := 9, marks := 0, syndrome := 1 }), (oneUnit .u0 fun d => d), by decide +kernel⟩,
  ⟨.u0, 2, (oneUnit .u0 fun d => d.set (DC.MEM.BUCKET.LEVEL 2) 4), by decide +kernel⟩,
  ⟨.u0, 5, 64, ({ beats := [8], syndrome := 9 }), 3,
    (oneUnit .u0 fun d => let d := (d.set DC.BOOT.STATE.STATE 9).set DC.MEM.CTRL.SCRUB_EN 1; { d with mem := { d.mem with scrubAt := (5, 2) } }),
    by decide +kernel⟩,
  ⟨.u0, ({}), (oneUnit .u0 fun d => let d := d.set DC.MEM.STATUS.HEAL_BUSY 1; { d with mem := { d.mem with heal := some {} } }), by decide +kernel⟩,
  ⟨.u0, ({ c := 5, start := 64, len := 64 }), 3, ({ beats := [8], syndrome := 9 }), 3,
    (oneUnit .u0 fun d => let d := d.set DC.MEM.STATUS.HEAL_BUSY 1; { d with mem := { d.mem with heal := some { c := 5, start := 64, len := 64 }, dram := [(dramKey 5 3, { beats := [8], syndrome := 9 })] } }),
    by decide +kernel⟩,
  ⟨.u0, (oneUnit .u0 fun d => { d with mem := { d.mem with coreDown := true, sram := [(2 ^ 24 * 4 + 7, 1)] } }), by decide +kernel⟩⟩

theorem test_ledger_settlement_can_hold :
  (∃ (u : DcId) (n : Fin 64) (f0 : Nat) (f : Nat) (s : State), (((s.dc u).lport n).settled = some f0) ∧ (((s.dc u).lport n).ready = some f)
    ∧ (f0 < f) ∧ (((s.dc u).lport n).delta 0 ≤ 2 ^ 47)) ∧
  (∃ (u : DcId) (n : Fin 64) (f : Nat) (s : State), (((s.dc u).lport n).settled = none) ∧ (((s.dc u).lport n).ready = some f)) ∧
  (∃ (u : DcId) (n : Fin 64) (s : State), ((s.dc u).portRun n)) :=
  ⟨⟨.u0, 3, 8, 9,
    (oneUnit .u0 fun d => d.setLport 3 (let p : LdgPort := { settled := some 8, totals := [(0, 5), (1, 5)], recs := (List.range 6).map fun a => (a, some (9, if a < 2 then 12 else 0)), recvd := [(9, 6)] }; p)),
    by decide +kernel⟩,
  ⟨.u0, 3, 9,
    (oneUnit .u0 fun d => d.setLport 3 (let p : LdgPort := { settled := none, totals := [(0, 5), (1, 5)], recs := (List.range 6).map fun a => (a, some (9, if a < 2 then 12 else 0)), recvd := [(9, 6)] }; p)),
    by decide +kernel⟩,
  ⟨.u0, 3, (oneUnit .u0 fun d => (d.set (DC.IBR.CFG.EN 3) 1).set (DC.IBR.LANE.STATE 3 1) 5), by decide +kernel⟩⟩

set_option maxRecDepth 100000 in
theorem test_trigger_engine_can_hold :
  (∃ (u : DcId) (s : State), ((s.dc u).missing (s.dc u).completeTo ≠ [])) ∧
  (∃ (u : DcId) (j : Fin 512) (s : State), ((s.dc u).fld DC.TRG.CTRL.EN = 1) ∧ ((s.dc u).groupDone (s.dc u).trg.group) ∧ ((s.dc u).mem.sram = [])
    ∧ ((s.dc u).trg.changes = []) ∧ ((s.dc u).fld (DC.TRG.PCTRL.EN j) = 1) ∧ ((s.dc u).matches j) ∧ ((s.dc u).run j = {}) ∧ ((s.dc u).fld
    (DC.TRG.PCTRL.PERSIST j) ≤ 63) ∧ ((s.dc u).sourceOn srcPattern) ∧ ((s.dc u).fld DC.TRG.CTRL.ISSUE = 0)) ∧
  (∃ (u : DcId) (j : Fin 512) (s : State), ((s.dc u).fld DC.TRG.CTRL.EN = 1) ∧ ((s.dc u).groupDone (s.dc u).trg.group) ∧ ((s.dc u).mem.sram = [])
    ∧ ((s.dc u).trg.changes = []) ∧ ((s.dc u).fld (DC.TRG.PCTRL.EN j) = 1) ∧ ((s.dc u).matches j = false) ∧ ((s.dc u).fld DC.TRG.CTRL.ISSUE = 0)) ∧
  (∃ (u : DcId) (s : State), ((s.dc u).fld DC.TRG.CTRL.EN = 0)) ∧
  (∃ (u : DcId) (s : State) (e : Nat), ((s.dc u).trg.periodFrom = some e)) :=
  ⟨⟨.u0,
    (oneUnit .u0 fun d => let d := ((d.set DC.TRG.CTRL.EN 1).set (DC.IBR.LANE.STATE 3 1) 5).set DC.TRG.PART_LO.MASK 8; { d with trg := { d.trg with fresh := [3, 4] } }),
    by decide +kernel⟩,
  ⟨.u0, 7,
    (oneUnit .u0 fun d => let d := (((((d.set DC.TRG.CTRL.EN 1).set (DC.TRG.PCTRL.EN 7) 1).set (DC.TRG.PCTRL.PERSIST 7) 5).set (DC.TRG.CARE_LO.C 7) 1).set (DC.TRG.HOLDOFF.EN srcPattern) 1); { d with trg := { d.trg with complete := 1 } }),
    by decide +kernel⟩,
  ⟨.u0, 7,
    (oneUnit .u0 fun d => let d := (((((d.set DC.TRG.CTRL.EN 1).set (DC.TRG.PCTRL.EN 7) 1).set (DC.TRG.PCTRL.PERSIST 7) 5).set (DC.TRG.CARE_LO.C 7) 1).set (DC.TRG.HOLDOFF.EN srcPattern) 1).set (DC.TRG.VALUE_LO.V 7) 1; { d with trg := { d.trg with complete := 1 } }),
    by decide +kernel⟩,
  ⟨.u0, (oneUnit .u0 fun d => d), by decide +kernel⟩,
  ⟨.u0, (oneUnit .u0 fun d => let d := d; { d with trg := { d.trg with period := [(4, 900)], periodFrom := some 1 } }), 1, by decide +kernel⟩⟩

theorem test_capture_extraction_can_hold :
  (∃ (u : DcId) (seq : Nat) (x : Cap) (s : State), ((s.dc u).capOf seq = some x) ∧ ((s.dc u).extracts) ∧ (x.begun = false) ∧ (x.dec.source ≠
    srcWindow)) ∧
  (∃ (u : DcId) (seq : Nat) (x : Cap) (p : Nat × Nat) (s : State), ((s.dc u).capOf seq = some x) ∧ ((s.dc u).extracts) ∧ (x.begun) ∧ (x.done
    = false) ∧ ((((s.dc u).slotsOf x).any fun y => (s.dc u).slotWaits y.2) = false) ∧ ((s.dc u).tombRoom) ∧ (((s.dc u).windowIndex x).2 = some p)) ∧
  (∃ (u : DcId) (seq : Nat) (x : Cap) (s : State), ((s.dc u).capOf seq = some x) ∧ ((s.dc u).extracts) ∧ (x.begun) ∧ (x.done = false) ∧
    ((((s.dc u).slotsOf x).any fun y => (s.dc u).slotWaits y.2) = false) ∧ ((s.dc u).tombRoom) ∧ (((s.dc u).windowIndex x).2 = none) ∧ (x.held =
    false)) ∧
  (∃ (u : DcId) (seq : Nat) (x : Cap) (a : Nat) (s : State), ((s.dc u).capOf seq = some x) ∧ ((s.dc u).extracts) ∧ (x.begun) ∧ (x.done =
    false) ∧ ((((s.dc u).slotsOf x).any fun y => (s.dc u).slotWaits y.2) = false) ∧ (((s.dc u).windowIndex x).2 = none) ∧ (x.held) ∧ ((((s.dc
    u).windowIndex x).1.readSlots x (((s.dc u).windowIndex x).1.slotsOf x)).1.oldestArr = some a) ∧ (a < 1024 * x.dec.stop)) ∧
  (∃ (u : DcId) (seq : Nat) (x : Cap) (f : List Rec) (rest : List (List Rec)) (s : State), ((s.dc u).capOf seq = some x) ∧ ((s.dc
    u).extracts) ∧ (x.frags = f :: rest) ∧ ((s.dc u).withheld x.dec.frame = false) ∧ (rest ≠ [])) ∧
  (∃ (u : DcId) (seq : Nat) (x : Cap) (f : List Rec) (s : State), ((s.dc u).capOf seq = some x) ∧ ((s.dc u).extracts) ∧ (x.frags = [f]) ∧
    ((s.dc u).withheld x.dec.frame = false) ∧ (x.again = false)) :=
  ⟨⟨.u0, 9, ({ dec := { seq := 9, source := 4, tTick := 1000, start := 1000, stop := 2000, scope := 8 } }),
    (oneUnit .u0 fun d => let d := d.set DC.PAIR.STATUS.ROLE 0; { d with trg := { d.trg with caps := [{ dec := { seq := 9, source := 4, tTick := 1000, start := 1000, stop := 2000, scope := 8 } }] } }),
    by decide +kernel⟩,
  ⟨.u0, 9, ({ dec := { seq := 9, source := 4, tTick := 1000, start := 1000, stop := 2000, scope := 8 }, begun := true }),
    ((0, 2 * (dcFresh 1).ringLines)),
    (oneUnit .u0 fun d => let d := d.set DC.PAIR.STATUS.ROLE 0; { d with trg := { d.trg with caps := [{ dec := { seq := 9, source := 4, tTick := 1000, start := 1000, stop := 2000, scope := 8 }, begun := true }] }, mire := { d.mire with index := [(0, some { frame := 0 })] }, mem := { d.mem with dram := [(dramKey 0 (2 * d.ringLines), dramMarked markPoison)] } }),
    by decide +kernel⟩,
  ⟨.u0, 9, ({ dec := { seq := 9, source := 4, tTick := 1000, start := 1000, stop := 2000, scope := 8 }, begun := true }),
    (oneUnit .u0 fun d => let d := d.set DC.PAIR.STATUS.ROLE 0; { d with trg := { d.trg with caps := [{ dec := { seq := 9, source := 4, tTick := 1000, start := 1000, stop := 2000, scope := 8 }, begun := true }] } }),
    by decide +kernel⟩,
  ⟨.u0, 9, ({ dec := { seq := 9, source := 4, tTick := 1000, start := 1000, stop := 2000, scope := 8 }, begun := true, held := true }), 1500000,
    (oneUnit .u0 fun d => let d := d.set DC.PAIR.STATUS.ROLE 0; { d with trg := { d.trg with caps := [{ dec := { seq := 9, source := 4, tTick := 1000, start := 1000, stop := 2000, scope := 8 }, begun := true, held := true }] }, mire := { d.mire with slots := [(3, some { arr := 1500000, recv := 6, words := List.replicate 32 0, bad := [] })] } }),
    by decide +kernel⟩,
  ⟨.u0, 9, ({ dec := { seq := 9, source := 4, tTick := 1000, start := 1000, stop := 2000, scope := 8 }, frags := [[1], [2]] }), ([1]), ([[2]]),
    (oneUnit .u0 fun d => let d := (d.set DC.PAIR.STATUS.ROLE 0).set DC.PAIR.CFG.PAIRED 0; { d with trg := { d.trg with caps := [{ dec := { seq := 9, source := 4, tTick := 1000, start := 1000, stop := 2000, scope := 8 }, frags := [[1], [2]] }] } }),
    by decide +kernel⟩,
  ⟨.u0, 9, ({ dec := { seq := 9, source := 4, tTick := 1000, start := 1000, stop := 2000, scope := 8 }, frags := [[1]] }), ([1]),
    (oneUnit .u0 fun d => let d := (d.set DC.PAIR.STATUS.ROLE 0).set DC.PAIR.CFG.PAIRED 0; { d with trg := { d.trg with caps := [{ dec := { seq := 9, source := 4, tTick := 1000, start := 1000, stop := 2000, scope := 8 }, frags := [[1]] }] } }),
    by decide +kernel⟩⟩

theorem test_qualifier_can_hold :
  (∃ (u : DcId) (ws : List Rec) (rest : List (List Rec)) (s : State), ((s.dc u).qlf.inq = ws :: rest) ∧ (recTomb ws)) ∧
  (∃ (u : DcId) (ws : List Rec) (rest : List (List Rec)) (s : State), ((s.dc u).qlf.inq = ws :: rest) ∧ (recTomb ws = false) ∧ ((s.dc
    u).qlf.caps.find? (fun y => y.seq == recSeq ws) = none) ∧ ((s.dc u).fld DC.QLF.CTRL.EN = 0)) ∧
  (∃ (u : DcId) (ws : List Rec) (rest : List (List Rec)) (s : State), ((s.dc u).qlf.inq = ws :: rest) ∧ (recTomb ws = false) ∧ ((s.dc
    u).qlf.caps.find? (fun y => y.seq == recSeq ws) = none) ∧ ((s.dc u).fld DC.QLF.CTRL.EN = 1) ∧ (ws.length - 8 ≤ (s.dc u).fld DC.QLF.CTRL.HOLD_MAX *
    8192) ∧ ((s.dc u).heldWords + ws.length ≤ holdArea) ∧ (recLast ws = false)) ∧
  (∃ (u : DcId) (ws : List Rec) (rest : List (List Rec)) (s : State), ((s.dc u).qlf.inq = ws :: rest) ∧ (recTomb ws = false) ∧ ((s.dc
    u).qlf.caps.find? (fun y => y.seq == recSeq ws) = none) ∧ ((s.dc u).fld DC.QLF.CTRL.EN = 1) ∧ (ws.length - 8 ≤ (s.dc u).fld DC.QLF.CTRL.HOLD_MAX *
    8192) ∧ ((s.dc u).heldWords + ws.length ≤ holdArea) ∧ (recLast ws) ∧ (((s.dc u).sampleCap ws).force) ∧ (((s.dc u).sampleCap ws).cause2 = false) ∧
    (((s.dc u).sampleCap ws).cause3 = false) ∧ (((ws.drop 8).foldl QlfCap.take
    { (s.dc u).sampleCap ws with held := [ws], words := ws.length - 8 }).limitsViolated = false)) ∧
  (∃ (u : DcId) (ws : List Rec) (rest : List (List Rec)) (s : State), ((s.dc u).qlf.inq = ws :: rest) ∧ (recTomb ws = false) ∧ ((s.dc
    u).qlf.caps.find? (fun y => y.seq == recSeq ws) = none) ∧ ((s.dc u).fld DC.QLF.CTRL.EN = 1) ∧ (ws.length - 8 ≤ (s.dc u).fld DC.QLF.CTRL.HOLD_MAX *
    8192) ∧ ((s.dc u).heldWords + ws.length ≤ holdArea) ∧ (recLast ws) ∧ (((s.dc u).sampleCap ws).force = false) ∧ (((s.dc u).sampleCap ws).cause2 =
    false) ∧ (((s.dc u).sampleCap ws).cause3 = false) ∧ ((s.dc u).marked arrMask (1280 * ((s.dc u).sampleCap ws).mask) (1280 * ((s.dc u).sampleCap
    ws).mask + 1280) = none) ∧ (((s.dc u).sampleCap ws).action = 0)) :=
  ⟨⟨.u0, ([0xD14000000000A3C1, 0, 0, 0, 0, 0, 0, 0x0100800000000000]), [],
    (oneUnit .u0 fun d => let d := d; { d with qlf := { d.qlf with inq := [[0xD14000000000A3C1, 0, 0, 0, 0, 0, 0, 0x0100800000000000]] } }),
    by decide +kernel⟩,
  ⟨.u0, ([0xE14000000000A3C1, 0, 0, 0, 0, 0, 0, 0x0000800000000000, 0x900000007B000B00]), [],
    (oneUnit .u0 fun d => let d := d; { d with qlf := { d.qlf with inq := [[0xE14000000000A3C1, 0, 0, 0, 0, 0, 0, 0x0000800000000000, 0x900000007B000B00]] } }),
    by decide +kernel⟩,
  ⟨.u0, ([0xE14000000000A3C1, 0, 0, 0, 0, 0, 0, 0, 0x900000007B000B00]), [],
    (oneUnit .u0 fun d => let d := (d.set DC.QLF.CTRL.EN 1).set DC.QLF.CTRL.HOLD_MAX 4; { d with qlf := { d.qlf with inq := [[0xE14000000000A3C1, 0, 0, 0, 0, 0, 0, 0, 0x900000007B000B00]] } }),
    by decide +kernel⟩,
  ⟨.u0, ([0xE14000000000A3C1, 0, 0, 0, 0, 0, 0, 0x0000800000000000, 0x900000007B000B00]), [],
    (oneUnit .u0 fun d => let d := ((d.set DC.QLF.CTRL.EN 1).set DC.QLF.CTRL.HOLD_MAX 4).set (DC.QLF.SRC.FORCE_MEASURE 4) 1; { d with qlf := { d.qlf with inq := [[0xE14000000000A3C1, 0, 0, 0, 0, 0, 0, 0x0000800000000000, 0x900000007B000B00]] } }),
    by decide +kernel⟩,
  ⟨.u0, ([0xE14000000000A3C1, 0, 0, 0, 0, 0, 0, 0x0000800000000000, 0x900000007B000B00]), [],
    (oneUnit .u0 fun d => let d := ((d.set DC.QLF.CTRL.EN 1).set DC.QLF.CTRL.HOLD_MAX 4).set (DC.QLF.SRC.ACTION 4) 0; { d with qlf := { d.qlf with inq := [[0xE14000000000A3C1, 0, 0, 0, 0, 0, 0, 0x0000800000000000, 0x900000007B000B00]] } }),
    by decide +kernel⟩⟩

theorem test_coder_can_hold :
  (∃ (u : DcId) (r : QRec) (rest : List QRec) (s : State), ((s.dc u).qlf.out = r :: rest) ∧ ((s.dc u).mem.dram = []) ∧ ((s.dc u).marked
    arrCoder 0 (2 ^ 24) = none)) ∧
  (∃ (r : QRec), fieldOf r.ctrl 0 1 = 0) ∧
  (∃ (a b c : QRec), (∀ r ∈ [a, b, c], fieldOf r.ctrl 0 1 = 1 ∧ fieldOf r.ctrl (if r.stream = 1 then 3 else 1) 2 = modeLzd) ∧ a.body = [] ∧ b.body ≠ []
    ∧ rb (b.head.getD 2 0) 3 1 = 1 ∧ c.body ≠ [] ∧ rb (c.head.getD 2 0) 3 1 = 0 ∧ c.backlog) ∧
  (∃ (r : QRec) (mode : Nat), fieldOf r.ctrl 0 1 = 1 ∧ mode = fieldOf r.ctrl (if r.stream = 1 then 3 else 1) 2 ∧ (mode = modeFrb48 ∨ mode = modeFrb40) ∧
    r.body ≠ [] ∧ rb (r.head.getD 2 0) 3 1 = 0) :=
  ⟨⟨.u0,
    ({ head := [0xE14000000000A3C1, 0, 0, 0, 0, 1000, 0, 0x0000800100000000], qual := [1, 2, 3, 4], body := [0x8000000100002001, 0x900000007B000B00] }),
    [],
    (oneUnit .u0 fun d => { d with qlf := { d.qlf with out := [{ head := [0xE14000000000A3C1, 0, 0, 0, 0, 1000, 0, 0x0000800100000000], qual := [1, 2, 3, 4], body := [0x8000000100002001, 0x900000007B000B00] }] } }),
    by decide +kernel⟩,
  ⟨{}, by decide⟩,
  ⟨{ ctrl := 7 }, { ctrl := 7, head := [0, 0, 8], body := [1] }, { ctrl := 7, body := [1], backlog := true }, by decide⟩,
  ⟨{ ctrl := 3, body := [1] }, 1, by decide⟩⟩

theorem test_peat_log_can_hold :
  (∃ (u : DcId) (r : Coded) (rest : List Coded) (s : State), ((s.dc u).cmp.out = r :: rest) ∧ ((s.dc u).active) ∧ ((s.dc u).fld DC.PEAT.CTRL.EN
    = 1) ∧ ((s.dc u).fld DC.PEAT.STATUS.READY = 1) ∧ ((s.dc u).peat.usedTo ((s.dc u).peat.head + 8 * ((if ((s.dc u).dropCause (8 * (r.words.length +
    1))) = 0 then r.words else r.words.take 13).length + 1)) ≤ (s.dc u).peat.flash.u)) ∧
  (∃ (u : DcId) (s : State) (e : Nat), ((s.dc u).peat.openFrom = some e) ∧ ((s.dc u).peat.stopped = none) ∧ ((s.dc u).fld DC.PEAT.CTRL.EN = 1) ∧
    ((s.dc u).peat.head % 8 = 0)) ∧
  (∃ (u : DcId) (page : Nat) (key : Nat) (pg : Nat) (s : State), (page ∈ (s.dc u).peat.unprog) ∧ ((s.dc u).peat.stopped = none) ∧ ((s.dc
    u).nextPlace = some (key, pg)) ∧ ((s.dc u).slu.seqs = [])) ∧
  (∃ (u : DcId) (page : Nat) (key : Nat) (pg : Nat) (s : State), (page ∈ (s.dc u).peat.unprog) ∧ ((s.dc u).peat.stopped = none) ∧ ((s.dc
    u).nextPlace = some (key, pg))) :=
  ⟨⟨.u0, ({ words := [0xE14000000000A3C1, 0, 0, 0, 0, 0, 0, 0x0000800000000000, 1, 2, 3, 4, 5, 6, 7], stream := 1, buffers := 2 }), [],
    (oneUnit .u0 fun d => let d := (d.set DC.PEAT.CTRL.EN 1).set DC.PEAT.STATUS.READY 1|>.set DC.PAIR.STATUS.ROLE 0; { d with peat := { d.peat with flash := { formatted := true, u := 1000000, perBlock := 768, geom := some { targets := 1, luns := 1, planes := 3, blocks := 4096, pagesPerBlock := 768, rate := 0, mismatch := false, chanFail := false, factoryBad := [] } } }, cmp := { d.cmp with out := [{ words := [0xE14000000000A3C1, 0, 0, 0, 0, 0, 0, 0x0000800000000000, 1, 2, 3, 4, 5, 6, 7], stream := 1, buffers := 2 }] } }),
    by decide +kernel⟩,
  ⟨.u0,
    (oneUnit .u0 fun d => let d := (d.set DC.PEAT.CTRL.EN 1).set DC.PEAT.STATUS.READY 1; { d with peat := { d.peat with flash := { formatted := true, u := 1000000, perBlock := 768, geom := some { targets := 1, luns := 1, planes := 3, blocks := 4096, pagesPerBlock := 768, rate := 0, mismatch := false, chanFail := false, factoryBad := [] } }, openFrom := some 900, head := 16416 } }),
    900, by decide +kernel⟩,
  ⟨.u0, 0, 5, 3,
    (oneUnit .u0 fun d => let d := (d.set DC.PEAT.CTRL.EN 1).set DC.PEAT.STATUS.READY 1; { d with peat := { d.peat with flash := { formatted := true, u := 1000000, perBlock := 768, geom := some { targets := 1, luns := 1, planes := 3, blocks := 4096, pagesPerBlock := 768, rate := 0, mismatch := false, chanFail := false, factoryBad := [] } }, unprog := [0, 1], head := 40000, open' := [(0, some (5, 3))] } }),
    by decide +kernel⟩,
  ⟨.u0, 0, 5, 3,
    (oneUnit .u0 fun d => let d := (d.set DC.PEAT.CTRL.EN 1).set DC.PEAT.STATUS.READY 1; { d with peat := { d.peat with flash := { formatted := true, u := 1000000, perBlock := 768, geom := some { targets := 1, luns := 1, planes := 3, blocks := 4096, pagesPerBlock := 768, rate := 0, mismatch := false, chanFail := false, factoryBad := [] } }, unprog := [0, 1], head := 40000, open' := [(0, some (5, 3))] } }),
    by decide +kernel⟩⟩

theorem test_peat_journal_can_hold :
  (∃ (u : DcId) (s : State), ((s.dc u).peat.jopen.entries ≠ []) ∧ ((s.dc u).peat.stopped = none)) ∧
  (∃ (u : DcId) (j : JPage) (rest : List JPage) (s : State), ((s.dc u).peat.jwait = j :: rest) ∧ ((s.dc u).peat.dataReady j) ∧ ((s.dc
    u).peat.stopped = none) ∧ (j.serial < (s.dc u).peat.flash.oldestP0 + journalRing) ∧ ((s.dc u).peat.jopen.entries.length + 2 ≤ journalEntries)) ∧
  (∃ (u : DcId) (j : JPage) (rest : List JPage) (s : State), ((s.dc u).peat.jwait = j :: rest) ∧ ((s.dc u).peat.dataReady j) ∧ ((s.dc
    u).peat.stopped = none) ∧ (j.even = false) ∧ (j.odd = false) ∧ (j.serial < (s.dc u).peat.flash.oldestP0 + journalRing) ∧ ((s.dc
    u).peat.jopen.entries.length + 2 ≤ journalEntries)) ∧
  (∃ (u : DcId) (s : State), ((s.dc u).peat.cpRun = none) ∧ ((s.dc u).fld DC.PEAT.CTRL.EN = 1) ∧ ((s.dc u).fld DC.PEAT.STATUS.READY = 1) ∧ ((s.dc
    u).peat.stopped = none)) ∧
  (∃ (u : DcId) (c : PCheck) (s : State), ((s.dc u).peat.cpRun = some c)) ∧
  (∃ (u : DcId) (c : Fin 8) (key : Nat) (s : State), ((s.dc u).peat.formatting = none) ∧ (FMap.get none (s.dc u).peat.erasing c = some key)) ∧
  (∃ (u : DcId) (c : Fin 8) (key : Nat) (s : State), ((s.dc u).peat.formatting = none) ∧ (FMap.get none (s.dc u).peat.erasing c = some key)) ∧
  (∃ (u : DcId) (c : Fin 8) (b : Nat) (key : Nat) (s : State), (b < 2 ^ 20) ∧ (key = 2 ^ 20 * c + b) ∧ ((s.dc u).peat.flash.formatted) ∧
    (((s.dc u).peat.flash.block key).state ≠ 4) ∧ (((s.dc u).peat.flash.block key).state ≠ 1) ∧ ((s.dc u).peat.stopped = none) ∧ ((s.dc u).blockLogged
    key [kindProgFail, kindEraseFail])) ∧
  (∃ (u : DcId) (c : Fin 8) (b : Nat) (key : Nat) (s : State), (b < 2 ^ 20) ∧ (key = 2 ^ 20 * c + b) ∧ ((s.dc u).peat.flash.formatted) ∧
    (((s.dc u).peat.flash.block key).state ≠ 4) ∧ (((s.dc u).peat.flash.block key).state ≠ 1) ∧ ((s.dc u).peat.stopped = none) ∧ ((s.dc u).blockLogged
    key [kindProgFail, kindEraseFail] = false) ∧ ((s.dc u).blockLogged key [kindFlashWarn]) ∧ ((s.dc u).peat.reloc = none) ∧ (((s.dc
    u).peat.flash.map.filter fun x => mapState x.2 == 1 && mapBlock x.2 == key) ≠ [])) :=
  ⟨⟨.u0,
    (oneUnit .u0 fun d => let d := (d.set DC.PEAT.CTRL.EN 1).set DC.PEAT.STATUS.READY 1; { d with peat := { d.peat with jopen := { serial := 4, entries := [[0x1000000000000001, 7, 0, 0x0003000000000000]] } } }),
    by decide +kernel⟩,
  ⟨.u0, ({ serial := 4, entries := [[0x1000000000000001, 7, 0, 0x0003000000000000]] }), [],
    (oneUnit .u0 fun d => let d := (d.set DC.PEAT.CTRL.EN 1).set DC.PEAT.STATUS.READY 1; { d with peat := { d.peat with jwait := [{ serial := 4, entries := [[0x1000000000000001, 7, 0, 0x0003000000000000]] }], head := 16384 } }),
    by decide +kernel⟩,
  ⟨.u0, ({ serial := 4, entries := [[0x1000000000000001, 7, 0, 0x0003000000000000]] }), [],
    (oneUnit .u0 fun d => let d := (d.set DC.PEAT.CTRL.EN 1).set DC.PEAT.STATUS.READY 1; { d with peat := { d.peat with jwait := [{ serial := 4, entries := [[0x1000000000000001, 7, 0, 0x0003000000000000]] }], head := 16384 } }),
    by decide +kernel⟩,
  ⟨.u0,
    (oneUnit .u0 fun d => let d := (d.set DC.PEAT.CTRL.EN 1).set DC.PEAT.STATUS.READY 1; { d with peat := { d.peat with jopen := { serial := 4, entries := [[0x1000000000000001, 7, 0, 0x0003000000000000]] } } }),
    by decide +kernel⟩,
  ⟨.u0, ({ p0 := 4 }),
    (oneUnit .u0 fun d => let d := (d.set DC.PEAT.CTRL.EN 1).set DC.PEAT.STATUS.READY 1; { d with peat := { d.peat with cpRun := some { p0 := 4 } } }),
    by decide +kernel⟩,
  ⟨.u0, 2, 2097157,
    (oneUnit .u0 fun d => let d := (d.set DC.PEAT.CTRL.EN 1).set DC.PEAT.STATUS.READY 1; { d with peat := { d.peat with flash := { formatted := true, u := 1000000, perBlock := 768, geom := some { targets := 1, luns := 1, planes := 3, blocks := 4096, pagesPerBlock := 768, rate := 0, mismatch := false, chanFail := false, factoryBad := [] } }, erasing := [(2, some 2097157)] } }),
    by decide +kernel⟩,
  ⟨.u0, 2, 2097157,
    (oneUnit .u0 fun d => let d := (d.set DC.PEAT.CTRL.EN 1).set DC.PEAT.STATUS.READY 1; { d with peat := { d.peat with flash := { formatted := true, u := 1000000, perBlock := 768, geom := some { targets := 1, luns := 1, planes := 3, blocks := 4096, pagesPerBlock := 768, rate := 0, mismatch := false, chanFail := false, factoryBad := [] } }, erasing := [(2, some 2097157)] } }),
    by decide +kernel⟩,
  ⟨.u0, 2, 5, 2097157,
    (oneUnit .u0 fun d => let d := (d.set DC.PEAT.CTRL.EN 1).set DC.PEAT.STATUS.READY 1; { d with peat := { d.peat with flash := { formatted := true, u := 1000000, perBlock := 768, geom := some { targets := 1, luns := 1, planes := 3, blocks := 4096, pagesPerBlock := 768, rate := 0, mismatch := false, chanFail := false, factoryBad := [] } } }, mem := { d.mem with log := [(0, some { source := logFlash, kind := kindProgFail, unit := flashUnit 2097157, pos := 0, addr := flashAddr 2097157 3, syndrome := 0, first := 0, last := 0, born := 0 })] } }),
    by decide +kernel⟩,
  ⟨.u0, 2, 5, 2097157,
    (oneUnit .u0 fun d => let d := (d.set DC.PEAT.CTRL.EN 1).set DC.PEAT.STATUS.READY 1; { d with peat := { d.peat with flash := { ({ formatted := true, u := 1000000, perBlock := 768, geom := some { targets := 1, luns := 1, planes := 3, blocks := 4096, pagesPerBlock := 768, rate := 0, mismatch := false, chanFail := false, factoryBad := [] } } : Flash) with map := [(9, mapEntry 1 2097157 3 0)] } }, mem := { d.mem with log := [(0, some { source := logFlash, kind := kindFlashWarn, unit := flashUnit 2097157, pos := 0, addr := flashAddr 2097157 3, syndrome := 0, first := 0, last := 0, born := 0 })] } }),
    by decide +kernel⟩⟩

theorem test_peat_drain_and_power_failure_can_hold :
  (∃ (u : DcId) (s : State), ((s.dc u).peat.stopped = none) ∧ ((s.dc u).peat.flash.formatted) ∧ ((s.dc u).fld DC.PEAT.STATUS.READY = 1)) ∧
  (∃ (u : DcId) (s : State), ((s.dc u).peat.stopped.isSome) ∧ ((s.dc u).fld DC.PEAT.STATUS.READY = 1) ∧ ((s.dc u).fld DC.BOOT.DROOP_STAT.STEP ≠ 2)) ∧
  (∃ (u : DcId) (s : State), ((s.dc u).state = dcCore) ∧ ((s.dc u).peat.flash.geom.isSome) ∧ ((s.dc u).peat.flash.formatted) ∧ ((s.dc u).fld
    DC.PEAT.STATUS.READY = 0)) ∧
  (∃ (u : DcId) (pg : Nat) (wrong : List Nat) (s : State), ((s.dc u).drainPage false = some pg) ∧ ((s.dc u).transmitPoison = none) ∧ (((s.dc
    u).pageRead pg wrong).2) ∧ ((s.dc u).peat.log.sent < (min (min (s.dc u).peat.log.commit (s.dc u).peat.log.limit) (min ((s.dc u).peat.log.sent +
    (s.dc u).fld DC.PEAT.DRAIN_CFG.DGRAM) (((s.dc u).peat.log.sent / pageBytes + 1) * pageBytes))))) ∧
  (∃ (u : DcId) (pg : Nat) (wrong : List Nat) (s : State), ((s.dc u).drainPage false = some pg) ∧ (((s.dc u).pageRead pg wrong).2 = false)) ∧
  (∃ (u : DcId) (pg : Nat) (s : State), ((s.dc u).peat.bad = some pg)) ∧
  (∃ (u : DcId) (pg : Nat) (s : State), ((s.dc u).peat.bad = some pg)) ∧
  (∃ (u : DcId) (pg : Nat) (s : State), ((s.dc u).peat.bad = none) ∧ ((s.dc u).peat.pbad = some pg)) ∧
  (∃ (u : DcId) (a : Nat) (s : State), ((s.dc u).ackDue 0 = some a) ∧ ((s.dc u).ackDue 1 = none)) ∧
  (∃ (u : DcId) (a : Nat) (s : State), ((s.dc u).ackDue 0 = none) ∧ ((s.dc u).ackDue 1 = some a)) :=
  ⟨⟨.u0,
    (oneUnit .u0 fun d => let d := (d.set DC.PEAT.CTRL.EN 1).set DC.PEAT.STATUS.READY 1; { d with peat := { d.peat with flash := { ({ formatted := true, u := 1000000, perBlock := 768, geom := some { targets := 1, luns := 1, planes := 3, blocks := 4096, pagesPerBlock := 768, rate := 0, mismatch := false, chanFail := false, factoryBad := [] } } : Flash) with items := [{ off := 0, words := [0, 0, 0, 0], j := 1, ident := 7 }] } } }),
    by decide +kernel⟩,
  ⟨.u0,
    (oneUnit .u0 fun d => let d := (d.set DC.PEAT.CTRL.EN 1).set DC.PEAT.STATUS.READY 1; { d with peat := { d.peat with stopped := some ([], 0) } }),
    by decide +kernel⟩,
  ⟨.u0,
    (oneUnit .u0 fun d => let d := d.set DC.BOOT.STATE.STATE 6; { d with peat := { d.peat with flash := { ({ formatted := true, u := 1000000, perBlock := 768, geom := some { targets := 1, luns := 1, planes := 3, blocks := 4096, pagesPerBlock := 768, rate := 0, mismatch := false, chanFail := false, factoryBad := [] } } : Flash) with fence := some { lastJ := 3 } } } }),
    by decide +kernel⟩,
  ⟨.u0, 0, [],
    (oneUnit .u0 fun d => let d := (d.set DC.PEAT.CTRL.EN 1).set DC.PEAT.STATUS.READY 1 |>.set DC.PEAT.CTRL.DRAIN 1 |>.set DC.PAIR.STATUS.ROLE 0 |>.set DC.PEAT.DRAIN_CFG.DGRAM 1024; { d with peat := { d.peat with flash := { ({ formatted := true, u := 1000000, perBlock := 768, geom := some { targets := 1, luns := 1, planes := 3, blocks := 4096, pagesPerBlock := 768, rate := 0, mismatch := false, chanFail := false, factoryBad := [] } } : Flash) with items := [{ off := 0, words := [0, 0, 0, 0], j := 1, ident := 7 }] }, head := 32, log := { commit := 32, limit := 1000 } }, abs := { d.abs with up := 3 } }),
    by decide +kernel⟩,
  ⟨.u0, 0, ([73]),
    (oneUnit .u0 fun d => let d := (d.set DC.PEAT.CTRL.EN 1).set DC.PEAT.STATUS.READY 1 |>.set DC.PEAT.CTRL.DRAIN 1 |>.set DC.PAIR.STATUS.ROLE 0 |>.set DC.PEAT.DRAIN_CFG.DGRAM 1024; { d with peat := { d.peat with flash := { ({ formatted := true, u := 1000000, perBlock := 768, geom := some { targets := 1, luns := 1, planes := 3, blocks := 4096, pagesPerBlock := 768, rate := 0, mismatch := false, chanFail := false, factoryBad := [] } } : Flash) with items := [{ off := 0, words := [0, 0, 0, 0], j := 1, ident := 7 }] }, head := 32, bufFrom := 32, log := { commit := 32, limit := 1000 } }, abs := { d.abs with up := 3 } }),
    by decide +kernel⟩,
  ⟨.u0, 3, (oneUnit .u0 fun d => let d := d; { d with peat := { d.peat with bad := some 3 } }), by decide +kernel⟩,
  ⟨.u0, 0,
    (oneUnit .u0 fun d => let d := d; { d with peat := { d.peat with flash := { ({ formatted := true, u := 1000000, perBlock := 768, geom := some { targets := 1, luns := 1, planes := 3, blocks := 4096, pagesPerBlock := 768, rate := 0, mismatch := false, chanFail := false, factoryBad := [] } } : Flash) with items := [{ off := 0, words := [0, 0, 0, 0], j := 1, ident := 7 }] }, bad := some 0 } }),
    by decide +kernel⟩,
  ⟨.u0, 3, (oneUnit .u0 fun d => let d := d; { d with peat := { d.peat with pbad := some 3 } }), by decide +kernel⟩,
  ⟨.u0, (9 * frameTicks),
    (oneUnit .u0 fun d => let d := d.set DC.PEAT.DRAIN_CFG.ACK_WAIT 9; { d with peat := { d.peat with log := { commit := 32, sent := 32 } } }),
    by decide +kernel⟩,
  ⟨.u0, (9 * frameTicks),
    (oneUnit .u0 fun d => let d := (d.set DC.PEAT.DRAIN_CFG.ACK_WAIT 9).set DC.PAIR.STATUS.PSTATE 2; { d with peat := { d.peat with plog := { commit := 32, sent := 32 } } }),
    by decide +kernel⟩⟩

set_option maxRecDepth 100000 in
theorem test_packet_acceptance_can_hold :
  (∃ (d : Dc) (p : Pkt) (b : List Nat) (h : Nat), d.serves = false) ∧
  (∃ (d : Dc) (p : Pkt) (b : List Nat) (a : Nat), d.serves ∧ d.receivePoison = some 3) ∧
  (∃ (d : Dc) (p : Pkt) (b : List Nat) (h : Nat), d.serves ∧ d.receivePoison = none ∧ p.dstIp ≠ d.fld DC.ABS.SVC_IP.ADDR ∧ p.dstIp ≠ d.fld
    DC.ABS.UNIT_IP.ADDR) ∧
  (∃ (d : Dc) (p : Pkt) (b : List Nat) (h : Nat), d.serves ∧ d.receivePoison = none ∧ (p.dstIp = d.fld DC.ABS.SVC_IP.ADDR ∨ p.dstIp = d.fld
    DC.ABS.UNIT_IP.ADDR) ∧ (d.hostEntry p = none ∨ pktFormed p b = false)) ∧
  (∃ (d : Dc) (p : Pkt) (b : List Nat) (h : Nat), d.serves ∧ d.receivePoison = none ∧ (p.dstIp = d.fld DC.ABS.SVC_IP.ADDR ∨ p.dstIp = d.fld
    DC.ABS.UNIT_IP.ADDR) ∧ d.hostEntry p = some h ∧ pktFormed p b ∧ FMap.get 0 d.abs.level (2 * (p.port % 2)) < d.fld (DC.ABS.RL_A.BURST (p.port % 2))
    ∧ ofBytesBE (absynTag d.bt.key (pktSigned p b)) ≠ p.tag) ∧
  (∃ (d : Dc) (p : Pkt) (b : List Nat) (h : Nat), d.serves ∧ d.receivePoison = none ∧ (p.dstIp = d.fld DC.ABS.SVC_IP.ADDR ∨ p.dstIp = d.fld
    DC.ABS.UNIT_IP.ADDR) ∧ d.hostEntry p = some h ∧ pktFormed p b ∧ FMap.get 0 d.abs.level (2 * (p.port % 2)) < d.fld (DC.ABS.RL_A.BURST (p.port % 2))
    ∧ ofBytesBE (absynTag d.bt.key (pktSigned p b)) = p.tag ∧ p.opcode ≠ abSessionOpen ∧ p.session ≠ d.fld (DC.ABS.SESSION.SESSION h)) ∧
  (∃ (d : Dc) (p : Pkt) (b : List Nat) (h : Nat), d.serves ∧ d.receivePoison = none ∧ (p.dstIp = d.fld DC.ABS.SVC_IP.ADDR ∨ p.dstIp = d.fld
    DC.ABS.UNIT_IP.ADDR) ∧ d.hostEntry p = some h ∧ pktFormed p b ∧ FMap.get 0 d.abs.level (2 * (p.port % 2)) < d.fld (DC.ABS.RL_A.BURST (p.port % 2))
    ∧ ofBytesBE (absynTag d.bt.key (pktSigned p b)) = p.tag ∧ p.opcode ≠ abSessionOpen ∧ p.session ≠ 0 ∧ p.session = d.fld (DC.ABS.SESSION.SESSION h)
    ∧ FMap.get [] d.abs.kept h = [] ∧ d.seqFresh h p.sequence ∧ p.flags.testBit 2 = false ∧ d.active ∧ d.state ≠ dcLimp) :=
  ⟨⟨(State.reset.dc .u0),
    ({ port := 0, udpLength := 52, srcIp := 0, srcUdp := 0, dstIp := 0, magic := 0xA5B1, version := 1, flags := 0, session := 7, sequence := 1, opcode := abSoft, length := 4, target := 255, epoch := 0, status := 0, reserved := 0, tag := 186034504280658913317216561512867340298 }),
    [], 0, by decide +kernel⟩,
  ⟨(((oneUnit .u0 fun d => ((((d.set DC.BOOT.STATE.STATE dcRun).set DC.PAIR.STATUS.ROLE 0).set (DC.ABS.HOST_CFG.EN 0) 1).set (DC.ABS.SESSION.SESSION 0) 7)).dc .u0).setSram arrEthernet 3 1),
    ({ port := 0, udpLength := 52, srcIp := 0, srcUdp := 0, dstIp := 0, magic := 0xA5B1, version := 1, flags := 0, session := 7, sequence := 1, opcode := abSoft, length := 4, target := 255, epoch := 0, status := 0, reserved := 0, tag := 186034504280658913317216561512867340298 }),
    [], 0, by decide +kernel⟩,
  ⟨((oneUnit .u0 fun d => ((((d.set DC.BOOT.STATE.STATE dcRun).set DC.PAIR.STATUS.ROLE 0).set (DC.ABS.HOST_CFG.EN 0) 1).set (DC.ABS.SESSION.SESSION 0) 7)).dc .u0),
    ({ ({ port := 0, udpLength := 52, srcIp := 0, srcUdp := 0, dstIp := 0, magic := 0xA5B1, version := 1, flags := 0, session := 7, sequence := 1, opcode := abSoft, length := 4, target := 255, epoch := 0, status := 0, reserved := 0, tag := 186034504280658913317216561512867340298 } : Pkt) with dstIp := 9 }),
    [], 0, by decide +kernel⟩,
  ⟨((oneUnit .u0 fun d => ((((d.set DC.BOOT.STATE.STATE dcRun).set DC.PAIR.STATUS.ROLE 0).set (DC.ABS.HOST_CFG.EN 0) 1).set (DC.ABS.SESSION.SESSION 0) 7)).dc .u0),
    ({ ({ port := 0, udpLength := 52, srcIp := 0, srcUdp := 0, dstIp := 0, magic := 0xA5B1, version := 1, flags := 0, session := 7, sequence := 1, opcode := abSoft, length := 4, target := 255, epoch := 0, status := 0, reserved := 0, tag := 186034504280658913317216561512867340298 } : Pkt) with version := 2 }),
    [], 0, by decide +kernel⟩,
  ⟨((oneUnit .u0 fun d => ((((d.set DC.BOOT.STATE.STATE dcRun).set DC.PAIR.STATUS.ROLE 0).set (DC.ABS.HOST_CFG.EN 0) 1).set (DC.ABS.SESSION.SESSION 0) 7)).dc .u0),
    ({ ({ port := 0, udpLength := 52, srcIp := 0, srcUdp := 0, dstIp := 0, magic := 0xA5B1, version := 1, flags := 0, session := 7, sequence := 1, opcode := abSoft, length := 4, target := 255, epoch := 0, status := 0, reserved := 0, tag := 186034504280658913317216561512867340298 } : Pkt) with tag := 9 }),
    (bytesBE 4 5), 0, by decide +kernel⟩,
  ⟨((oneUnit .u0 fun d => ((((d.set DC.BOOT.STATE.STATE dcRun).set DC.PAIR.STATUS.ROLE 0).set (DC.ABS.HOST_CFG.EN 0) 1).set (DC.ABS.SESSION.SESSION 0) 7)).dc .u0),
    ({ port := 0, udpLength := 52, srcIp := 0, srcUdp := 0, dstIp := 0, magic := 0xA5B1, version := 1, flags := 0, session := 8, sequence := 1, opcode := abSoft, length := 4, target := 255, epoch := 0, status := 0, reserved := 0, tag := 187168602745614009536265077907229288482 }),
    (bytesBE 4 5), 0, by decide +kernel⟩,
  ⟨((oneUnit .u0 fun d => ((((d.set DC.BOOT.STATE.STATE dcRun).set DC.PAIR.STATUS.ROLE 0).set (DC.ABS.HOST_CFG.EN 0) 1).set (DC.ABS.SESSION.SESSION 0) 7)).dc .u0),
    ({ port := 0, udpLength := 52, srcIp := 0, srcUdp := 0, dstIp := 0, magic := 0xA5B1, version := 1, flags := 0, session := 7, sequence := 1, opcode := abSoft, length := 4, target := 255, epoch := 0, status := 0, reserved := 0, tag := 186034504280658913317216561512867340298 }),
    (bytesBE 4 5), 0, by decide +kernel⟩⟩

set_option maxRecDepth 100000 in
theorem test_host_commands_can_hold :
  (∃ (u : DcId) (pkt : Pkt) (g : Dc) (r : Reply) (addr : Nat) (count : Nat) (s : State), (pkt.opcode = abRead) ∧ (pkt.target = 0xFF) ∧
    ((s.dc u).gate pkt (pad4 (bytesBE 4 addr ++ bytesBE 2 count)) (addr) = (g, some r))) ∧
  (∃ (u : DcId) (pkt : Pkt) (g : Dc) (r : Reply) (addr : Nat) (value : Word) (s : State), (pkt.opcode = abWrite) ∧ (pkt.target = 0xFF)
    ∧ ((s.dc u).gate pkt (bytesBE 4 addr ++ bytesBE 4 value.toNat) (addr) = (g, some r)) ∧ (g.paired = false) ∧ ((g.busBlock (addr % 2 ^ 32)
    [value]).2.1 = stOk)) ∧
  (∃ (u : DcId) (pkt : Pkt) (g : Dc) (r : Reply) (addr : Nat) (values : List Word) (s : State), (pkt.opcode = abWriteBlock) ∧
    (pkt.target = 0xFF) ∧ ((s.dc u).gate pkt (pad4 (bytesBE 4 addr ++ bytesBE 2 values.length) ++ values.flatMap fun v => bytesBE 4 v.toNat) (addr) =
    (g, some r)) ∧ (g.paired = false) ∧ ((g.busBlock (addr % 2 ^ 32) values).2.1 = stOk)) ∧
  (∃ (u : DcId) (pkt : Pkt) (g : Dc) (r : Reply) (nonce : Nat) (s : State), (pkt.opcode = abSessionOpen) ∧ (pkt.target = 0xFF) ∧ ((s.dc
    u).gate pkt (bytesBE 8 nonce) (0) = (g, some r))) ∧
  (∃ (u : DcId) (pkt : Pkt) (g : Dc) (r : Reply) (s : State), (pkt.opcode = abSessionClose) ∧ (pkt.target = 0xFF) ∧ ((s.dc u).gate pkt ([])
    (0) = (g, some r))) ∧
  (∃ (u : DcId) (pkt : Pkt) (g : Dc) (r : Reply) (tag : Nat) (s : State), (pkt.opcode = abSoft) ∧ (pkt.target = 0xFF) ∧ ((s.dc u).gate
    pkt (bytesBE 4 tag) (0) = (g, some r)) ∧ (g.fld DC.TRG.CTRL.ISSUE = 1) ∧ (g.sourceOn srcSoft) ∧ (g.trg.tombs.length < 16384)) ∧
  (∃ (u : DcId) (pkt : Pkt) (g : Dc) (r : Reply) (tag : Nat) (s : State), (pkt.opcode = abSoft) ∧ (pkt.target = 0xFF) ∧ ((s.dc u).gate
    pkt (bytesBE 4 tag) (0) = (g, some r)) ∧ (g.fld DC.TRG.CTRL.ISSUE = 0)) ∧
  (∃ (u : DcId) (pkt : Pkt) (g : Dc) (r : Reply) (start : Nat) (stop : Nat) (tag : Nat) (s : State), (pkt.opcode = abWindow) ∧
    (pkt.target = 0xFF) ∧ ((s.dc u).gate pkt (bytesBE 8 start ++ bytesBE 8 stop ++ bytesBE 4 tag) (0) = (g, some r)) ∧ (g.fld DC.TRG.CTRL.ISSUE = 1) ∧
    (g.sourceOn srcWindow) ∧ (g.trg.tombs.length < 16384) ∧ (start < stop) ∧ (stop < 2 ^ 64) ∧ ((stop : Int) - start ≤ g.windowLimit) ∧ (stop ≤ g.now
    + 1024 * frameTicks)) ∧
  (∃ (u : DcId) (pkt : Pkt) (g : Dc) (r : Reply) (seq : Nat) (s : State), (pkt.opcode = abNoticeAck) ∧ (pkt.target = 0xFF) ∧ ((s.dc
    u).gate pkt (bytesBE 4 seq) (0) = (g, some r)) ∧ (g.abs.notices.any (fun x => x.seq == seq))) ∧
  (∃ (u : DcId) (pkt : Pkt) (g : Dc) (r : Reply) (seq : Nat) (s : State), (pkt.opcode = abNoticeAck) ∧ (pkt.target = 0xFF) ∧ ((s.dc
    u).gate pkt (bytesBE 4 seq) (0) = (g, some r)) ∧ (g.abs.notices.any (fun x => x.seq == seq) = false)) :=
  ⟨⟨.u0,
    ({ port := 0, udpLength := 56, srcIp := 0, srcUdp := 0, dstIp := 0, magic := 0xA5B1, version := 1, flags := 0, session := 7, sequence := 1, opcode := abRead, length := 8, target := 255, epoch := 0, status := 0, reserved := 0, tag := 57657787823047954297374382324960422443 }),
    ((((oneUnit .u0 fun d => ((((d.set DC.BOOT.STATE.STATE dcRun).set DC.PAIR.STATUS.ROLE 0).set (DC.ABS.HOST_CFG.EN 0) 1).set (DC.ABS.SESSION.SESSION 0) 7)).dc .u0).gate ({ port := 0, udpLength := 56, srcIp := 0, srcUdp := 0, dstIp := 0, magic := 0xA5B1, version := 1, flags := 0, session := 7, sequence := 1, opcode := abRead, length := 8, target := 255, epoch := 0, status := 0, reserved := 0, tag := 57657787823047954297374382324960422443 }) (pad4 (bytesBE 4 256 ++ bytesBE 2 2)) (256)).1),
    ({ host := 0, session := 7, sequence := 1, opcode := abRead, target := 255, tag := 57657787823047954297374382324960422443 }), 256, 2,
    (oneUnit .u0 fun d => ((((d.set DC.BOOT.STATE.STATE dcRun).set DC.PAIR.STATUS.ROLE 0).set (DC.ABS.HOST_CFG.EN 0) 1).set (DC.ABS.SESSION.SESSION 0) 7)),
    by decide +kernel⟩,
  ⟨.u0,
    ({ port := 0, udpLength := 56, srcIp := 0, srcUdp := 0, dstIp := 0, magic := 0xA5B1, version := 1, flags := 0, session := 7, sequence := 1, opcode := abWrite, length := 8, target := 255, epoch := 0, status := 0, reserved := 0, tag := 216468090606273019131182430322233118203 }),
    ((((oneUnit .u0 fun d => ((((d.set DC.BOOT.STATE.STATE dcRun).set DC.PAIR.STATUS.ROLE 0).set (DC.ABS.HOST_CFG.EN 0) 1).set (DC.ABS.SESSION.SESSION 0) 7).set DC.PAIR.CFG.PAIRED 0).dc .u0).gate ({ port := 0, udpLength := 56, srcIp := 0, srcUdp := 0, dstIp := 0, magic := 0xA5B1, version := 1, flags := 0, session := 7, sequence := 1, opcode := abWrite, length := 8, target := 255, epoch := 0, status := 0, reserved := 0, tag := 216468090606273019131182430322233118203 }) (bytesBE 4 262176 ++ bytesBE 4 ((3 : Word)).toNat) (262176)).1),
    ({ host := 0, session := 7, sequence := 1, opcode := abWrite, target := 255, tag := 216468090606273019131182430322233118203 }), 262176,
    ((3 : Word)),
    (oneUnit .u0 fun d => ((((d.set DC.BOOT.STATE.STATE dcRun).set DC.PAIR.STATUS.ROLE 0).set (DC.ABS.HOST_CFG.EN 0) 1).set (DC.ABS.SESSION.SESSION 0) 7).set DC.PAIR.CFG.PAIRED 0),
    by decide +kernel⟩,
  ⟨.u0,
    ({ port := 0, udpLength := 64, srcIp := 0, srcUdp := 0, dstIp := 0, magic := 0xA5B1, version := 1, flags := 0, session := 7, sequence := 1, opcode := abWriteBlock, length := 16, target := 255, epoch := 0, status := 0, reserved := 0, tag := 136014146964036897979889455980647608744 }),
    ((((oneUnit .u0 fun d => ((((d.set DC.BOOT.STATE.STATE dcRun).set DC.PAIR.STATUS.ROLE 0).set (DC.ABS.HOST_CFG.EN 0) 1).set (DC.ABS.SESSION.SESSION 0) 7).set DC.PAIR.CFG.PAIRED 0).dc .u0).gate ({ port := 0, udpLength := 64, srcIp := 0, srcUdp := 0, dstIp := 0, magic := 0xA5B1, version := 1, flags := 0, session := 7, sequence := 1, opcode := abWriteBlock, length := 16, target := 255, epoch := 0, status := 0, reserved := 0, tag := 136014146964036897979889455980647608744 }) (pad4 (bytesBE 4 262176 ++ bytesBE 2 (([3, 4] : List Word)).length) ++ (([3, 4] : List Word)).flatMap fun v => bytesBE 4 v.toNat) (262176)).1),
    ({ host := 0, session := 7, sequence := 1, opcode := abWriteBlock, target := 255, tag := 136014146964036897979889455980647608744 }), 262176,
    (([3, 4] : List Word)),
    (oneUnit .u0 fun d => ((((d.set DC.BOOT.STATE.STATE dcRun).set DC.PAIR.STATUS.ROLE 0).set (DC.ABS.HOST_CFG.EN 0) 1).set (DC.ABS.SESSION.SESSION 0) 7).set DC.PAIR.CFG.PAIRED 0),
    by decide +kernel⟩,
  ⟨.u0,
    ({ port := 0, udpLength := 56, srcIp := 0, srcUdp := 0, dstIp := 0, magic := 0xA5B1, version := 1, flags := 0, session := 0, sequence := 1, opcode := abSessionOpen, length := 8, target := 255, epoch := 0, status := 0, reserved := 0, tag := 274038874544960476484910886492737024819 }),
    ((((oneUnit .u0 fun d => ((((d.set DC.BOOT.STATE.STATE dcRun).set DC.PAIR.STATUS.ROLE 0).set (DC.ABS.HOST_CFG.EN 0) 1).set (DC.ABS.SESSION.SESSION 0) 7)).dc .u0).gate ({ port := 0, udpLength := 56, srcIp := 0, srcUdp := 0, dstIp := 0, magic := 0xA5B1, version := 1, flags := 0, session := 0, sequence := 1, opcode := abSessionOpen, length := 8, target := 255, epoch := 0, status := 0, reserved := 0, tag := 274038874544960476484910886492737024819 }) (bytesBE 8 77) (0)).1),
    ({ host := 0, session := 0, sequence := 1, opcode := abSessionOpen, target := 255, tag := 274038874544960476484910886492737024819 }), 77,
    (oneUnit .u0 fun d => ((((d.set DC.BOOT.STATE.STATE dcRun).set DC.PAIR.STATUS.ROLE 0).set (DC.ABS.HOST_CFG.EN 0) 1).set (DC.ABS.SESSION.SESSION 0) 7)),
    by decide +kernel⟩,
  ⟨.u0,
    ({ port := 0, udpLength := 48, srcIp := 0, srcUdp := 0, dstIp := 0, magic := 0xA5B1, version := 1, flags := 0, session := 7, sequence := 1, opcode := abSessionClose, length := 0, target := 255, epoch := 0, status := 0, reserved := 0, tag := 281457812512135645218218433511840800044 }),
    ((((oneUnit .u0 fun d => ((((d.set DC.BOOT.STATE.STATE dcRun).set DC.PAIR.STATUS.ROLE 0).set (DC.ABS.HOST_CFG.EN 0) 1).set (DC.ABS.SESSION.SESSION 0) 7)).dc .u0).gate ({ port := 0, udpLength := 48, srcIp := 0, srcUdp := 0, dstIp := 0, magic := 0xA5B1, version := 1, flags := 0, session := 7, sequence := 1, opcode := abSessionClose, length := 0, target := 255, epoch := 0, status := 0, reserved := 0, tag := 281457812512135645218218433511840800044 }) ([]) (0)).1),
    ({ host := 0, session := 7, sequence := 1, opcode := abSessionClose, target := 255, tag := 281457812512135645218218433511840800044 }),
    (oneUnit .u0 fun d => ((((d.set DC.BOOT.STATE.STATE dcRun).set DC.PAIR.STATUS.ROLE 0).set (DC.ABS.HOST_CFG.EN 0) 1).set (DC.ABS.SESSION.SESSION 0) 7)),
    by decide +kernel⟩,
  ⟨.u0,
    ({ port := 0, udpLength := 52, srcIp := 0, srcUdp := 0, dstIp := 0, magic := 0xA5B1, version := 1, flags := 0, session := 7, sequence := 1, opcode := abSoft, length := 4, target := 255, epoch := 0, status := 0, reserved := 0, tag := 186034504280658913317216561512867340298 }),
    ((((oneUnit .u0 fun d => (((((d.set DC.BOOT.STATE.STATE dcRun).set DC.PAIR.STATUS.ROLE 0).set (DC.ABS.HOST_CFG.EN 0) 1).set (DC.ABS.SESSION.SESSION 0) 7).set DC.TRG.CTRL.ISSUE 1).set (DC.TRG.HOLDOFF.EN srcSoft) 1).dc .u0).gate ({ port := 0, udpLength := 52, srcIp := 0, srcUdp := 0, dstIp := 0, magic := 0xA5B1, version := 1, flags := 0, session := 7, sequence := 1, opcode := abSoft, length := 4, target := 255, epoch := 0, status := 0, reserved := 0, tag := 186034504280658913317216561512867340298 }) (bytesBE 4 5) (0)).1),
    ({ host := 0, session := 7, sequence := 1, opcode := abSoft, target := 255, tag := 186034504280658913317216561512867340298 }), 5,
    (oneUnit .u0 fun d => (((((d.set DC.BOOT.STATE.STATE dcRun).set DC.PAIR.STATUS.ROLE 0).set (DC.ABS.HOST_CFG.EN 0) 1).set (DC.ABS.SESSION.SESSION 0) 7).set DC.TRG.CTRL.ISSUE 1).set (DC.TRG.HOLDOFF.EN srcSoft) 1),
    by decide +kernel⟩,
  ⟨.u0,
    ({ port := 0, udpLength := 52, srcIp := 0, srcUdp := 0, dstIp := 0, magic := 0xA5B1, version := 1, flags := 0, session := 7, sequence := 1, opcode := abSoft, length := 4, target := 255, epoch := 0, status := 0, reserved := 0, tag := 186034504280658913317216561512867340298 }),
    ((((oneUnit .u0 fun d => ((((d.set DC.BOOT.STATE.STATE dcRun).set DC.PAIR.STATUS.ROLE 0).set (DC.ABS.HOST_CFG.EN 0) 1).set (DC.ABS.SESSION.SESSION 0) 7).set DC.TRG.CTRL.ISSUE 0).dc .u0).gate ({ port := 0, udpLength := 52, srcIp := 0, srcUdp := 0, dstIp := 0, magic := 0xA5B1, version := 1, flags := 0, session := 7, sequence := 1, opcode := abSoft, length := 4, target := 255, epoch := 0, status := 0, reserved := 0, tag := 186034504280658913317216561512867340298 }) (bytesBE 4 5) (0)).1),
    ({ host := 0, session := 7, sequence := 1, opcode := abSoft, target := 255, tag := 186034504280658913317216561512867340298 }), 5,
    (oneUnit .u0 fun d => ((((d.set DC.BOOT.STATE.STATE dcRun).set DC.PAIR.STATUS.ROLE 0).set (DC.ABS.HOST_CFG.EN 0) 1).set (DC.ABS.SESSION.SESSION 0) 7).set DC.TRG.CTRL.ISSUE 0),
    by decide +kernel⟩,
  ⟨.u0,
    ({ port := 0, udpLength := 68, srcIp := 0, srcUdp := 0, dstIp := 0, magic := 0xA5B1, version := 1, flags := 0, session := 7, sequence := 1, opcode := abWindow, length := 20, target := 255, epoch := 0, status := 0, reserved := 0, tag := 33214669489156811455751759894908305437 }),
    ((((oneUnit .u0 fun d => (((((d.set DC.BOOT.STATE.STATE dcRun).set DC.PAIR.STATUS.ROLE 0).set (DC.ABS.HOST_CFG.EN 0) 1).set (DC.ABS.SESSION.SESSION 0) 7).set DC.TRG.CTRL.ISSUE 1).set (DC.TRG.HOLDOFF.EN srcWindow) 1 |>.set DC.TRG.DCAP.TICKS 4000000 |>.set DC.TRG.WIN_MAX.FRAMES 8 |>.set DC.TRG.GUARD.FRAMES 1).dc .u0).gate ({ port := 0, udpLength := 68, srcIp := 0, srcUdp := 0, dstIp := 0, magic := 0xA5B1, version := 1, flags := 0, session := 7, sequence := 1, opcode := abWindow, length := 20, target := 255, epoch := 0, status := 0, reserved := 0, tag := 33214669489156811455751759894908305437 }) (bytesBE 8 100 ++ bytesBE 8 200 ++ bytesBE 4 5) (0)).1),
    ({ host := 0, session := 7, sequence := 1, opcode := abWindow, target := 255, tag := 33214669489156811455751759894908305437 }), 100, 200, 5,
    (oneUnit .u0 fun d => (((((d.set DC.BOOT.STATE.STATE dcRun).set DC.PAIR.STATUS.ROLE 0).set (DC.ABS.HOST_CFG.EN 0) 1).set (DC.ABS.SESSION.SESSION 0) 7).set DC.TRG.CTRL.ISSUE 1).set (DC.TRG.HOLDOFF.EN srcWindow) 1 |>.set DC.TRG.DCAP.TICKS 4000000 |>.set DC.TRG.WIN_MAX.FRAMES 8 |>.set DC.TRG.GUARD.FRAMES 1),
    by decide +kernel⟩,
  ⟨.u0,
    ({ port := 0, udpLength := 52, srcIp := 0, srcUdp := 0, dstIp := 0, magic := 0xA5B1, version := 1, flags := 0, session := 7, sequence := 1, opcode := abNoticeAck, length := 4, target := 255, epoch := 0, status := 0, reserved := 0, tag := 299786414801902855145040095005151738692 }),
    ((((oneUnit .u0 fun d => (let d := ((((d.set DC.BOOT.STATE.STATE dcRun).set DC.PAIR.STATUS.ROLE 0).set (DC.ABS.HOST_CFG.EN 0) 1).set (DC.ABS.SESSION.SESSION 0) 7); { d with abs := { d.abs with notices := [{ seq := 1, code := 1 }, { seq := 2 }] } })).dc .u0).gate ({ port := 0, udpLength := 52, srcIp := 0, srcUdp := 0, dstIp := 0, magic := 0xA5B1, version := 1, flags := 0, session := 7, sequence := 1, opcode := abNoticeAck, length := 4, target := 255, epoch := 0, status := 0, reserved := 0, tag := 299786414801902855145040095005151738692 }) (bytesBE 4 2) (0)).1),
    ({ host := 0, session := 7, sequence := 1, opcode := abNoticeAck, target := 255, tag := 299786414801902855145040095005151738692 }), 2,
    (oneUnit .u0 fun d => (let d := ((((d.set DC.BOOT.STATE.STATE dcRun).set DC.PAIR.STATUS.ROLE 0).set (DC.ABS.HOST_CFG.EN 0) 1).set (DC.ABS.SESSION.SESSION 0) 7); { d with abs := { d.abs with notices := [{ seq := 1, code := 1 }, { seq := 2 }] } })),
    by decide +kernel⟩,
  ⟨.u0,
    ({ port := 0, udpLength := 52, srcIp := 0, srcUdp := 0, dstIp := 0, magic := 0xA5B1, version := 1, flags := 0, session := 7, sequence := 1, opcode := abNoticeAck, length := 4, target := 255, epoch := 0, status := 0, reserved := 0, tag := 299786414801902855145040095005151738692 }),
    ((((oneUnit .u0 fun d => ((((d.set DC.BOOT.STATE.STATE dcRun).set DC.PAIR.STATUS.ROLE 0).set (DC.ABS.HOST_CFG.EN 0) 1).set (DC.ABS.SESSION.SESSION 0) 7)).dc .u0).gate ({ port := 0, udpLength := 52, srcIp := 0, srcUdp := 0, dstIp := 0, magic := 0xA5B1, version := 1, flags := 0, session := 7, sequence := 1, opcode := abNoticeAck, length := 4, target := 255, epoch := 0, status := 0, reserved := 0, tag := 299786414801902855145040095005151738692 }) (bytesBE 4 2) (0)).1),
    ({ host := 0, session := 7, sequence := 1, opcode := abNoticeAck, target := 255, tag := 299786414801902855145040095005151738692 }), 2,
    (oneUnit .u0 fun d => ((((d.set DC.BOOT.STATE.STATE dcRun).set DC.PAIR.STATUS.ROLE 0).set (DC.ABS.HOST_CFG.EN 0) 1).set (DC.ABS.SESSION.SESSION 0) 7)),
    by decide +kernel⟩⟩

set_option maxRecDepth 100000 in
theorem test_store_and_pair_commands_can_hold :
  (∃ (u : DcId) (pkt : Pkt) (g : Dc) (r : Reply) (id : Nat) (limit : Nat) (s : State), (pkt.opcode = abPeatCredit) ∧ (pkt.target =
    0xFF) ∧ ((s.dc u).gate pkt (bytesBE 4 id ++ bytesBE 8 limit) (0) = (g, some r)) ∧ (g.active) ∧ (g.logNamed (id % 2 ^ 32) = some 0) ∧
    (g.peat.log.limit < limit % 2 ^ 64)) ∧
  (∃ (u : DcId) (pkt : Pkt) (g : Dc) (r : Reply) (id : Nat) (pos : Nat) (s : State), (pkt.opcode = abPeatAck) ∧ (pkt.target = 0xFF) ∧
    ((s.dc u).gate pkt (bytesBE 4 id ++ bytesBE 8 pos) (0) = (g, some r)) ∧ (g.active) ∧ (g.logNamed (id % 2 ^ 32) = some 0) ∧ (g.peat.log.release <
    pos % 2 ^ 64) ∧ (pos % 2 ^ 64 ≤ g.peat.log.sent)) ∧
  (∃ (u : DcId) (pkt : Pkt) (g : Dc) (r : Reply) (id : Nat) (pos : Nat) (s : State), (pkt.opcode = abPeatAck) ∧ (pkt.target = 0xFF) ∧
    ((s.dc u).gate pkt (bytesBE 4 id ++ bytesBE 8 pos) (0) = (g, some r)) ∧ (g.active) ∧ (g.logNamed (id % 2 ^ 32) = some 0) ∧ (g.peat.log.sent < pos
    % 2 ^ 64)) ∧
  (∃ (u : DcId) (pkt : Pkt) (g : Dc) (r : Reply) (id : Nat) (pos : Nat) (s : State), (pkt.opcode = abPeatRewind) ∧ (pkt.target = 0xFF)
    ∧ ((s.dc u).gate pkt (bytesBE 4 id ++ bytesBE 8 pos) (0) = (g, some r)) ∧ (g.active) ∧ (g.logNamed (id % 2 ^ 32) = some 0) ∧ (g.peat.log.release ≤
    pos % 2 ^ 64) ∧ (pos % 2 ^ 64 ≤ g.peat.log.sent)) ∧
  (∃ (u : DcId) (pkt : Pkt) (g : Dc) (r : Reply) (s : State), (pkt.opcode = abPeatCheckpoint) ∧ (pkt.target = 0xFF) ∧ ((s.dc u).gate pkt
    ([]) (0) = (g, some r)) ∧ (g.peat.cpRun = none)) ∧
  (∃ (u : DcId) (pkt : Pkt) (g : Dc) (r : Reply) (word : Nat) (geo : FlashGeom) (s : State), (pkt.opcode = abPeatFormat) ∧ (pkt.target
    = 0xFF) ∧ ((s.dc u).gate pkt (bytesBE 4 word) (0) = (g, some r)) ∧ (word % 2 ^ 32 = 0x50454154) ∧ (g.state = dcHostwait) ∧ (g.fld DC.PEAT.CTRL.EN
    = 0) ∧ (g.peat.formatting = none) ∧ (g.peat.flash.geom = some geo) ∧ (geo.chanFail = false)) ∧
  (∃ (u : DcId) (ask : Reply) (geo : FlashGeom) (k : Fin 8) (s : State), ((s.dc u).peat.formatting = some (ask, [k.val])) ∧ ((s.dc
    u).peat.stopped = none) ∧ ((s.dc u).peat.flash.geom = some geo)) ∧
  (∃ (u : DcId) (pkt : Pkt) (g : Dc) (r : Reply) (index : Nat) (f : Fence) (s : State), (pkt.opcode = abPeatFence) ∧ (pkt.target =
    0xFF) ∧ ((s.dc u).gate pkt (pad4 (bytesBE 2 index)) (0) = (g, some r)) ∧ (g.peat.readFence = some f) ∧ (index % 65536 < f.idents.length)) ∧
  (∃ (u : DcId) (pkt : Pkt) (g : Dc) (r : Reply) (c : Nat) (start : Nat) (len : Nat) (s : State), (pkt.opcode = abMemHeal) ∧
    (pkt.target = 0xFF) ∧ ((s.dc u).gate pkt (pad4 (bytesBE 1 c) ++ bytesBE 8 start ++ bytesBE 4 len) (0) = (g, some r)) ∧ (g.mem.heal = none) ∧ (c <
    8) ∧ (start % 32 = 0) ∧ (len % 32 = 0) ∧ (len ≤ 2 ^ 30) ∧ (start + len ≤ 64 * g.chanLines)) ∧
  (∃ (u : DcId) (pkt : Pkt) (g : Dc) (r : Reply) (c : Nat) (page : Nat) (s : State), (pkt.opcode = abMemRetire) ∧ (pkt.target = 0xFF)
    ∧ ((s.dc u).gate pkt (pad4 (bytesBE 1 c) ++ bytesBE 4 page) (0) = (g, some r)) ∧ (c < 8) ∧ (page < 2 ^ 32) ∧ (page * 1024 < g.ringLines) ∧
    (g.mire.retired.contains (c, page) = false) ∧ (64 * (g.ringRetired c + 1) ≤ ringPositions g.cap / pageSlots)) ∧
  (∃ (u : DcId) (pkt : Pkt) (g : Dc) (r : Reply) (s : State), (pkt.opcode = abPairHandover) ∧ (pkt.target = 0xFF) ∧ ((s.dc u).gate pkt ([])
    (0) = (g, some r)) ∧ (g.active) ∧ (g.pstate = psSync) ∧ (64 ≤ g.fld DC.PAIR.STATUS.SYNC_FRAMES) ∧ (g.pair.handover = none)) ∧
  (∃ (u : DcId) (pkt : Pkt) (g : Dc) (r : Reply) (seq : Nat) (s : State), (pkt.opcode = abPairForce) ∧ (pkt.target = 0xFF) ∧ ((s.dc
    u).gate pkt (bytesBE 8 seq) (0) = (g, some r)) ∧ (g.active = false) ∧ (g.pstate = psLost) ∧ (g.pair.complete = []) ∧ (g.fld DC.TRG.CTRL.EN = 0) ∧
    (g.trg.next ≤ seq) ∧ (seq < 2 ^ 48)) :=
  ⟨⟨.u0,
    ({ port := 0, udpLength := 60, srcIp := 0, srcUdp := 0, dstIp := 0, magic := 0xA5B1, version := 1, flags := 0, session := 7, sequence := 1, opcode := abPeatCredit, length := 12, target := 255, epoch := 0, status := 0, reserved := 0, tag := 114053024468070610280409733072517338649 }),
    ((((oneUnit .u0 fun d => (let d := ((((d.set DC.BOOT.STATE.STATE dcRun).set DC.PAIR.STATUS.ROLE 0).set (DC.ABS.HOST_CFG.EN 0) 1).set (DC.ABS.SESSION.SESSION 0) 7).set DC.PEAT.STATUS.READY 1; { d with peat := { d.peat with flash := { formatted := true, id := 9, u := 1000000, perBlock := 768, geom := some { targets := 1, luns := 1, planes := 3, blocks := 4096, pagesPerBlock := 768, rate := 0, mismatch := false, chanFail := false, factoryBad := [] } }, log := { id := 9, commit := 900, sent := 800, release := 100, limit := 1000 } } })).dc .u0).gate ({ port := 0, udpLength := 60, srcIp := 0, srcUdp := 0, dstIp := 0, magic := 0xA5B1, version := 1, flags := 0, session := 7, sequence := 1, opcode := abPeatCredit, length := 12, target := 255, epoch := 0, status := 0, reserved := 0, tag := 114053024468070610280409733072517338649 }) (bytesBE 4 9 ++ bytesBE 8 2000) (0)).1),
    ({ host := 0, session := 7, sequence := 1, opcode := abPeatCredit, target := 255, tag := 114053024468070610280409733072517338649 }), 9, 2000,
    (oneUnit .u0 fun d => (let d := ((((d.set DC.BOOT.STATE.STATE dcRun).set DC.PAIR.STATUS.ROLE 0).set (DC.ABS.HOST_CFG.EN 0) 1).set (DC.ABS.SESSION.SESSION 0) 7).set DC.PEAT.STATUS.READY 1; { d with peat := { d.peat with flash := { formatted := true, id := 9, u := 1000000, perBlock := 768, geom := some { targets := 1, luns := 1, planes := 3, blocks := 4096, pagesPerBlock := 768, rate := 0, mismatch := false, chanFail := false, factoryBad := [] } }, log := { id := 9, commit := 900, sent := 800, release := 100, limit := 1000 } } })),
    by decide +kernel⟩,
  ⟨.u0,
    ({ port := 0, udpLength := 60, srcIp := 0, srcUdp := 0, dstIp := 0, magic := 0xA5B1, version := 1, flags := 0, session := 7, sequence := 1, opcode := abPeatAck, length := 12, target := 255, epoch := 0, status := 0, reserved := 0, tag := 294187017151202834177287770757291945298 }),
    ((((oneUnit .u0 fun d => (let d := ((((d.set DC.BOOT.STATE.STATE dcRun).set DC.PAIR.STATUS.ROLE 0).set (DC.ABS.HOST_CFG.EN 0) 1).set (DC.ABS.SESSION.SESSION 0) 7).set DC.PEAT.STATUS.READY 1; { d with peat := { d.peat with flash := { ({ formatted := true, id := 9, u := 1000000, perBlock := 768, geom := some { targets := 1, luns := 1, planes := 3, blocks := 4096, pagesPerBlock := 768, rate := 0, mismatch := false, chanFail := false, factoryBad := [] } } : Flash) with items := [{ off := 100, words := [1, 2], j := 1 }] }, log := { id := 9, commit := 900, sent := 800, release := 100, limit := 1000 } } })).dc .u0).gate ({ port := 0, udpLength := 60, srcIp := 0, srcUdp := 0, dstIp := 0, magic := 0xA5B1, version := 1, flags := 0, session := 7, sequence := 1, opcode := abPeatAck, length := 12, target := 255, epoch := 0, status := 0, reserved := 0, tag := 294187017151202834177287770757291945298 }) (bytesBE 4 9 ++ bytesBE 8 200) (0)).1),
    ({ host := 0, session := 7, sequence := 1, opcode := abPeatAck, target := 255, tag := 294187017151202834177287770757291945298 }), 9, 200,
    (oneUnit .u0 fun d => (let d := ((((d.set DC.BOOT.STATE.STATE dcRun).set DC.PAIR.STATUS.ROLE 0).set (DC.ABS.HOST_CFG.EN 0) 1).set (DC.ABS.SESSION.SESSION 0) 7).set DC.PEAT.STATUS.READY 1; { d with peat := { d.peat with flash := { ({ formatted := true, id := 9, u := 1000000, perBlock := 768, geom := some { targets := 1, luns := 1, planes := 3, blocks := 4096, pagesPerBlock := 768, rate := 0, mismatch := false, chanFail := false, factoryBad := [] } } : Flash) with items := [{ off := 100, words := [1, 2], j := 1 }] }, log := { id := 9, commit := 900, sent := 800, release := 100, limit := 1000 } } })),
    by decide +kernel⟩,
  ⟨.u0,
    ({ port := 0, udpLength := 60, srcIp := 0, srcUdp := 0, dstIp := 0, magic := 0xA5B1, version := 1, flags := 0, session := 7, sequence := 1, opcode := abPeatAck, length := 12, target := 255, epoch := 0, status := 0, reserved := 0, tag := 293173622542094777815242417753494289424 }),
    ((((oneUnit .u0 fun d => (let d := ((((d.set DC.BOOT.STATE.STATE dcRun).set DC.PAIR.STATUS.ROLE 0).set (DC.ABS.HOST_CFG.EN 0) 1).set (DC.ABS.SESSION.SESSION 0) 7).set DC.PEAT.STATUS.READY 1; { d with peat := { d.peat with flash := { formatted := true, id := 9, u := 1000000, perBlock := 768, geom := some { targets := 1, luns := 1, planes := 3, blocks := 4096, pagesPerBlock := 768, rate := 0, mismatch := false, chanFail := false, factoryBad := [] } }, log := { id := 9, commit := 900, sent := 800, release := 100, limit := 1000 } } })).dc .u0).gate ({ port := 0, udpLength := 60, srcIp := 0, srcUdp := 0, dstIp := 0, magic := 0xA5B1, version := 1, flags := 0, session := 7, sequence := 1, opcode := abPeatAck, length := 12, target := 255, epoch := 0, status := 0, reserved := 0, tag := 293173622542094777815242417753494289424 }) (bytesBE 4 9 ++ bytesBE 8 850) (0)).1),
    ({ host := 0, session := 7, sequence := 1, opcode := abPeatAck, target := 255, tag := 293173622542094777815242417753494289424 }), 9, 850,
    (oneUnit .u0 fun d => (let d := ((((d.set DC.BOOT.STATE.STATE dcRun).set DC.PAIR.STATUS.ROLE 0).set (DC.ABS.HOST_CFG.EN 0) 1).set (DC.ABS.SESSION.SESSION 0) 7).set DC.PEAT.STATUS.READY 1; { d with peat := { d.peat with flash := { formatted := true, id := 9, u := 1000000, perBlock := 768, geom := some { targets := 1, luns := 1, planes := 3, blocks := 4096, pagesPerBlock := 768, rate := 0, mismatch := false, chanFail := false, factoryBad := [] } }, log := { id := 9, commit := 900, sent := 800, release := 100, limit := 1000 } } })),
    by decide +kernel⟩,
  ⟨.u0,
    ({ port := 0, udpLength := 60, srcIp := 0, srcUdp := 0, dstIp := 0, magic := 0xA5B1, version := 1, flags := 0, session := 7, sequence := 1, opcode := abPeatRewind, length := 12, target := 255, epoch := 0, status := 0, reserved := 0, tag := 139562773499942193365301021185646551608 }),
    ((((oneUnit .u0 fun d => (let d := ((((d.set DC.BOOT.STATE.STATE dcRun).set DC.PAIR.STATUS.ROLE 0).set (DC.ABS.HOST_CFG.EN 0) 1).set (DC.ABS.SESSION.SESSION 0) 7).set DC.PEAT.STATUS.READY 1; { d with peat := { d.peat with flash := { formatted := true, id := 9, u := 1000000, perBlock := 768, geom := some { targets := 1, luns := 1, planes := 3, blocks := 4096, pagesPerBlock := 768, rate := 0, mismatch := false, chanFail := false, factoryBad := [] } }, log := { id := 9, commit := 900, sent := 800, release := 100, limit := 1000 } } })).dc .u0).gate ({ port := 0, udpLength := 60, srcIp := 0, srcUdp := 0, dstIp := 0, magic := 0xA5B1, version := 1, flags := 0, session := 7, sequence := 1, opcode := abPeatRewind, length := 12, target := 255, epoch := 0, status := 0, reserved := 0, tag := 139562773499942193365301021185646551608 }) (bytesBE 4 9 ++ bytesBE 8 200) (0)).1),
    ({ host := 0, session := 7, sequence := 1, opcode := abPeatRewind, target := 255, tag := 139562773499942193365301021185646551608 }), 9, 200,
    (oneUnit .u0 fun d => (let d := ((((d.set DC.BOOT.STATE.STATE dcRun).set DC.PAIR.STATUS.ROLE 0).set (DC.ABS.HOST_CFG.EN 0) 1).set (DC.ABS.SESSION.SESSION 0) 7).set DC.PEAT.STATUS.READY 1; { d with peat := { d.peat with flash := { formatted := true, id := 9, u := 1000000, perBlock := 768, geom := some { targets := 1, luns := 1, planes := 3, blocks := 4096, pagesPerBlock := 768, rate := 0, mismatch := false, chanFail := false, factoryBad := [] } }, log := { id := 9, commit := 900, sent := 800, release := 100, limit := 1000 } } })),
    by decide +kernel⟩,
  ⟨.u0,
    ({ port := 0, udpLength := 48, srcIp := 0, srcUdp := 0, dstIp := 0, magic := 0xA5B1, version := 1, flags := 0, session := 7, sequence := 1, opcode := abPeatCheckpoint, length := 0, target := 255, epoch := 0, status := 0, reserved := 0, tag := 263809833013814779261336400433616700773 }),
    ((((oneUnit .u0 fun d => (let d := ((((d.set DC.BOOT.STATE.STATE dcRun).set DC.PAIR.STATUS.ROLE 0).set (DC.ABS.HOST_CFG.EN 0) 1).set (DC.ABS.SESSION.SESSION 0) 7).set DC.PEAT.STATUS.READY 1; { d with peat := { d.peat with flash := { formatted := true, id := 9, u := 1000000, perBlock := 768, geom := some { targets := 1, luns := 1, planes := 3, blocks := 4096, pagesPerBlock := 768, rate := 0, mismatch := false, chanFail := false, factoryBad := [] } }, log := { id := 9, commit := 900, sent := 800, release := 100, limit := 1000 } } })).dc .u0).gate ({ port := 0, udpLength := 48, srcIp := 0, srcUdp := 0, dstIp := 0, magic := 0xA5B1, version := 1, flags := 0, session := 7, sequence := 1, opcode := abPeatCheckpoint, length := 0, target := 255, epoch := 0, status := 0, reserved := 0, tag := 263809833013814779261336400433616700773 }) ([]) (0)).1),
    ({ host := 0, session := 7, sequence := 1, opcode := abPeatCheckpoint, target := 255, tag := 263809833013814779261336400433616700773 }),
    (oneUnit .u0 fun d => (let d := ((((d.set DC.BOOT.STATE.STATE dcRun).set DC.PAIR.STATUS.ROLE 0).set (DC.ABS.HOST_CFG.EN 0) 1).set (DC.ABS.SESSION.SESSION 0) 7).set DC.PEAT.STATUS.READY 1; { d with peat := { d.peat with flash := { formatted := true, id := 9, u := 1000000, perBlock := 768, geom := some { targets := 1, luns := 1, planes := 3, blocks := 4096, pagesPerBlock := 768, rate := 0, mismatch := false, chanFail := false, factoryBad := [] } }, log := { id := 9, commit := 900, sent := 800, release := 100, limit := 1000 } } })),
    by decide +kernel⟩,
  ⟨.u0,
    ({ port := 0, udpLength := 52, srcIp := 0, srcUdp := 0, dstIp := 0, magic := 0xA5B1, version := 1, flags := 0, session := 7, sequence := 1, opcode := abPeatFormat, length := 4, target := 255, epoch := 0, status := 0, reserved := 0, tag := 300176595502281780897084908245389432077 }),
    ((((oneUnit .u0 fun d => (let d := ((((d.set DC.BOOT.STATE.STATE dcHostwait).set DC.PAIR.STATUS.ROLE 0).set (DC.ABS.HOST_CFG.EN 0) 1).set (DC.ABS.SESSION.SESSION 0) 7); { d with peat := { d.peat with flash := { formatted := true, id := 9, u := 1000000, perBlock := 768, geom := some { targets := 1, luns := 1, planes := 3, blocks := 4096, pagesPerBlock := 768, rate := 0, mismatch := false, chanFail := false, factoryBad := [] } }, log := { id := 9, commit := 900, sent := 800, release := 100, limit := 1000 } } })).dc .u0).gate ({ port := 0, udpLength := 52, srcIp := 0, srcUdp := 0, dstIp := 0, magic := 0xA5B1, version := 1, flags := 0, session := 7, sequence := 1, opcode := abPeatFormat, length := 4, target := 255, epoch := 0, status := 0, reserved := 0, tag := 300176595502281780897084908245389432077 }) (bytesBE 4 1346715988) (0)).1),
    ({ host := 0, session := 7, sequence := 1, opcode := abPeatFormat, target := 255, tag := 300176595502281780897084908245389432077 }), 1346715988,
    ({ targets := 1, luns := 1, planes := 3, blocks := 4096, pagesPerBlock := 768, rate := 0, mismatch := false, chanFail := false, factoryBad := [] }),
    (oneUnit .u0 fun d => (let d := ((((d.set DC.BOOT.STATE.STATE dcHostwait).set DC.PAIR.STATUS.ROLE 0).set (DC.ABS.HOST_CFG.EN 0) 1).set (DC.ABS.SESSION.SESSION 0) 7); { d with peat := { d.peat with flash := { formatted := true, id := 9, u := 1000000, perBlock := 768, geom := some { targets := 1, luns := 1, planes := 3, blocks := 4096, pagesPerBlock := 768, rate := 0, mismatch := false, chanFail := false, factoryBad := [] } }, log := { id := 9, commit := 900, sent := 800, release := 100, limit := 1000 } } })),
    by decide +kernel⟩,
  ⟨.u0, ({}), ({ targets := 1, luns := 1, planes := 3, blocks := 4096, pagesPerBlock := 768 }), 2,
    (oneUnit .u0 fun d => { d with peat := { d.peat with flash := { formatted := true, id := 9, u := 1000000, perBlock := 768, geom := some { targets := 1, luns := 1, planes := 3, blocks := 4096, pagesPerBlock := 768, rate := 0, mismatch := false, chanFail := false, factoryBad := [] } }, formatting := some ({}, [2]) } }),
    by decide +kernel⟩,
  ⟨.u0,
    ({ port := 0, udpLength := 52, srcIp := 0, srcUdp := 0, dstIp := 0, magic := 0xA5B1, version := 1, flags := 0, session := 7, sequence := 1, opcode := abPeatFence, length := 4, target := 255, epoch := 0, status := 0, reserved := 0, tag := 86594032565552771467169561519585709317 }),
    ((((oneUnit .u0 fun d => (let d := ((((d.set DC.BOOT.STATE.STATE dcRun).set DC.PAIR.STATUS.ROLE 0).set (DC.ABS.HOST_CFG.EN 0) 1).set (DC.ABS.SESSION.SESSION 0) 7); { d with peat := { d.peat with readFence := some { idents := [7, 8] } } })).dc .u0).gate ({ port := 0, udpLength := 52, srcIp := 0, srcUdp := 0, dstIp := 0, magic := 0xA5B1, version := 1, flags := 0, session := 7, sequence := 1, opcode := abPeatFence, length := 4, target := 255, epoch := 0, status := 0, reserved := 0, tag := 86594032565552771467169561519585709317 }) (pad4 (bytesBE 2 1)) (0)).1),
    ({ host := 0, session := 7, sequence := 1, opcode := abPeatFence, target := 255, tag := 86594032565552771467169561519585709317 }), 1,
    ({ idents := [7, 8] }),
    (oneUnit .u0 fun d => (let d := ((((d.set DC.BOOT.STATE.STATE dcRun).set DC.PAIR.STATUS.ROLE 0).set (DC.ABS.HOST_CFG.EN 0) 1).set (DC.ABS.SESSION.SESSION 0) 7); { d with peat := { d.peat with readFence := some { idents := [7, 8] } } })),
    by decide +kernel⟩,
  ⟨.u0,
    ({ port := 0, udpLength := 64, srcIp := 0, srcUdp := 0, dstIp := 0, magic := 0xA5B1, version := 1, flags := 0, session := 7, sequence := 1, opcode := abMemHeal, length := 16, target := 255, epoch := 0, status := 0, reserved := 0, tag := 151020723194633029442500009032171572383 }),
    ((((oneUnit .u0 fun d => ((((d.set DC.BOOT.STATE.STATE dcRun).set DC.PAIR.STATUS.ROLE 0).set (DC.ABS.HOST_CFG.EN 0) 1).set (DC.ABS.SESSION.SESSION 0) 7)).dc .u0).gate ({ port := 0, udpLength := 64, srcIp := 0, srcUdp := 0, dstIp := 0, magic := 0xA5B1, version := 1, flags := 0, session := 7, sequence := 1, opcode := abMemHeal, length := 16, target := 255, epoch := 0, status := 0, reserved := 0, tag := 151020723194633029442500009032171572383 }) (pad4 (bytesBE 1 5) ++ bytesBE 8 64 ++ bytesBE 4 32) (0)).1),
    ({ host := 0, session := 7, sequence := 1, opcode := abMemHeal, target := 255, tag := 151020723194633029442500009032171572383 }), 5, 64, 32,
    (oneUnit .u0 fun d => ((((d.set DC.BOOT.STATE.STATE dcRun).set DC.PAIR.STATUS.ROLE 0).set (DC.ABS.HOST_CFG.EN 0) 1).set (DC.ABS.SESSION.SESSION 0) 7)),
    by decide +kernel⟩,
  ⟨.u0,
    ({ port := 0, udpLength := 56, srcIp := 0, srcUdp := 0, dstIp := 0, magic := 0xA5B1, version := 1, flags := 0, session := 7, sequence := 1, opcode := abMemRetire, length := 8, target := 255, epoch := 0, status := 0, reserved := 0, tag := 220798164101474651687347468197771617867 }),
    ((((oneUnit .u0 fun d => ((((d.set DC.BOOT.STATE.STATE dcRun).set DC.PAIR.STATUS.ROLE 0).set (DC.ABS.HOST_CFG.EN 0) 1).set (DC.ABS.SESSION.SESSION 0) 7)).dc .u0).gate ({ port := 0, udpLength := 56, srcIp := 0, srcUdp := 0, dstIp := 0, magic := 0xA5B1, version := 1, flags := 0, session := 7, sequence := 1, opcode := abMemRetire, length := 8, target := 255, epoch := 0, status := 0, reserved := 0, tag := 220798164101474651687347468197771617867 }) (pad4 (bytesBE 1 5) ++ bytesBE 4 7) (0)).1),
    ({ host := 0, session := 7, sequence := 1, opcode := abMemRetire, target := 255, tag := 220798164101474651687347468197771617867 }), 5, 7,
    (oneUnit .u0 fun d => ((((d.set DC.BOOT.STATE.STATE dcRun).set DC.PAIR.STATUS.ROLE 0).set (DC.ABS.HOST_CFG.EN 0) 1).set (DC.ABS.SESSION.SESSION 0) 7)),
    by decide +kernel⟩,
  ⟨.u0,
    ({ port := 0, udpLength := 48, srcIp := 0, srcUdp := 0, dstIp := 0, magic := 0xA5B1, version := 1, flags := 0, session := 7, sequence := 1, opcode := abPairHandover, length := 0, target := 255, epoch := 0, status := 0, reserved := 0, tag := 1943758229926441054260610717145986475 }),
    ((((oneUnit .u0 fun d => (((((d.set DC.BOOT.STATE.STATE dcRun).set DC.PAIR.STATUS.ROLE 0).set (DC.ABS.HOST_CFG.EN 0) 1).set (DC.ABS.SESSION.SESSION 0) 7).set DC.PAIR.STATUS.PSTATE psSync).set DC.PAIR.STATUS.SYNC_FRAMES 64).dc .u0).gate ({ port := 0, udpLength := 48, srcIp := 0, srcUdp := 0, dstIp := 0, magic := 0xA5B1, version := 1, flags := 0, session := 7, sequence := 1, opcode := abPairHandover, length := 0, target := 255, epoch := 0, status := 0, reserved := 0, tag := 1943758229926441054260610717145986475 }) ([]) (0)).1),
    ({ host := 0, session := 7, sequence := 1, opcode := abPairHandover, target := 255, tag := 1943758229926441054260610717145986475 }),
    (oneUnit .u0 fun d => (((((d.set DC.BOOT.STATE.STATE dcRun).set DC.PAIR.STATUS.ROLE 0).set (DC.ABS.HOST_CFG.EN 0) 1).set (DC.ABS.SESSION.SESSION 0) 7).set DC.PAIR.STATUS.PSTATE psSync).set DC.PAIR.STATUS.SYNC_FRAMES 64),
    by decide +kernel⟩,
  ⟨.u0,
    ({ port := 0, udpLength := 56, srcIp := 0, srcUdp := 0, dstIp := 0, magic := 0xA5B1, version := 1, flags := 0, session := 7, sequence := 1, opcode := abPairForce, length := 8, target := 255, epoch := 0, status := 0, reserved := 0, tag := 33319673236699988453628397570249266296 }),
    ((((oneUnit .u0 fun d => (((((d.set DC.BOOT.STATE.STATE dcRun).set DC.PAIR.STATUS.ROLE 0).set (DC.ABS.HOST_CFG.EN 0) 1).set (DC.ABS.SESSION.SESSION 0) 7).set DC.PAIR.STATUS.ROLE 1).set DC.PAIR.STATUS.PSTATE psLost).dc .u0).gate ({ port := 0, udpLength := 56, srcIp := 0, srcUdp := 0, dstIp := 0, magic := 0xA5B1, version := 1, flags := 0, session := 7, sequence := 1, opcode := abPairForce, length := 8, target := 255, epoch := 0, status := 0, reserved := 0, tag := 33319673236699988453628397570249266296 }) (bytesBE 8 9) (0)).1),
    ({ host := 0, session := 7, sequence := 1, opcode := abPairForce, target := 255, tag := 33319673236699988453628397570249266296 }), 9,
    (oneUnit .u0 fun d => (((((d.set DC.BOOT.STATE.STATE dcRun).set DC.PAIR.STATUS.ROLE 0).set (DC.ABS.HOST_CFG.EN 0) 1).set (DC.ABS.SESSION.SESSION 0) 7).set DC.PAIR.STATUS.ROLE 1).set DC.PAIR.STATUS.PSTATE psLost),
    by decide +kernel⟩⟩

set_option maxRecDepth 100000 in
theorem test_forwarding_and_frames_can_hold :
  (∃ (u : DcId) (n : Fin 64) (pkt : Pkt) (params : List Rec) (g : Dc) (r : Reply) (s : State), (pkt.target = n.val) ∧ ((s.dc u).gate
    pkt (params.flatMap fun w => bytesBE 8 w.toNat) (0) = (g, some r)) ∧ (forwardable pkt.opcode) ∧ (g.fld (DC.IBR.CFG.EN n) = 1) ∧ (params.length ≤
    32) ∧ (g.dnRun n) ∧ ((FMap.get {} g.abs.fwd n).queue.length < 16)) ∧
  (∃ (u : DcId) (n : Fin 64) (f : Fwd) (rest : List Fwd) (s : State), ((s.dc u).active) ∧ ((s.dc u).pair.final = false) ∧ (((s.dc u).fwd
    n).out = none) ∧ (((s.dc u).fwd n).queue = f :: rest) ∧ ((s.dc u).dnRun n) ∧ (((s.dc u).port n).tx = [])) ∧
  (∃ (u : DcId) (n : Fin 64) (f : Fwd) (s : State), ((s.dc u).active) ∧ ((s.dc u).pair.final = false) ∧ (((s.dc u).fwd n).out = some f) ∧
    (f.leaving = false) ∧ (f.sends < 3) ∧ ((s.dc u).dnRun n)) ∧
  (∃ (u : DcId) (n : Fin 64) (f : Fwd) (r : Reply) (s : State), ((s.dc u).active) ∧ ((s.dc u).pair.final = false) ∧ (((s.dc u).fwd n).out =
    some f) ∧ (f.leaving = false) ∧ (3 ≤ f.sends) ∧ (f.ask = some r)) ∧
  (∃ (u : DcId) (y : Notice) (s : State), ((s.dc u).abs.notices = [y])) ∧
  (∃ (u : DcId) (port : Fin 2) (ip : Nat) (s : State), ((s.dc u).active) ∧ ((s.dc u).receivePoison = none) ∧ ((s.dc u).transmitPoison = none) ∧
    (ip = (s.dc u).fld DC.ABS.SVC_IP.ADDR) ∧ (FMap.get 0 (s.dc u).abs.level (2 * port + 1) < (s.dc u).fld (DC.ABS.RL_B.BURST port))) ∧
  (∃ (u : DcId) (ip : Nat) (s : State), ((s.dc u).receivePoison = none) ∧ (((s.dc u).active = false ∨ ip ≠ (s.dc u).fld DC.ABS.SVC_IP.ADDR))) ∧
  (∃ (u : DcId) (ef : EthFrame) (reason : Nat) (s : State), ((s.dc u).receivePoison = none) ∧ ((s.dc u).strangerReason ef = some reason) ∧
    (reason ≠ 5)) ∧
  (∃ (u : DcId) (w : Nat) (s : State), ((s.dc u).receivePoison = some w)) :=
  ⟨⟨.u0, 3,
    ({ port := 0, udpLength := 56, srcIp := 0, srcUdp := 0, dstIp := 0, magic := 0xA5B1, version := 1, flags := 0, session := 7, sequence := 1, opcode := 0x0802, length := 8, target := 3, epoch := 0, status := 0, reserved := 0, tag := 67484921777521004592909162090910299230 }),
    (([5] : List Rec)),
    ((((oneUnit .u0 fun d => (((((d.set DC.BOOT.STATE.STATE dcRun).set DC.PAIR.STATUS.ROLE 0).set (DC.ABS.HOST_CFG.EN 0) 1).set (DC.ABS.SESSION.SESSION 0) 7).set (DC.IBR.CFG.EN 3) 1).set (DC.IBR.STAT.DN_STATE 3) 5).dc .u0).gate ({ port := 0, udpLength := 56, srcIp := 0, srcUdp := 0, dstIp := 0, magic := 0xA5B1, version := 1, flags := 0, session := 7, sequence := 1, opcode := 0x0802, length := 8, target := 3, epoch := 0, status := 0, reserved := 0, tag := 67484921777521004592909162090910299230 }) ((([5] : List Rec)).flatMap fun w => bytesBE 8 w.toNat) (0)).1),
    ({ host := 0, session := 7, sequence := 1, opcode := 0x0802, target := 3, tag := 67484921777521004592909162090910299230 }),
    (oneUnit .u0 fun d => (((((d.set DC.BOOT.STATE.STATE dcRun).set DC.PAIR.STATUS.ROLE 0).set (DC.ABS.HOST_CFG.EN 0) 1).set (DC.ABS.SESSION.SESSION 0) 7).set (DC.IBR.CFG.EN 3) 1).set (DC.IBR.STAT.DN_STATE 3) 5),
    by decide +kernel⟩,
  ⟨.u0, 3, ({ words := [0x0200000000000000, 5], ask := none }), [],
    (oneUnit .u0 fun d => let d := (d.set (DC.IBR.STAT.DN_STATE 3) 5).set DC.PAIR.STATUS.ROLE 0; { d with abs := { d.abs with fwd := [(3, { queue := [{ words := [0x0200000000000000, 5], ask := none }] })] } }),
    by decide +kernel⟩,
  ⟨.u0, 3, ({ words := [0x0200000000000000, 5], ask := none, sends := 1, sentAt := 100 }),
    (oneUnit .u0 fun d => let d := (d.set (DC.IBR.STAT.DN_STATE 3) 5).set DC.PAIR.STATUS.ROLE 0; { d with abs := { d.abs with fwd := [(3, { out := some { words := [0x0200000000000000, 5], ask := none, sends := 1, sentAt := 100 } })] } }),
    by decide +kernel⟩,
  ⟨.u0, 3, ({ words := [0x0200000000000000, 5], ask := some { host := 0, session := 7 }, sends := 3, sentAt := 100 }),
    ({ host := 0, session := 7 }),
    (oneUnit .u0 fun d => let d := (d.set (DC.IBR.STAT.DN_STATE 3) 5).set DC.PAIR.STATUS.ROLE 0; { d with abs := { d.abs with fwd := [(3, { out := some { words := [0x0200000000000000, 5], ask := some { host := 0, session := 7 }, sends := 3, sentAt := 100 } })] } }),
    by decide +kernel⟩,
  ⟨.u0, ({ seq := 1, code := 3, sent := 4 }), (oneUnit .u0 fun d => { d with abs := { d.abs with notices := [{ seq := 1, code := 3, sent := 4 }] } }),
    by decide +kernel⟩,
  ⟨.u0, 1, 0, (oneUnit .u0 fun d => d.set DC.PAIR.STATUS.ROLE 0), by decide +kernel⟩,
  ⟨.u0, 7, (oneUnit .u0 fun d => d), by decide +kernel⟩,
  ⟨.u0,
    ({ intact := true, etherType := 0x0800, request := false, asked := 0, dstIp := 0, protocol := 17, plain := true, dstUdp := 9, udpLength := 60 }),
    4, (oneUnit .u0 fun d => d), by decide +kernel⟩,
  ⟨.u0, 3, (oneUnit .u0 fun d => d.setSram arrEthernet 3 1), by decide +kernel⟩⟩

set_option maxRecDepth 100000 in
theorem test_pair_traffic_can_hold :
  (∃ (u : DcId) (l : Fin 4) (kk : Nat) (line : List Bool) (s : State) (ws : List Rec), (((s.dc u).lane l).state = lRun) ∧ (upWords l kk
    line = some ws) ∧ (ws.getD 0 0 ≠ idleWord) ∧ (ws.getD 0 0 ≠ sleepWord) ∧ (ws.getD 0 0 ≠ wakeWord) ∧ (causeOk (s.dc u).pref l ws = false) ∧ (((s.dc
    u).lane l).rx.crcRun < 63)) ∧
  (∃ (u : DcId) (l : Fin 4) (kk : Nat) (line : List Bool) (s : State) (ws : List Rec), (((s.dc u).lane l).state = lRun) ∧ (upWords l kk
    line = some ws) ∧ (ws.getD 0 0 ≠ idleWord) ∧ (ws.getD 0 0 ≠ sleepWord) ∧ (ws.getD 0 0 ≠ wakeWord) ∧ (causeOk (s.dc u).pref l ws) ∧ (((s.dc u).lane
    l).rx.lastSeq = none) ∧ ((s.dc u).paired) ∧ (rb (ws.getD 0 0) 60 4 = clsHeartbeat)) ∧
  (∃ (u : DcId) (s : State), ((s.dc u).paired) ∧ (dcClusterUp ≤ (s.dc u).state) ∧ ((s.dc u).state ≠ dcLimp) ∧ ((laterTick (s.dc u).now ((if (s.dc
    u).now % frameTicks ≤ 16384 then (s.dc u).frame else (s.dc u).frame + 1) * frameTicks + 16384)) / frameTicks < (s.dc u).pair.heard) ∧ ((s.dc
    u).pstate = psSync) ∧ ((s.dc u).pair.late = false)) ∧
  (∃ (u : DcId) (s : State), ((s.dc u).paired) ∧ (dcClusterUp ≤ (s.dc u).state) ∧ ((s.dc u).state ≠ dcLimp) ∧ ((s.dc u).pair.heard = 0) ∧ ((s.dc
    u).pair.missRun = 1) ∧ ((s.dc u).pstate = psSync) ∧ ((s.dc u).role = roleStandby) ∧ ((s.dc u).noClash)) ∧
  (∃ (u : DcId) (c : Copy) (s : State), ((s.dc u).pair.ready = some c)) ∧
  (∃ (u : DcId) (s : State), ((s.dc u).role = roleStandby) ∧ ((s.dc u).pstate = psSync) ∧ ((s.dc u).pair.ackd + 1 < (s.dc u).frame)) ∧
  (∃ (u : DcId) (s : State), ((s.dc u).active) ∧ ((s.dc u).paired) ∧ ((s.dc u).pstate = psSync) ∧ ((s.dc u).pair.ackd + 1 < (s.dc u).frame) ∧ ((s.dc
    u).fld DC.PAIR.STATUS.HOLD = 0)) ∧
  (∃ (u : DcId) (f : Nat) (s : State), ((s.dc u).pair.listen = some f) ∧ ((s.dc u).pair.settledRole = false) ∧ ((s.dc u).state = dcClusterUp) ∧
    ((s.dc u).noClash) ∧ ((s.dc u).pref = 1)) :=
  ⟨⟨.u0, 2, 0, (upSlot 2 0 (causeBlock 1 1 2 7 9 [0x0005000000000000, 9, 8, 0, 0])), (oneUnit .u0 fun d => (d.setLane 2 { state := 5 })),
    (causeBlock 1 1 2 7 9 [0x0005000000000000, 9, 8, 0, 0]), by decide +kernel⟩,
  ⟨.u0, 2, 0, (upSlot 2 0 (causeBlock 1 0 2 7 9 [0x0005000000000000, 9, 8, 0, 0])),
    (oneUnit .u0 fun d => ((d.set DC.PAIR.CFG.PAIRED 1).set DC.BOOT.STATE.STATE dcRun).setLane 2 { state := 5 }),
    (causeBlock 1 0 2 7 9 [0x0005000000000000, 9, 8, 0, 0]), by decide +kernel⟩,
  ⟨.u0,
    (oneUnit .u0 fun d => let d := (((d.set DC.PAIR.CFG.PAIRED 1).set DC.BOOT.STATE.STATE dcRun).set DC.PAIR.STATUS.PSTATE psSync); { d with pair := { d.pair with heard := 9 } }),
    by decide +kernel⟩,
  ⟨.u0,
    (oneUnit .u0 fun d => let d := (((d.set DC.PAIR.CFG.PAIRED 1).set DC.BOOT.STATE.STATE dcRun).set DC.PAIR.STATUS.PSTATE psSync).set DC.PAIR.STATUS.ROLE 1; { d with pair := { d.pair with missRun := 1 } }),
    by decide +kernel⟩,
  ⟨.u0, ({ frame := 4, blocks := 3, bytes := 700 }),
    (oneUnit .u0 fun d => let d := d; { d with pair := { d.pair with ready := some { frame := 4, blocks := 3, bytes := 700 } } }), by decide +kernel⟩,
  ⟨.u0,
    (oneUnit .u0 fun d => let d := { ((((d.set DC.PAIR.CFG.PAIRED 1).set DC.BOOT.STATE.STATE dcRun).set DC.PAIR.STATUS.PSTATE psSync).set DC.PAIR.STATUS.ROLE 1) with now := 500000 }; { d with pair := { d.pair with ackd := 0 } }),
    by decide +kernel⟩,
  ⟨.u0,
    (oneUnit .u0 fun d => let d := { ((((d.set DC.PAIR.CFG.PAIRED 1).set DC.BOOT.STATE.STATE dcRun).set DC.PAIR.STATUS.PSTATE psSync).set DC.PAIR.STATUS.ROLE 0) with now := 500000 }; { d with pair := { d.pair with ackd := 0 } }),
    by decide +kernel⟩,
  ⟨.u0, 2, (oneUnit .u0 fun d => let d := d.set DC.BOOT.STATE.STATE dcClusterUp; { d with pair := { d.pair with listen := some 2 } }),
    by decide +kernel⟩⟩

theorem test_pair_roles_can_hold :
  (∃ (u : DcId) (replies : List OwnReply) (s : State), ((s.dc u).active) ∧ ((s.dc u).paired) ∧ (replies.any (fun q => q.valid && epochHigher
    q.epoch (s.dc u).epoch))) ∧
  (∃ (u : DcId) (replies : List OwnReply) (s : State), ((s.dc u).active) ∧ ((s.dc u).paired) ∧ (replies.all (fun q => q.valid && q.epoch == (s.dc
    u).epoch && q.source == (s.dc u).homing)) ∧ (((List.range 64).filter fun n => (s.dc u).named n).length < 2 * ((List.range 64).filter fun n =>
    (s.dc u).named n && replies.any fun q => q.n.val == n).length) ∧ ((s.dc u).fld DC.PAIR.STATUS.HOLD = 0) ∧ (epochHigher (s.dc u).epoch (s.dc
    u).epoch = false) ∧ ((s.dc u).homing ≠ 1 - (s.dc u).homing)) ∧
  (∃ (u : DcId) (f : Nat) (s : State), ((s.dc u).pair.takeAt = some f) ∧ ((s.dc u).pair.complete = []) ∧ ((s.dc u).fld DC.TRG.CTRL.EN = 0)) ∧
  (∃ (u : DcId) (h : Nat) (s : State), ((s.dc u).active) ∧ ((s.dc u).pair.handover = some h) ∧ ((s.dc u).pair.final = false)) ∧
  (∃ (u : DcId) (h : Nat) (s : State), ((s.dc u).active) ∧ ((s.dc u).pair.handover = some h) ∧ ((s.dc u).pair.final) ∧ (h ≤ (s.dc u).pair.ackd)) ∧
  (∃ (u : DcId) (e : Nat) (rest : List Nat) (s : State), ((s.dc u).pair.arp = e :: rest) ∧ ((s.dc u).active)) :=
  ⟨⟨.u0, ([{ n := 3, epoch := 5, valid := true, source := 0 }]),
    (oneUnit .u0 fun d => let d := (((d.set DC.PAIR.CFG.PAIRED 1).set DC.BOOT.STATE.STATE dcRun).set DC.PAIR.STATUS.PSTATE psSync).set DC.PAIR.STATUS.ROLE 0; { d with pair := { d.pair with ackd := 0 } }),
    by decide +kernel⟩,
  ⟨.u0, ([{ n := 3, epoch := 5, valid := true, source := 0 }]),
    (oneUnit .u0 fun d => let d := (((((d.set DC.PAIR.CFG.PAIRED 1).set DC.BOOT.STATE.STATE dcRun).set DC.PAIR.STATUS.PSTATE psSync).set DC.PAIR.STATUS.ROLE 0).set DC.PAIR.EPOCH.EPOCH 5).set DC.TRG.PART_LO.MASK 8; { d with pair := { d.pair with mustConfirm := true } }),
    by decide +kernel⟩,
  ⟨.u0, 3,
    (oneUnit .u0 fun d => let d := (((d.set DC.PAIR.CFG.PAIRED 1).set DC.BOOT.STATE.STATE dcRun).set DC.PAIR.STATUS.PSTATE psSync).set DC.PAIR.STATUS.ROLE 1; { d with pair := { d.pair with takeAt := some 3 } }),
    by decide +kernel⟩,
  ⟨.u0, 3,
    (oneUnit .u0 fun d => let d := (((d.set DC.PAIR.CFG.PAIRED 1).set DC.BOOT.STATE.STATE dcRun).set DC.PAIR.STATUS.PSTATE psSync).set DC.PAIR.STATUS.ROLE 0; { d with pair := { d.pair with handover := some 3 } }),
    by decide +kernel⟩,
  ⟨.u0, 3,
    (oneUnit .u0 fun d => let d := (((d.set DC.PAIR.CFG.PAIRED 1).set DC.BOOT.STATE.STATE dcRun).set DC.PAIR.STATUS.PSTATE psSync).set DC.PAIR.STATUS.ROLE 0; { d with pair := { d.pair with handover := some 3, final := true, ackd := 3 } }),
    by decide +kernel⟩,
  ⟨.u0, 900, ([950]), (oneUnit .u0 fun d => let d := d.set DC.PAIR.STATUS.ROLE 0; { d with pair := { d.pair with arp := [900, 950] } }),
    by decide +kernel⟩⟩

set_option maxRecDepth 100000 in
theorem test_start_up_of_a_dc64_can_hold :
  (∃ (w : Word), (w ≠ 0xB007)) ∧
  (∃ (u : DcId) (s : State), ((s.dc u).state = dcPower)) ∧
  (∃ (u : DcId) (s : State) (fu : Fuses) (i : Nat) (g : Nat) (a : Nat) (b : Nat), ((s.dc u).state = dcFuse) ∧ (fu.dieId = some i) ∧
    (fu.grade = some g) ∧ (fu.l1 = some a) ∧ (fu.l2 = some b) ∧ (fu.key = none) ∧ (a < 1024) ∧ (b < 1024)) ∧
  (∃ (u : DcId) (img : List Nat) (s : State), ((s.dc u).state = dcImage) ∧ (imageValid (s.dc u).bt.digest img)) ∧
  (∃ (u : DcId) (img : List Nat) (s : State), ((s.dc u).state = dcImage) ∧ (imageValid (s.dc u).bt.digest img = false)) ∧
  (∃ (u : DcId) (s : State) (e : Nat), ((s.dc u).state = dcImage) ∧ ((s.dc u).bt.retryAt = some e)) ∧
  (∃ (u : DcId) (x : Nat) (s : State), ((s.dc u).state = dcSelftest) ∧ (x % 2 ^ 27 = 0)) ∧
  (∃ (u : DcId) (x : Nat) (s : State), ((s.dc u).state = dcSelftest) ∧ (x % 2 ^ 27 ≠ 0)) ∧
  (∃ (u : DcId) (c0 : Nat) (c1 : Nat) (c2 : Nat) (c3 : Nat) (c4 : Nat) (c5 : Nat) (c6 : Nat) (c7 : Nat) (s : State), ((s.dc
    u).state = dcTrain) ∧ (min c0 (min c1 (min c2 (min c3 (min c4 (min c5 (min c6 c7)))))) < 8)) ∧
  (∃ (u : DcId) (caps : List (Option Nat)) (s : State), ((s.dc u).state = dcTrain) ∧ (((caps.take 8).filterMap fun c => c).length < 8)) ∧
  (∃ (u : DcId) (x : Nat) (s : State), ((s.dc u).state = dcFill) ∧ (x ≤ 65535)) ∧
  (∃ (u : DcId) (img : List Nat) (s : State), ((s.dc u).state = dcCore) ∧ (imageDigestOf img ≠ (s.dc u).bt.imageDigest)) ∧
  (∃ (u : DcId) (img : List Nat) (s : State), ((s.dc u).state = dcCore) ∧ (imageDigestOf img = (s.dc u).bt.imageDigest) ∧ ((s.dc
    u).peat.flash.formatted = false)) :=
  ⟨⟨0, by decide +kernel⟩,
  ⟨.u0, (oneUnit .u0 fun d => { d.set DC.BOOT.STATE.STATE 0 with now := 9 }), by decide +kernel⟩,
  ⟨.u0, State.reset,
    ({ dieId := some 0x123456789, grade := some 1, trim := some 0, l1 := some 770, l2 := some 745, refinLat := some 5, key := none, digest := none, rxLat := [], txLat := [] }),
    (0x123456789), 1, 770, 745, by decide +kernel⟩,
  ⟨.u0,
    ([68, 80, 73, 77, 0, 0, 0, 1, 0, 0, 0, 7, 0, 0, 0, 192, 38, 239, 206, 189, 14, 233, 227, 74, 102, 145, 135, 225, 139, 58, 145, 34, 178, 247, 51, 148, 91, 100, 156, 201, 249, 249, 33, 233, 249, 218, 216, 18, 144, 35, 139, 222, 156, 199, 187, 51, 13, 21, 12, 103, 112, 77, 210, 90, 231, 5, 82, 5, 116, 75, 111, 49, 191, 64, 112, 116, 88, 114, 208, 230, 0, 0, 0, 0, 0, 0, 0, 0, 0, 0, 0, 0, 0, 0, 0, 0, 0, 0, 0, 0, 0, 0, 0, 0, 0, 0, 0, 0, 0, 0, 0, 0, 0, 0, 0, 0, 0, 0, 0, 0, 0, 0, 0, 0, 0, 0, 0, 0, 86, 147, 85, 217, 182, 244, 72, 187, 69, 183, 80, 177, 67, 175, 65, 70, 161, 25, 94, 216, 247, 217, 135, 133, 24, 47, 47, 69, 120, 84, 237, 67, 31, 5, 12, 160, 13, 218, 122, 193, 126, 77, 2, 31, 175, 154, 141, 206, 181, 230, 213, 135, 227, 110, 149, 128, 207, 157, 80, 52, 131, 105, 9, 122]),
    (oneUnit .u0 fun d => { d.set DC.BOOT.STATE.STATE dcImage with bt := { d.bt with digest := some 92161939888917754402472601974806062355431687464899864236505624226098411372593 } }),
    by decide +kernel⟩,
  ⟨.u0, ([1, 2, 3]), (oneUnit .u0 fun d => d.set DC.BOOT.STATE.STATE dcImage), by decide +kernel⟩,
  ⟨.u0, (oneUnit .u0 fun d => { d.set DC.BOOT.STATE.STATE dcImage with bt := { d.bt with retryAt := some 900 } }), 900, by decide +kernel⟩,
  ⟨.u0, 0, (oneUnit .u0 fun d => d.set DC.BOOT.STATE.STATE dcSelftest), by decide +kernel⟩,
  ⟨.u0, 5, (oneUnit .u0 fun d => d.set DC.BOOT.STATE.STATE dcSelftest), by decide +kernel⟩,
  ⟨.u0, 2, 2, 1, 2, 2, 2, 2, 3, (oneUnit .u0 fun d => d.set DC.BOOT.STATE.STATE dcTrain), by decide +kernel⟩,
  ⟨.u0, ([some 1, none, some 1, some 1, some 1, some 1, some 1, some 1]), (oneUnit .u0 fun d => d.set DC.BOOT.STATE.STATE dcTrain), by decide +kernel⟩,
  ⟨.u0, 300, (oneUnit .u0 fun d => d.set DC.BOOT.STATE.STATE dcFill), by decide +kernel⟩,
  ⟨.u0, [], (oneUnit .u0 fun d => d.set DC.BOOT.STATE.STATE dcCore), by decide +kernel⟩,
  ⟨.u0,
    ([68, 80, 73, 77, 0, 0, 0, 1, 0, 0, 0, 7, 0, 0, 0, 192, 38, 239, 206, 189, 14, 233, 227, 74, 102, 145, 135, 225, 139, 58, 145, 34, 178, 247, 51, 148, 91, 100, 156, 201, 249, 249, 33, 233, 249, 218, 216, 18, 144, 35, 139, 222, 156, 199, 187, 51, 13, 21, 12, 103, 112, 77, 210, 90, 231, 5, 82, 5, 116, 75, 111, 49, 191, 64, 112, 116, 88, 114, 208, 230, 0, 0, 0, 0, 0, 0, 0, 0, 0, 0, 0, 0, 0, 0, 0, 0, 0, 0, 0, 0, 0, 0, 0, 0, 0, 0, 0, 0, 0, 0, 0, 0, 0, 0, 0, 0, 0, 0, 0, 0, 0, 0, 0, 0, 0, 0, 0, 0, 86, 147, 85, 217, 182, 244, 72, 187, 69, 183, 80, 177, 67, 175, 65, 70, 161, 25, 94, 216, 247, 217, 135, 133, 24, 47, 47, 69, 120, 84, 237, 67, 31, 5, 12, 160, 13, 218, 122, 193, 126, 77, 2, 31, 175, 154, 141, 206, 181, 230, 213, 135, 227, 110, 149, 128, 207, 157, 80, 52, 131, 105, 9, 122]),
    (oneUnit .u0 fun d => { d.set DC.BOOT.STATE.STATE dcCore with bt := { d.bt with imageDigest := 93464874800666467829677152816637758037165727830726609500405707521739440441475 } }),
    by decide +kernel⟩⟩

theorem test_leaving_hostwait_can_hold :
  (∃ (u : DcId) (s : State), ((s.dc u).state = dcHostwait)) ∧
  (∃ (u : DcId) (s : State), ((s.dc u).state ≠ dcHostwait)) ∧
  (∃ (u : DcId) (s : State), ((s.dc u).state = dcClusterUp) ∧ ((s.dc u).pair.settledRole ∨ (s.dc u).paired = false)) ∧
  (∃ (u : DcId) (s : State), ((s.dc u).state ≠ dcClusterUp ∨ ((s.dc u).paired ∧ (s.dc u).pair.settledRole = false))) ∧
  (∃ (u : DcId) (n : Fin 64) (s : State), ((s.dc u).active) ∧ ((s.dc u).fld (DC.IBR.CFG.EN n) = 1) ∧ ((s.df n).state = dfConfig) ∧ ((s.dc u).state
    = dcRun) ∧ ((s.dc u).fld DC.BOOT.CTRL.FE_AUTO = 0)) ∧
  (∃ (u : DcId) (x : Nat) (s : State), (x < (s.dc u).fld DC.BOOT.DROOP_CFG.L2) ∧ ((s.dc u).fld DC.BOOT.DROOP_STAT.STEP < 2)) ∧
  (∃ (u : DcId) (x : Nat) (s : State), (x < (s.dc u).fld DC.BOOT.DROOP_CFG.L1) ∧ ((s.dc u).fld DC.BOOT.DROOP_CFG.L2 ≤ x) ∧ ((s.dc u).fld
    DC.BOOT.DROOP_STAT.STEP = 0)) ∧
  (∃ (u : DcId) (s : State), ((s.dc u).fld DC.BOOT.DROOP_STAT.STEP = 1) ∧ ((s.dc u).fld DC.BOOT.DROOP_CFG.L1 + 10 ≤ (s.dc u).bt.droopMv)) :=
  ⟨⟨.u0, (oneUnit .u0 fun d => d.set DC.BOOT.STATE.STATE dcHostwait), by decide +kernel⟩,
  ⟨.u0, State.reset, by decide +kernel⟩,
  ⟨.u0, (oneUnit .u0 fun d => { d.set DC.BOOT.STATE.STATE dcClusterUp with pair := { settledRole := true } }), by decide +kernel⟩,
  ⟨.u0, State.reset, by decide +kernel⟩,
  ⟨.u0, 3,
    ((onePort 3 fun f => f.set DF.BOOT.STATE.STATE dfConfig).setDc .u0 (let d := dcFresh 1; (((d.set DC.BOOT.STATE.STATE dcRun).set DC.PAIR.STATUS.ROLE 0).set (DC.IBR.CFG.EN 3) 1).set DC.BOOT.CTRL.FE_AUTO 0)),
    by decide +kernel⟩,
  ⟨.u0, 600, (oneUnit .u0 fun d => (d.set DC.BOOT.DROOP_CFG.L2 690).set DC.BOOT.DROOP_CFG.L1 715), by decide +kernel⟩,
  ⟨.u0, 700, (oneUnit .u0 fun d => (d.set DC.BOOT.DROOP_CFG.L2 690).set DC.BOOT.DROOP_CFG.L1 715), by decide +kernel⟩,
  ⟨.u0, (oneUnit .u0 fun d => (d.set DC.BOOT.DROOP_STAT.STEP 1).set DC.BOOT.DROOP_CFG.L1 715), by decide +kernel⟩⟩

theorem test_ibast_register_access_can_hold :
  (∃ (n : Fin 64) (f : FrameHdr) (a : Nat) (x : Nat) (s : State), (f.k = 1) ∧ (f.identity < 4096) ∧ (f.owner < 16) ∧ (((s.df
    n).cmd.last.filter fun x => x.1 == f.identity) = none) ∧ ((s.df n).cmd.held = []) ∧ ((s.df n).cmd.waiting = none) ∧ (1 ≤ x) ∧ (x ≤ 8) ∧ (a <
    65536) ∧ (dfMapped a x) ∧ ((s.df n).holds f.owner = false)) ∧
  (∃ (n : Fin 64) (f : FrameHdr) (a : Nat) (w : Word) (s : State), (f.k = 1) ∧ (f.identity < 4096) ∧ (f.owner < 16) ∧ (((s.df
    n).cmd.last.filter fun x => x.1 == f.identity) = none) ∧ ((s.df n).cmd.held = []) ∧ ((s.df n).cmd.waiting = none) ∧ (a < 65536) ∧ (dfMapped a 1) ∧
    ((s.df n).holds f.owner) ∧ ((s.df n).cmd.shadow = [(a, w)])) ∧
  (∃ (n : Fin 64) (f : FrameHdr) (a : Nat) (w : Word) (s : State), (f.k = 1) ∧ (f.identity < 4096) ∧ (f.owner < 16) ∧ (((s.df
    n).cmd.last.filter fun x => x.1 == f.identity) = none) ∧ ((s.df n).cmd.held = []) ∧ ((s.df n).cmd.waiting = none) ∧ ((s.df n).fld
    DF.PAIR.EPOCH.VALID = 1) ∧ (f.epoch = (s.df n).fld DF.PAIR.EPOCH.EPOCH) ∧ (a < 65536) ∧ (dfMapped a 1) ∧ ((((s.df n).pump).noteCmd f.identity
    opWrite).writeStatus a w = 0) ∧ ((s.df n).fld DF.CMD.LOCK.HELD = 0)) ∧
  (∃ (n : Fin 64) (f : FrameHdr) (w : Word) (s : State), (f.k = 1) ∧ (f.identity < 4096) ∧ (f.owner < 16) ∧ (((s.df n).cmd.last.filter fun x =>
    x.1 == f.identity) = none) ∧ ((s.df n).cmd.held = []) ∧ ((s.df n).cmd.waiting = none) ∧ ((s.df n).fld DF.PAIR.EPOCH.VALID = 1) ∧ (f.epoch = (s.df
    n).fld DF.PAIR.EPOCH.EPOCH) ∧ ((((s.df n).pump).noteCmd f.identity opWrite).writeStatus DF.REED.REFRESH.addr w = 0) ∧ ((s.df n).fld
    DF.CMD.LOCK.HELD = 0)) ∧
  (∃ (n : Fin 64) (f : FrameHdr) (a : Nat) (w : Word) (s : State), (f.k = 1) ∧ (f.identity < 4096) ∧ (f.owner < 16) ∧ (((s.df
    n).cmd.last.filter fun x => x.1 == f.identity) = none) ∧ ((s.df n).cmd.held = []) ∧ ((s.df n).cmd.waiting = none) ∧ ((s.df n).fld
    DF.PAIR.EPOCH.VALID = 1) ∧ (f.epoch = (s.df n).fld DF.PAIR.EPOCH.EPOCH) ∧ (a < 65536) ∧ (dfMapped a 1) ∧ ((((s.df n).pump).noteCmd f.identity
    opWrite).renew.writeStatus a w = 0) ∧ ((s.df n).holds f.owner) ∧ ((s.df n).cmd.shadow = [])) ∧
  (∃ (n : Fin 64) (f : FrameHdr) (s : State), (f.k = 1) ∧ (f.identity < 4096) ∧ (f.owner < 16) ∧ (((s.df n).cmd.last.filter fun x => x.1 ==
    f.identity) = none) ∧ ((s.df n).cmd.held = []) ∧ ((s.df n).cmd.waiting = none) ∧ ((s.df n).fld DF.PAIR.EPOCH.VALID = 1) ∧ (f.epoch = (s.df n).fld
    DF.PAIR.EPOCH.EPOCH) ∧ ((s.df n).fld DF.CMD.LOCK.HELD = 1) ∧ ((s.df n).fld DF.CMD.LOCK.OWNER ≠ f.owner)) ∧
  (∃ (n : Fin 64) (f : FrameHdr) (a : Nat) (vs : List Word) (s : State), (f.k = 1 + (vs.length + 1) / 2) ∧ (f.identity < 4096) ∧ (f.owner <
    16) ∧ (((s.df n).cmd.last.filter fun x => x.1 == f.identity) = none) ∧ ((s.df n).cmd.held = []) ∧ ((s.df n).cmd.waiting = none) ∧ ((s.df n).fld
    DF.PAIR.EPOCH.VALID = 1) ∧ (f.epoch = (s.df n).fld DF.PAIR.EPOCH.EPOCH) ∧ (1 ≤ vs.length) ∧ (vs.length ≤ 32) ∧ (a < 65536) ∧ (dfMapped a
    vs.length) ∧ ((((s.df n).pump).noteCmd f.identity opWriteBlock).blockStatus a 0 vs = none) ∧ ((s.df n).fld DF.CMD.LOCK.HELD = 0)) ∧
  (∃ (n : Fin 64) (f : FrameHdr) (s : State), (f.k = 1) ∧ (f.identity < 4096) ∧ (f.owner < 16) ∧ (((s.df n).cmd.last.filter fun x => x.1 ==
    f.identity) = none) ∧ ((s.df n).cmd.held = []) ∧ ((s.df n).cmd.waiting = none) ∧ ((s.df n).fld DF.PAIR.EPOCH.VALID = 0 ∨ (s.df n).fld
    DF.PAIR.EPOCH.EPOCH ≠ f.epoch % 65536)) ∧
  (∃ (n : Fin 64) (f : FrameHdr) (ws : List Rec) (s : State), (f.identity < 4096) ∧ ((s.df n).cmd.last = some (f.identity, ws)) ∧ ((s.df
    n).cmd.held = []) ∧ ((s.df n).cmd.waiting = none)) :=
  ⟨⟨3, ({ k := 1, epoch := 4, identity := 17, owner := 3 }), (0x2000), 2,
    (onePort 3 fun f => ((f.set DF.PAIR.EPOCH.VALID 1).set DF.PAIR.EPOCH.EPOCH 4)), by decide +kernel⟩,
  ⟨3, ({ k := 1, epoch := 4, identity := 17, owner := 3 }), (0x1400), 9,
    (onePort 3 fun f => { ((((f.set DF.PAIR.EPOCH.VALID 1).set DF.PAIR.EPOCH.EPOCH 4).set DF.CMD.LOCK.HELD 1).set DF.CMD.LOCK.OWNER 3) with cmd := { shadow := [(0x1400, 9)] } }),
    by decide +kernel⟩,
  ⟨3, ({ k := 1, epoch := 4, identity := 17, owner := 3 }), (DF.REED.REFRESH.addr), 1000,
    (onePort 3 fun f => ((f.set DF.PAIR.EPOCH.VALID 1).set DF.PAIR.EPOCH.EPOCH 4)), by decide +kernel⟩,
  ⟨3, ({ k := 1, epoch := 4, identity := 17, owner := 3 }), 1000, (onePort 3 fun f => ((f.set DF.PAIR.EPOCH.VALID 1).set DF.PAIR.EPOCH.EPOCH 4)),
    by decide +kernel⟩,
  ⟨3, ({ k := 1, epoch := 4, identity := 17, owner := 3 }), (DF.REED.REFRESH.addr), 1000,
    (onePort 3 fun f => ((((f.set DF.PAIR.EPOCH.VALID 1).set DF.PAIR.EPOCH.EPOCH 4).set DF.CMD.LOCK.HELD 1).set DF.CMD.LOCK.OWNER 3)),
    by decide +kernel⟩,
  ⟨3, ({ k := 1, epoch := 4, identity := 17, owner := 5 }),
    (onePort 3 fun f => ((((f.set DF.PAIR.EPOCH.VALID 1).set DF.PAIR.EPOCH.EPOCH 4).set DF.CMD.LOCK.HELD 1).set DF.CMD.LOCK.OWNER 3)),
    by decide +kernel⟩,
  ⟨3, ({ k := 3, epoch := 4, identity := 17, owner := 3 }), (DF.AFE.CH.addr 5), ([1, 2, 1]),
    (onePort 3 fun f => ((f.set DF.PAIR.EPOCH.VALID 1).set DF.PAIR.EPOCH.EPOCH 4)), by decide +kernel⟩,
  ⟨3, ({ k := 1, epoch := 5, identity := 17, owner := 3 }), (onePort 3 fun f => ((f.set DF.PAIR.EPOCH.VALID 1).set DF.PAIR.EPOCH.EPOCH 4)),
    by decide +kernel⟩,
  ⟨3, ({ k := 1, epoch := 4, identity := 17, owner := 3 }), ([5]),
    (onePort 3 fun f => { ((f.set DF.PAIR.EPOCH.VALID 1).set DF.PAIR.EPOCH.EPOCH 4) with cmd := { last := some (17, [5]) } }), by decide +kernel⟩⟩

theorem test_ibast_lock_epoch_and_states_can_hold :
  (∃ (n : Fin 64) (f : FrameHdr) (s : State), (f.k = 0) ∧ (f.identity < 4096) ∧ (f.owner < 16) ∧ (((s.df n).cmd.last.filter fun x => x.1 ==
    f.identity) = none) ∧ ((s.df n).cmd.held = []) ∧ ((s.df n).cmd.waiting = none) ∧ ((s.df n).fld DF.PAIR.EPOCH.VALID = 1) ∧ (f.epoch = (s.df n).fld
    DF.PAIR.EPOCH.EPOCH) ∧ ((s.df n).fld DF.CMD.LOCK.HELD = 0 ∨ (s.df n).fld DF.CMD.LOCK.OWNER = f.owner)) ∧
  (∃ (n : Fin 64) (f : FrameHdr) (s : State), (f.k = 0) ∧ (f.identity < 4096) ∧ (f.owner < 16) ∧ (((s.df n).cmd.last.filter fun x => x.1 ==
    f.identity) = none) ∧ ((s.df n).cmd.held = []) ∧ ((s.df n).cmd.waiting = none) ∧ ((s.df n).fld DF.PAIR.EPOCH.VALID = 1) ∧ (f.epoch = (s.df n).fld
    DF.PAIR.EPOCH.EPOCH) ∧ ((s.df n).fld DF.CMD.LOCK.HELD = 1) ∧ ((s.df n).fld DF.CMD.LOCK.OWNER ≠ f.owner)) ∧
  (∃ (n : Fin 64) (f : FrameHdr) (s : State), (f.k = 0) ∧ (f.identity < 4096) ∧ (f.owner < 16) ∧ (((s.df n).cmd.last.filter fun x => x.1 ==
    f.identity) = none) ∧ ((s.df n).cmd.held = []) ∧ ((s.df n).cmd.waiting = none) ∧ ((s.df n).fld DF.PAIR.EPOCH.VALID = 1) ∧ (f.epoch = (s.df n).fld
    DF.PAIR.EPOCH.EPOCH) ∧ ((s.df n).holds f.owner)) ∧
  (∃ (n : Fin 64) (f : FrameHdr) (s : State), (f.k = 0) ∧ (f.identity < 4096) ∧ (f.owner < 16) ∧ (((s.df n).cmd.last.filter fun x => x.1 ==
    f.identity) = none) ∧ ((s.df n).cmd.held = []) ∧ ((s.df n).cmd.waiting = none) ∧ ((s.df n).fld DF.PAIR.EPOCH.VALID = 1) ∧ (f.epoch = (s.df n).fld
    DF.PAIR.EPOCH.EPOCH) ∧ ((s.df n).holds f.owner = false)) ∧
  (∃ (n : Fin 64) (f : FrameHdr) (s : State), (f.k = 0) ∧ (f.identity < 4096) ∧ (f.owner < 16) ∧ (((s.df n).cmd.last.filter fun x => x.1 ==
    f.identity) = none) ∧ ((s.df n).cmd.held = []) ∧ ((s.df n).cmd.waiting = none) ∧ ((s.df n).fld DF.PAIR.EPOCH.VALID = 1) ∧ (f.epoch = (s.df n).fld
    DF.PAIR.EPOCH.EPOCH) ∧ ((s.df n).holds f.owner)) ∧
  (∃ (n : Fin 64) (f : FrameHdr) (dd : Fin 2) (s : State), (f.k = 0) ∧ (f.identity < 4096) ∧ (f.owner < 16) ∧ (((s.df n).cmd.last.filter fun x
    => x.1 == f.identity) = none) ∧ ((s.df n).cmd.held = []) ∧ ((s.df n).cmd.waiting = none) ∧ (f.epoch < 65536) ∧ ((s.df n).fld DF.PAIR.EPOCH.VALID =
    0 ∨ epochHigher f.epoch ((s.df n).fld DF.PAIR.EPOCH.EPOCH)) ∧ ((s.df n).source = dd)) ∧
  (∃ (n : Fin 64) (f : FrameHdr) (s : State), (f.k = 0) ∧ (f.identity < 4096) ∧ (f.owner < 16) ∧ (((s.df n).cmd.last.filter fun x => x.1 ==
    f.identity) = none) ∧ ((s.df n).cmd.held = []) ∧ ((s.df n).cmd.waiting = none) ∧ (f.epoch < 65536) ∧ ((s.df n).fld DF.PAIR.EPOCH.VALID = 1) ∧
    (epochHigher f.epoch ((s.df n).fld DF.PAIR.EPOCH.EPOCH) = false)) ∧
  (∃ (n : Fin 64) (f : FrameHdr) (s : State), (f.k = 0) ∧ (f.identity < 4096) ∧ (f.owner < 16) ∧ (((s.df n).cmd.last.filter fun x => x.1 ==
    f.identity) = none) ∧ ((s.df n).cmd.held = []) ∧ ((s.df n).cmd.waiting = none) ∧ ((s.df n).fld DF.PAIR.EPOCH.VALID = 1) ∧ (f.epoch = (s.df n).fld
    DF.PAIR.EPOCH.EPOCH)) ∧
  (∃ (n : Fin 64) (f : FrameHdr) (s : State), (f.k = 0) ∧ (f.identity < 4096) ∧ (f.owner < 16) ∧ (((s.df n).cmd.last.filter fun x => x.1 ==
    f.identity) = none) ∧ ((s.df n).cmd.held = []) ∧ ((s.df n).cmd.waiting = none) ∧ ((s.df n).fld DF.PAIR.EPOCH.VALID = 1) ∧ (f.epoch = (s.df n).fld
    DF.PAIR.EPOCH.EPOCH) ∧ ((s.df n).state = dfAlign)) ∧
  (∃ (n : Fin 64) (f : FrameHdr) (s : State), (f.k = 0) ∧ (f.identity < 4096) ∧ (f.owner < 16) ∧ (((s.df n).cmd.last.filter fun x => x.1 ==
    f.identity) = none) ∧ ((s.df n).cmd.held = []) ∧ ((s.df n).cmd.waiting = none) ∧ ((s.df n).fld DF.PAIR.EPOCH.VALID = 1) ∧ (f.epoch = (s.df n).fld
    DF.PAIR.EPOCH.EPOCH) ∧ ((s.df n).state ≠ dfAlign)) ∧
  (∃ (n : Fin 64) (f : FrameHdr) (s : State), (f.k = 0) ∧ (f.identity < 4096) ∧ (f.owner < 16) ∧ (((s.df n).cmd.last.filter fun x => x.1 ==
    f.identity) = none) ∧ ((s.df n).cmd.held = []) ∧ ((s.df n).cmd.waiting = none) ∧ ((s.df n).fld DF.PAIR.EPOCH.VALID = 1) ∧ (f.epoch = (s.df n).fld
    DF.PAIR.EPOCH.EPOCH) ∧ ((s.df n).state = dfRun)) ∧
  (∃ (n : Fin 64) (f : FrameHdr) (s : State), (f.k = 0) ∧ (f.identity < 4096) ∧ (f.owner < 16) ∧ (((s.df n).cmd.last.filter fun x => x.1 ==
    f.identity) = none) ∧ ((s.df n).cmd.held = []) ∧ ((s.df n).cmd.waiting = none) ∧ ((s.df n).fld DF.PAIR.EPOCH.VALID = 1) ∧ (f.epoch = (s.df n).fld
    DF.PAIR.EPOCH.EPOCH) ∧ ((s.df n).state = dfAlign ∨ (s.df n).state = dfRun)) ∧
  (∃ (n : Fin 64) (f : FrameHdr) (s : State), (f.k = 0) ∧ (f.identity < 4096) ∧ (f.owner < 16) ∧ (((s.df n).cmd.last.filter fun x => x.1 ==
    f.identity) = none) ∧ ((s.df n).cmd.held = []) ∧ ((s.df n).cmd.waiting = none) ∧ ((s.df n).fld DF.PAIR.EPOCH.VALID = 1) ∧ (f.epoch = (s.df n).fld
    DF.PAIR.EPOCH.EPOCH) ∧ ((s.df n).state = dfDormant)) ∧
  (∃ (n : Fin 64) (f : FrameHdr) (s : State), (f.k = 0) ∧ (f.identity < 4096) ∧ (f.owner < 16) ∧ (((s.df n).cmd.last.filter fun x => x.1 ==
    f.identity) = none) ∧ ((s.df n).cmd.held = []) ∧ ((s.df n).cmd.waiting = none) ∧ ((s.df n).fld DF.PAIR.EPOCH.VALID = 1) ∧ (f.epoch = (s.df n).fld
    DF.PAIR.EPOCH.EPOCH) ∧ ((s.df n).state = dfDormant)) ∧
  (∃ (n : Fin 64) (f : FrameHdr) (s : State), (f.k = 0) ∧ (f.identity < 4096) ∧ (f.owner < 16) ∧ (((s.df n).cmd.last.filter fun x => x.1 ==
    f.identity) = none) ∧ ((s.df n).cmd.held = []) ∧ ((s.df n).cmd.waiting = none) ∧ ((s.df n).fld DF.PAIR.EPOCH.VALID = 1) ∧ (f.epoch = (s.df n).fld
    DF.PAIR.EPOCH.EPOCH) ∧ ((s.df n).state ≠ dfDormant)) ∧
  (∃ (n : Fin 64) (f : FrameHdr) (x : Nat) (y : Nat) (s : State), (f.k = 1) ∧ (f.identity < 4096) ∧ (f.owner < 16) ∧ (((s.df
    n).cmd.last.filter fun x => x.1 == f.identity) = none) ∧ ((s.df n).cmd.held = []) ∧ ((s.df n).cmd.waiting = none) ∧ ((s.df n).fld
    DF.PAIR.EPOCH.VALID = 1) ∧ (f.epoch = (s.df n).fld DF.PAIR.EPOCH.EPOCH) ∧ (x < 16) ∧ (y < 16) ∧ (x &&& y = 0) ∧ ((s.df n).fld DF.CMD.LOCK.HELD =
    0)) ∧
  (∃ (n : Fin 64) (f : FrameHdr) (a : Word) (b : Word) (s : State), (f.k = 2) ∧ (f.identity < 4096) ∧ (f.owner < 16) ∧ (((s.df
    n).cmd.last.filter fun x => x.1 == f.identity) = none) ∧ ((s.df n).cmd.held = []) ∧ ((s.df n).cmd.waiting = none) ∧ ((s.df n).fld
    DF.PAIR.EPOCH.VALID = 1) ∧ (f.epoch = (s.df n).fld DF.PAIR.EPOCH.EPOCH) ∧ ((s.df n).fld DF.CMD.LOCK.HELD = 0) ∧ (entryABad a ((s.df n).fld
    DF.HK.CTRL.LP == 1) = false) ∧ (entryBBad b = false) ∧ ((s.df n).hk.queue.length < 4)) ∧
  (∃ (n : Fin 64) (f : FrameHdr) (x : Nat) (y : Nat) (s : State), (f.k = 1) ∧ (f.identity < 4096) ∧ (f.owner < 16) ∧ (((s.df
    n).cmd.last.filter fun x => x.1 == f.identity) = none) ∧ ((s.df n).cmd.held = []) ∧ ((s.df n).cmd.waiting = none) ∧ ((s.df n).fld
    DF.PAIR.EPOCH.VALID = 1) ∧ (f.epoch = (s.df n).fld DF.PAIR.EPOCH.EPOCH) ∧ (x < 16) ∧ (y < 4) ∧ (stepCoversBoth x = false) ∧ ((s.df n).fld
    DF.CMD.LOCK.HELD = 0)) ∧
  (∃ (n : Fin 64) (f : FrameHdr) (x : Nat) (y : Nat) (s : State), (f.k = 1) ∧ (f.identity < 4096) ∧ (f.owner < 16) ∧ (((s.df
    n).cmd.last.filter fun x => x.1 == f.identity) = none) ∧ ((s.df n).cmd.held = []) ∧ ((s.df n).cmd.waiting = none) ∧ ((s.df n).fld
    DF.PAIR.EPOCH.VALID = 1) ∧ (f.epoch = (s.df n).fld DF.PAIR.EPOCH.EPOCH) ∧ (x < 16) ∧ (y < 4) ∧ (stepCoversBoth x) ∧ ((s.df n).fld DF.CMD.LOCK.HELD
    = 0)) ∧
  (∃ (n : Fin 64) (f : FrameHdr) (s : State), (f.k = 0) ∧ (f.identity < 4096) ∧ (f.owner < 16) ∧ (((s.df n).cmd.last.filter fun x => x.1 ==
    f.identity) = none) ∧ ((s.df n).cmd.held = []) ∧ ((s.df n).cmd.waiting = none)) :=
  ⟨⟨3, ({ k := 0, epoch := 4, identity := 17, owner := 3 }), (onePort 3 fun f => ((f.set DF.PAIR.EPOCH.VALID 1).set DF.PAIR.EPOCH.EPOCH 4)),
    by decide +kernel⟩,
  ⟨3, ({ k := 0, epoch := 4, identity := 17, owner := 4 }),
    (onePort 3 fun f => ((((f.set DF.PAIR.EPOCH.VALID 1).set DF.PAIR.EPOCH.EPOCH 4).set DF.CMD.LOCK.HELD 1).set DF.CMD.LOCK.OWNER 3)),
    by decide +kernel⟩,
  ⟨3, ({ k := 0, epoch := 4, identity := 17, owner := 3 }),
    (onePort 3 fun f => { ((((f.set DF.PAIR.EPOCH.VALID 1).set DF.PAIR.EPOCH.EPOCH 4).set DF.CMD.LOCK.HELD 1).set DF.CMD.LOCK.OWNER 3) with cmd := { shadow := [(0x1400, 9)] } }),
    by decide +kernel⟩,
  ⟨3, ({ k := 0, epoch := 4, identity := 17, owner := 3 }), (onePort 3 fun f => ((f.set DF.PAIR.EPOCH.VALID 1).set DF.PAIR.EPOCH.EPOCH 4)),
    by decide +kernel⟩,
  ⟨3, ({ k := 0, epoch := 4, identity := 17, owner := 3 }),
    (onePort 3 fun f => { ((((f.set DF.PAIR.EPOCH.VALID 1).set DF.PAIR.EPOCH.EPOCH 4).set DF.CMD.LOCK.HELD 1).set DF.CMD.LOCK.OWNER 3) with cmd := { shadow := [(0x1400, 9)] } }),
    by decide +kernel⟩,
  ⟨3, ({ k := 0, epoch := 5, identity := 17, owner := 15 }), 0,
    (onePort 3 fun f => { ((((f.set DF.PAIR.EPOCH.VALID 1).set DF.PAIR.EPOCH.EPOCH 4).set DF.CMD.LOCK.HELD 1).set DF.CMD.LOCK.OWNER 3) with cmd := { shadow := [(0x1400, 9)] } }),
    by decide +kernel⟩,
  ⟨3, ({ k := 0, epoch := 4, identity := 17, owner := 3 }), (onePort 3 fun f => ((f.set DF.PAIR.EPOCH.VALID 1).set DF.PAIR.EPOCH.EPOCH 4)),
    by decide +kernel⟩,
  ⟨3, ({ k := 0, epoch := 4, identity := 17, owner := 3 }), (onePort 3 fun f => ((f.set DF.PAIR.EPOCH.VALID 1).set DF.PAIR.EPOCH.EPOCH 4)),
    by decide +kernel⟩,
  ⟨3, ({ k := 0, epoch := 4, identity := 17, owner := 3 }),
    (onePort 3 fun f => ((f.set DF.PAIR.EPOCH.VALID 1).set DF.PAIR.EPOCH.EPOCH 4).set DF.BOOT.STATE.STATE dfAlign), by decide +kernel⟩,
  ⟨3, ({ k := 0, epoch := 4, identity := 17, owner := 3 }), (onePort 3 fun f => ((f.set DF.PAIR.EPOCH.VALID 1).set DF.PAIR.EPOCH.EPOCH 4)),
    by decide +kernel⟩,
  ⟨3, ({ k := 0, epoch := 4, identity := 17, owner := 3 }),
    (onePort 3 fun f => ((f.set DF.PAIR.EPOCH.VALID 1).set DF.PAIR.EPOCH.EPOCH 4).set DF.BOOT.STATE.STATE dfRun), by decide +kernel⟩,
  ⟨3, ({ k := 0, epoch := 4, identity := 17, owner := 3 }),
    (onePort 3 fun f => ((f.set DF.PAIR.EPOCH.VALID 1).set DF.PAIR.EPOCH.EPOCH 4).set DF.BOOT.STATE.STATE dfRun), by decide +kernel⟩,
  ⟨3, ({ k := 0, epoch := 4, identity := 17, owner := 3 }),
    (onePort 3 fun f => ((f.set DF.PAIR.EPOCH.VALID 1).set DF.PAIR.EPOCH.EPOCH 4).set DF.BOOT.STATE.STATE dfDormant), by decide +kernel⟩,
  ⟨3, ({ k := 0, epoch := 4, identity := 17, owner := 3 }),
    (onePort 3 fun f => ((f.set DF.PAIR.EPOCH.VALID 1).set DF.PAIR.EPOCH.EPOCH 4).set DF.BOOT.STATE.STATE dfDormant), by decide +kernel⟩,
  ⟨3, ({ k := 0, epoch := 4, identity := 17, owner := 3 }), (onePort 3 fun f => ((f.set DF.PAIR.EPOCH.VALID 1).set DF.PAIR.EPOCH.EPOCH 4)),
    by decide +kernel⟩,
  ⟨3, ({ k := 1, epoch := 4, identity := 17, owner := 3 }), 5, 2, (onePort 3 fun f => ((f.set DF.PAIR.EPOCH.VALID 1).set DF.PAIR.EPOCH.EPOCH 4)),
    by decide +kernel⟩,
  ⟨3, ({ k := 2, epoch := 4, identity := 17, owner := 3 }), 0, 0, (onePort 3 fun f => ((f.set DF.PAIR.EPOCH.VALID 1).set DF.PAIR.EPOCH.EPOCH 4)),
    by decide +kernel⟩,
  ⟨3, ({ k := 1, epoch := 4, identity := 17, owner := 3 }), 5, 2, (onePort 3 fun f => ((f.set DF.PAIR.EPOCH.VALID 1).set DF.PAIR.EPOCH.EPOCH 4)),
    by decide +kernel⟩,
  ⟨3, ({ k := 1, epoch := 4, identity := 17, owner := 3 }), 3, 2, (onePort 3 fun f => ((f.set DF.PAIR.EPOCH.VALID 1).set DF.PAIR.EPOCH.EPOCH 4)),
    by decide +kernel⟩,
  ⟨3, ({ k := 0, epoch := 4, identity := 17, owner := 3 }), (onePort 3 fun f => ((f.set DF.PAIR.EPOCH.VALID 1).set DF.PAIR.EPOCH.EPOCH 4)),
    by decide +kernel⟩⟩

theorem test_register_access_can_hold :
  (∃ (a : Nat), (dcMapped a 1 = false)) ∧
  (∃ (u : DcId) (a : Nat) (w : Word) (s : State), (dcMapped a 1) ∧ ((a < 0x10000 ∨ 0x11000 ≤ a)) ∧ ((s.dc u).writeStatus a w ≠ 0)) ∧
  (∃ (a : Nat), (dcMapped a 1) ∧ ((a < 0x10000 ∨ 0x11000 ≤ a)) ∧ (findReg dcTable a = none) ∧ (inWindow a = false)) ∧
  (∃ (n : Fin 64) (k : Fin 8) (w : Word) (s : State), (((s.df n).writeStatus (DF.REED.ANCHOR.addr k) w = 0))) ∧
  (∃ (n : Fin 64) (ch : Fin 640) (w : Word) (s : State), ((s.df n).writeStatus (DF.AFE.CH.addr ch) w = 0)) ∧
  (∃ (n : Fin 64) (a : Nat) (w : Word) (s : State), (dfMapped a 1) ∧ ((s.df n).writeStatus a w ≠ 0)) ∧
  (∃ (r : Nat), (r ≠ 9)) ∧
  (∃ (r : Nat), (r ≠ 9)) ∧
  (∃ (r : Nat), (r ≠ 9)) ∧
  (∃ (u : DcId) (a : Nat) (w : Word) (s : State), (dcMapped a 1) ∧ (elemOf (DC.IBR.CFG.addr 0) 64 64 a = none) ∧ ((s.dc u).writeStatus a w =
    0)) ∧
  (∃ (n : Fin 64) (a : Nat) (w : Word) (s : State), (dfMapped a 1) ∧ ((s.df n).writeStatus a w = 0)) ∧
  (∃ (u : DcId) (r : Nat) (a : Nat) (x : RegDesc) (s : State), (dcMapped a 1) ∧ ((s.dc u).readPoison a = false) ∧ (findReg dcTable a = some
    x) ∧ (dcIsLatched a = false) ∧ (a ≠ DC.TIME.TXQ_HEAD.addr) ∧ (r ≠ 9)) ∧
  (∃ (a : Nat) (x : RegDesc), (dfMapped a 1) ∧ (findReg dfTable a = some x) ∧ (dfIsLatched a = false) ∧ (a ≠ DF.HIT.CQ_PEAK.addr)) ∧
  (∃ (u : DcId) (a : Nat) (x : RegDesc) (s : State), (dcMapped a 1) ∧ ((s.dc u).readPoison a = false) ∧ (findReg dcTable a = some x) ∧
    (dcIsLatched a = false) ∧ (latchingLo a) ∧ (a ≠ DC.TIME.TXQ_HEAD.addr)) ∧
  (∃ (a : Nat) (h_ : Nat) (x : RegDesc), (dfMapped a 1) ∧ (findReg dfTable a = some x) ∧ (dfLatched a = some h_) ∧ (dfIsLatched a = false)) :=
  ⟨⟨(0x20000), by decide +kernel⟩,
  ⟨.u0, (DC.TRG.CTRL.addr), 1, State.reset, by decide +kernel⟩,
  ⟨(0xFFC), by decide +kernel⟩,
  ⟨3, 2, (0x44), (onePort 3 fun f => f.set (DF.REED.ANCHOR.UNLOCK 2) 1), by decide +kernel⟩,
  ⟨3, 5, 2, State.reset, by decide +kernel⟩,
  ⟨3, (DF.BOOT.RESET.addr), 1, State.reset, by decide +kernel⟩,
  ⟨1, by decide +kernel⟩,
  ⟨1, by decide +kernel⟩,
  ⟨1, by decide +kernel⟩,
  ⟨.u0, (DC.ABS.SVC_IP.addr), 5, State.reset, by decide +kernel⟩,
  ⟨3, (DF.REED.REFRESH.addr), 100000, State.reset, by decide +kernel⟩,
  ⟨.u0, 1, (DC.BOOT.DROOP_N2.addr), ((findReg dcTable DC.BOOT.DROOP_N2.addr).get (by decide)),
    (oneUnit .u0 fun d => d.set DC.BOOT.DROOP_N2.COUNT 7), by decide +kernel⟩,
  ⟨(DF.CMD.ACCEPTED.addr), ((findReg dfTable DF.CMD.ACCEPTED.addr).get (by decide)), by decide +kernel⟩,
  ⟨.u0, (DC.TIME.NOW_LO.addr), ((findReg dcTable DC.TIME.NOW_LO.addr).get (by decide)), (oneUnit .u0 fun d => { d with now := 2 ^ 33 + 7 }),
    by decide +kernel⟩,
  ⟨(DF.TUS.STATE_LO.addr), (DF.TUS.STATE_HI.addr), ((findReg dfTable DF.TUS.STATE_LO.addr).get (by decide)), by decide +kernel⟩⟩

theorem test_engine_registers_can_hold :
  (∃ (u : DcId) (s : State), ((s.dc u).fld DC.TRG.CTRL.EN = 0) ∧ ((s.dc u).fld DC.PEAT.CTRL.EN = 1) ∧ ((s.dc u).fld DC.PEAT.STATUS.READY ≠ 0)) ∧
  (∃ (u : DcId) (s : State), ((s.dc u).fld DC.PEAT.CTRL.EN = 0 ∨ (s.dc u).fld DC.PEAT.STATUS.READY = 0)) ∧
  (∃ (u : DcId) (s : State), ((s.dc u).fld DC.TRG.CTRL.EN = 1)) ∧
  (∃ (u : DcId) (j : Fin 512) (w : Word) (s : State), ((s.dc u).fld (DC.TRG.PCTRL.EN j) = 0) ∧ (fieldOf w 8 1 = 1) ∧ ((s.dc u).care j ≠ 0)) ∧
  (∃ (u : DcId) (j : Fin 512) (w : Word) (s : State), ((s.dc u).fld (DC.TRG.PCTRL.EN j) = 0) ∧ (fieldOf w 8 1 = 1) ∧ ((s.dc u).care j = 0)) ∧
  (∃ (u : DcId) (m : Fin 8) (s : State), (((s.dc u).fld DC.QLF.MASK_CTRL.LOAD).testBit m = false)) ∧
  (∃ (u : DcId) (m : Fin 8) (s : State), (((s.dc u).fld DC.QLF.MASK_CTRL.LOAD).testBit m)) ∧
  (∃ (u : DcId) (x : Fin 16) (s : State), ((s.dc u).foldBusy x = false) ∧ ((s.dc u).fld (DC.FOLD.CFG.FOLDLEN x) = 0)) ∧
  (∃ (u : DcId) (x : Fin 16) (s : State), ((s.dc u).foldBusy x = false)) ∧
  (∃ (u : DcId) (x : Fin 16) (s : State), ((s.dc u).foldBusy x = false)) ∧
  (∃ (u : DcId) (x : Fin 16) (s : State), ((s.dc u).foldBusy x = false)) ∧
  (∃ (u : DcId) (x : Fin 16) (s : State), ((s.dc u).foldBusy x = false)) ∧
  (∃ (u : DcId) (x : Fin 16) (s : State), ((s.dc u).foldBusy x)) ∧
  (∃ (u : DcId) (w : Word) (s : State), ((s.dc u).fld DC.PEAT.CTRL.EN = 0) ∧ ((s.dc u).fld DC.PEAT.GEOM.CHAN_FAIL = 0) ∧ (fieldOf w 4 6 ≠ 0) ∧
    (fieldOf w 16 6 ≠ 0) ∧ (fieldOf w 16 6 ≤ 60)) ∧
  (∃ (u : DcId) (x : Nat) (e : LogEntry) (s : State), (x < 1024) ∧ ((s.dc u).logAt x = some e)) ∧
  (∃ (u : DcId) (s : State), ((s.dc u).writeStatus DC.LDG.CTRL.addr (withField ((s.dc u).rwBits DC.LDG.CTRL.addr) 0 1 1) = 0)) :=
  ⟨⟨.u0, (oneUnit .u0 fun d => (d.set DC.PEAT.CTRL.EN 1).set DC.PEAT.STATUS.READY 1), by decide +kernel⟩,
  ⟨.u0, State.reset, by decide +kernel⟩,
  ⟨.u0, (oneUnit .u0 fun d => d.set DC.TRG.CTRL.EN 1), by decide +kernel⟩,
  ⟨.u0, 7, (0x105), (oneUnit .u0 fun d => d.set (DC.TRG.CARE_LO.C 7) 3), by decide +kernel⟩,
  ⟨.u0, 7, (0x105), State.reset, by decide +kernel⟩,
  ⟨.u0, 3, State.reset, by decide +kernel⟩,
  ⟨.u0, 3, (oneUnit .u0 fun d => (d.set DC.QLF.MASK_CTRL.LOAD 12).set DC.QLF.MASK_CTRL.BAD 8), by decide +kernel⟩,
  ⟨.u0, 5, (oneUnit .u0 fun d => d.set (DC.FOLD.CFG.FOLDLEN 5) 0), by decide +kernel⟩,
  ⟨.u0, 5, State.reset, by decide +kernel⟩,
  ⟨.u0, 5, State.reset, by decide +kernel⟩,
  ⟨.u0, 5, State.reset, by decide +kernel⟩,
  ⟨.u0, 5, State.reset, by decide +kernel⟩,
  ⟨.u0, 1, (oneUnit .u0 fun d => d.set DC.CMP.CTRL.EN 1), by decide +kernel⟩,
  ⟨.u0, (0xA0055), State.reset, by decide +kernel⟩,
  ⟨.u0, 9, ({}), (oneUnit .u0 fun d => d.setLog 9 {}), by decide +kernel⟩,
  ⟨.u0, State.reset, by decide +kernel⟩⟩

theorem test_unaligned_register_access_can_hold :
  (∃ (a : Nat), (a % 4 ≠ 0)) ∧
  (∃ (a : Nat), (a % 4 ≠ 0)) ∧
  (∃ (a : Nat), (a % 4 ≠ 0)) ∧
  (∃ a : Nat, a % 4 ≠ 0) :=
  ⟨⟨(0x2009), by decide +kernel⟩,
  ⟨(0x2009), by decide +kernel⟩,
  ⟨(0x4001), by decide +kernel⟩,
  ⟨0x2009, by decide⟩⟩

theorem test_pair_state_after_reset_can_hold :
  (∃ (u : DcId) (s : State) (e : Nat), ((s.dc u).state ≠ dcPower) ∧ ((s.dc u).bt.softAt = some e) ∧ (e ≤ (s.dc u).nextBoundary * frameTicks)) ∧
  (∃ (n : Fin 64) (s : State), ((s.df n).bt.softIn = some 1)) ∧
  (∃ (n : Fin 64) (f : FrameHdr) (s : State), (f.k = 0) ∧ (f.identity < 4096) ∧ (f.epoch < 65536) ∧ (((s.df n).cmd.last.filter fun x => x.1 ==
    f.identity) = none) ∧ ((s.df n).cmd.held = []) ∧ ((s.df n).cmd.waiting = none) ∧ ((s.df n).fld DF.PAIR.EPOCH.VALID = 0)) :=
  ⟨⟨.u0,
    (oneUnit .u0 fun d => let d := (d.set DC.PAIR.STATUS.ROLE 0).set DC.BOOT.STATE.STATE dcRun; { d with bt := { d.bt with softAt := some 900 } }),
    900, by decide +kernel⟩,
  ⟨3, (onePort 3 fun f => { f.set DF.PAIR.EPOCH.VALID 1 with bt := { softIn := some 1 } }), by decide +kernel⟩,
  ⟨3, ({ k := 0, epoch := 5, identity := 17, owner := 15 }), (onePort 3 fun f => f.set DF.PAIR.EPOCH.EPOCH 900), by decide +kernel⟩⟩

theorem test_training_ladder_can_hold :
  (∃ (u : DcId) (l : Fin 4) (s : State), (((s.dc u).lane l).state = lLock)) ∧
  (∃ (u : DcId) (l : Fin 4) (s : State), (((s.dc u).lane l).state = lLock)) ∧
  (∃ (u : DcId) (l : Fin 4) (s : State), (((s.dc u).lane l).state = lTrain)) ∧
  (∃ (u : DcId) (l : Fin 4) (word : Rec) (s : State), (training ((s.dc u).lane l).state) ∧ (rb word 48 16 = 0xA7E5)) ∧
  (∃ (u : DcId) (l : Fin 4) (s : State), (((s.dc u).lane l).state = lJudge) ∧ (((s.dc u).lane l).rx.train.verdict = 1) ∧ (((s.dc u).lane
    l).rx.train.steppedDown = false) ∧ (((s.dc u).lane l).rung < 3) ∧ (((s.dc u).lane l).dec = (decUp, 4))) ∧
  (∃ (u : DcId) (l : Fin 4) (s : State), (((s.dc u).lane l).state = lJudge) ∧ (((s.dc u).lane l).rx.train.verdict = 1) ∧ (((s.dc u).lane l).rung =
    3) ∧ (((s.dc u).lane l).dec = (decRun, 4))) ∧
  (∃ (u : DcId) (l : Fin 4) (s : State), (((s.dc u).lane l).state = lJudge) ∧ (((s.dc u).lane l).rx.train.verdict = 2) ∧ (0 < ((s.dc u).lane
    l).rung) ∧ (((s.dc u).lane l).dec = (decDown, 4))) ∧
  (∃ (u : DcId) (l : Fin 4) (s : State), (((s.dc u).lane l).state = lJudge) ∧ (((s.dc u).lane l).rx.train.verdict = 2) ∧ (((s.dc u).lane l).rung =
    0)) ∧
  (∃ (u : DcId) (l : Fin 4) (s : State), (((s.dc u).lane l).state = lStep)) ∧
  (∃ (u : DcId) (l : Fin 4) (s : State), (((s.dc u).lane l).state = lFault)) ∧
  (∃ (u : DcId) (l : Fin 4) (s : State), (((s.dc u).lane l).state = lRun) ∧ (((s.dc u).lane l).rx.missRun = 1)) ∧
  (∃ (u : DcId) (l : Fin 4) (s : State) (b : List Rec) (rest : List (List Rec)), (((s.dc (otherUnit u)).lane l).state = lRun) ∧ (((s.dc
    u).lane l).tx.slot < 4096) ∧ (((s.dc u).lane l).tx.todo = b :: rest)) ∧
  (∃ (u : DcId) (l : Fin 4) (s : State), (((s.dc (otherUnit u)).lane l).state = lRun) ∧ (((s.dc u).lane l).tx.slot < 4096) ∧ (((s.dc u).lane
    l).tx.todo = []) ∧ (training ((s.dc u).lane l).state = false)) ∧
  (∃ (u : DcId) (l : Fin 4) (s : State), (training ((s.dc (otherUnit u)).lane l).state) ∧ (((s.dc u).lane l).tx.slot < 512)) ∧
  (∃ (u : DcId) (l : Fin 4) (s : State), (training ((s.dc (otherUnit u)).lane l).state) ∧ (512 ≤ ((s.dc u).lane l).tx.slot) ∧ (((s.dc u).lane
    l).tx.slot < 4096)) ∧
  (∃ (u : DcId) (l : Fin 4) (s : State), (((s.dc (otherUnit u)).lane l).state = lRun ∨ training ((s.dc (otherUnit u)).lane l).state) ∧ (4096 ≤
    ((s.dc u).lane l).tx.slot)) ∧
  (∃ (u : DcId) (n : Fin 64) (l : Fin 4) (s : State), (unitAt (l / 2) = u) ∧ ((s.dc u).fld (DC.IBR.LANE.STATE n (l % 2)) = lLock) ∧ ((s.df
    n).fld (DF.LINK.LANE.STATE l) = lLock) ∧ ((s.df n).fld (DF.LINK.LANE.RUNG l) = (s.dc u).fld (DC.IBR.LANE.RUNG n (l % 2)))) ∧
  (∃ (u : DcId) (n : Fin 64) (l : Fin 4) (s : State), (unitAt (l / 2) = u) ∧ ((s.dc u).fld (DC.IBR.LANE.STATE n (l % 2)) = lTrain) ∧ ((s.df
    n).fld (DF.LINK.LANE.STATE l) = lTrain)) :=
  ⟨⟨.u0, 2, (oneUnit .u0 fun d => d.setLane 2 { state := 1, rung := 2 }), by decide +kernel⟩,
  ⟨.u0, 2, (oneUnit .u0 fun d => d.setLane 2 { state := 1 }), by decide +kernel⟩,
  ⟨.u0, 2, (oneUnit .u0 fun d => d.setLane 2 { state := 2 }), by decide +kernel⟩,
  ⟨.u0, 2, (judgeWord 1 0 0 1 1 1 0), (oneUnit .u0 fun d => d.setLane 2 { state := 3 }), by decide +kernel⟩,
  ⟨.u0, 2, (oneUnit .u0 fun d => d.setLane 2 { state := 3, rung := 2, dec := (decUp, 4), rx := { train := { verdict := 1 } } }), by decide +kernel⟩,
  ⟨.u0, 2, (oneUnit .u0 fun d => d.setLane 2 { state := 3, rung := 3, dec := (decRun, 4), rx := { train := { verdict := 1 } } }), by decide +kernel⟩,
  ⟨.u0, 2, (oneUnit .u0 fun d => d.setLane 2 { state := 3, rung := 1, dec := (decDown, 4), rx := { train := { verdict := 2 } } }),
    by decide +kernel⟩,
  ⟨.u0, 2, (oneUnit .u0 fun d => d.setLane 2 { state := 3, rung := 0, rx := { train := { verdict := 2 } } }), by decide +kernel⟩,
  ⟨.u0, 2, (oneUnit .u0 fun d => d.setLane 2 { state := 4, rung := 1, rx := { train := { verdict := 2, stepTo := 2 } } }), by decide +kernel⟩,
  ⟨.u0, 2, (oneUnit .u0 fun d => d.setLane 2 { state := 8, rung := 0, rx := { train := { faultFrame := 4 } } }), by decide +kernel⟩,
  ⟨.u0, 2, (oneUnit .u0 fun d => d.setLane 2 { state := 5, rung := 3, rx := { missRun := 1 } }), by decide +kernel⟩,
  ⟨.u0, 2, ((oneUnit .u0 fun d => d.setLane 2 { tx := { slot := 4095, todo := [[]] } }).setDc .u1 ((dcFresh 1).setLane 2 { state := 5 })), [],
    [], by decide +kernel⟩,
  ⟨.u0, 2, ((oneUnit .u0 fun d => d.setLane 2 { state := 5 }).setDc .u1 ((dcFresh 1).setLane 2 { state := 5 })), by decide +kernel⟩,
  ⟨.u0, 2, (State.reset.setDc .u1 ((dcFresh 1).setLane 2 { state := 2 })), by decide +kernel⟩,
  ⟨.u0, 2, ((oneUnit .u0 fun d => d.setLane 2 { tx := { slot := 512 } }).setDc .u1 ((dcFresh 1).setLane 2 { state := 2 })), by decide +kernel⟩,
  ⟨.u0, 2, ((oneUnit .u0 fun d => d.setLane 2 { tx := { slot := 4096 } }).setDc .u1 ((dcFresh 1).setLane 2 { state := 5 })), by decide +kernel⟩,
  ⟨.u0, 3, 1, (((onePort 3 fun f => f.set (DF.LINK.LANE.STATE 1) 1).setDc .u0 (let d := dcFresh 1; d.set (DC.IBR.LANE.STATE 3 1) 1))),
    by decide +kernel⟩,
  ⟨.u0, 3, 1, (((onePort 3 fun f => f.set (DF.LINK.LANE.STATE 1) 2).setDc .u0 (let d := dcFresh 1; d.set (DC.IBR.LANE.STATE 3 1) 2))),
    by decide +kernel⟩⟩

end Sys2Proof.Machine
end

section
/-! The rows of the scope: what every command leaves of the block as a whole, the invariant of the table of DF640s, and the idle tick. -/
namespace Sys2Proof.Machine

/-! ### The block outside its chips -/

/-- `t` is `s` but for its DC64s and the DF640s at ports in `P`: the queue, the free values and the last answer stand, and the table of DF640s stays canonical
where `P` holds of ports of the cluster alone (R18). -/
structure State.Kept (P : Nat → Prop) (s t : State) : Prop where
  pending : t.pending = s.pending
  free : t.free = s.free
  result : t.result = s.result
  df : ∀ m, ¬ P m → t.df m = s.df m
  inv : (∀ m, P m → m < 64) → s.Inv → t.Inv

theorem State.Inv.of_dfs_eq {s t : State} (h : t.dfs = s.dfs) (hi : s.Inv) : t.Inv := by
  unfold State.Inv at *
  rwa [h]

theorem State.Inv.setDf {s : State} (hi : s.Inv) {n : Nat} (hn : n < 64) (f : Df) : (s.setDf n f).Inv := by
  obtain ⟨hwf, hport⟩ := hi
  refine ⟨FMap.wf_put _ _ _ _ hwf, fun p hp => ?_⟩
  rcases FMap.mem_put _ _ _ _ p hp with h | h
  · exact h ▸ hn
  · exact hport p h

namespace State.Kept

variable {P Q : Nat → Prop} {s t r : State}

theorem refl (P : Nat → Prop) (s : State) : Kept P s s := ⟨rfl, rfl, rfl, fun _ _ => rfl, fun _ h => h⟩

theorem trans (h : Kept P s t) (h' : Kept P t r) : Kept P s r :=
  ⟨h'.pending.trans h.pending, h'.free.trans h.free, h'.result.trans h.result, fun m hm => (h'.df m hm).trans (h.df m hm),
    fun hP hi => h'.inv hP (h.inv hP hi)⟩

theorem mono (h : Kept P s t) (hPQ : ∀ m, P m → Q m) : Kept Q s t :=
  ⟨h.pending, h.free, h.result, fun m hm => h.df m fun hp => hm (hPQ m hp), fun hQ => h.inv fun _ hp => hQ _ (hPQ _ hp)⟩

theorem setDc (h : Kept P s t) (u : DcId) (d : Dc) : Kept P s (t.setDc u d) :=
  h.trans ⟨by simp, by simp, by simp, by simp, fun _ => .of_dfs_eq (by simp)⟩

theorem setDf (h : Kept P s t) {n : Nat} (hn : P n) (f : Df) : Kept P s (t.setDf n f) :=
  h.trans ⟨rfl, rfl, rfl, fun _ hm => df_setDf_ne _ _ _ _ fun e => hm (e ▸ hn), fun hP hi => hi.setDf (hP n hn) f⟩

theorem ite {c : Prop} [Decidable c] (ht : Kept P s t) (hr : Kept P s r) : Kept P s (if c then t else r) := by
  split
  · exact ht
  · exact hr

/-- A fold keeps what each of its steps keeps. -/
theorem foldl {α : Type} {f : State → α → State} {l : List α} (h : Kept P s t) (hf : ∀ r, ∀ a ∈ l, Kept P r (f r a)) : Kept P s (l.foldl f t) := by
  induction l generalizing t with
  | nil => exact h
  | cons a l ih =>
    exact ih (h.trans (hf t a List.mem_cons_self)) fun r b hb => hf r b (List.mem_cons_of_mem a hb)

end State.Kept

/-! ### The ladder's operations and the ports they reach -/

/-- The ports whose DF640s a direction names: its own, or none for a Causeway lane. -/
def portsOf : Dir → Nat → Prop
  | .up n _, m => m = n
  | .down n _, m => m = n
  | .cause _ _, _ => False

theorem portsOf_up (n : Fin 64) (l : Fin 4) : portsOf (.up n l) n := rfl
theorem portsOf_down (n : Fin 64) (h : Fin 2) : portsOf (.down n h) n := rfl

section Ladder
variable {P : Nat → Prop}

theorem State.kept_moveUp (s : State) {n : Nat} (hn : P n) (l st rung : Nat) (bring : Bool) : State.Kept P s (s.moveUp n l st rung bring) :=
  .ite (((State.Kept.refl P s).setDc _ _).setDf hn _) ((State.Kept.refl P s).setDc _ _)

theorem State.kept_follow (s : State) (n : Nat) (old : Df) : State.Kept P s (s.follow n old) :=
  .foldl (.foldl (.refl P s) fun r _ _ => .ite ((State.Kept.refl P r).setDc _ _) (.refl P r)) fun r _ _ => .ite ((State.Kept.refl P r).setDc _ _) (.refl P r)

theorem State.kept_putDf (s : State) {n : Nat} (hn : P n) (f : Df) : State.Kept P s (s.putDf n f) :=
  ((State.Kept.refl P s).setDf hn f).trans (kept_follow _ _ _)

theorem State.kept_moveDown (s : State) {n : Nat} (hn : P n) (h st rung : Nat) (bring : Bool) : State.Kept P s (s.moveDown n h st rung bring) :=
  ((State.Kept.refl P s).setDc _ _).trans (.ite (kept_putDf _ hn _) (.refl P _))

theorem State.kept_moveCause (s : State) (u : DcId) (l st rung : Nat) (bring : Bool) : State.Kept P s (s.moveCause u l st rung bring) :=
  ((State.Kept.refl P s).setDc _ _).trans (.ite ((State.Kept.refl P _).setDc _ _) (.refl P _))

theorem State.kept_move (s : State) (x : Dir) (st rung : Nat) (bring : Bool) : State.Kept (portsOf x) s (s.move x st rung bring) := by
  cases x with
  | up n l => exact kept_moveUp s (portsOf_up n l) _ _ _ _
  | down n h => exact kept_moveDown s (portsOf_down n h) _ _ _ _
  | cause u l => exact kept_moveCause s _ _ _ _ _

theorem State.kept_setTrain (s : State) (x : Dir) (t : Train) : State.Kept (portsOf x) s (s.setTrain x t) := by
  cases x with
  | up n l => exact (State.Kept.refl _ s).setDc _ _
  | down n h => exact (State.Kept.refl _ s).setDf (portsOf_down n h) _
  | cause u l => exact (State.Kept.refl _ s).setDc _ _

theorem State.kept_laneLock (s : State) (x : Dir) : State.Kept (portsOf x) s (s.laneLock x) := by
  refine .ite (.refl _ s) ?_
  cases x with
  | up n l => exact .ite (kept_moveUp s (portsOf_up n l) _ _ _ _) (.refl _ s)
  | down n h => exact .ite ((kept_moveDown s (portsOf_down n h) _ _ _ _).setDf (portsOf_down n h) _) (.refl _ s)
  | cause u l => exact kept_moveCause s _ _ _ _ _

theorem State.kept_rungFails (s : State) (x : Dir) : State.Kept (portsOf x) s (s.rungFails x) := (kept_setTrain s x _).trans (kept_move _ x _ _ _)

theorem State.kept_lockTimeout (s : State) (x : Dir) : State.Kept (portsOf x) s (s.lockTimeout x) := by
  cases x with
  | up n l => exact .ite (kept_rungFails s _) (.refl _ s)
  | down n h => exact .ite (kept_rungFails s _) (.refl _ s)
  | cause u l => exact .ite (kept_rungFails s _) (.refl _ s)

theorem State.kept_passEnd (s : State) (x : Dir) (errors : Nat) (inStep : Bool) : State.Kept (portsOf x) s (s.passEnd x errors inStep) :=
  .ite (.refl _ s) ((kept_setTrain s x _).trans (kept_move _ x _ _ _))

theorem State.kept_judgeWord (s : State) (x : Dir) (w : Rec) : State.Kept (portsOf x) s (s.judgeWord x w) := by
  refine .ite (.refl _ s) ?_
  cases x with
  | up n l => exact .ite ((State.Kept.refl _ s).setDc _ _) (.refl _ s)
  | down n h => exact .ite ((State.Kept.refl _ s).setDf (portsOf_down n h) _) (.refl _ s)
  | cause u l => exact .ite (kept_setTrain s _ _) (.refl _ s)

theorem State.kept_stepEnd (s : State) (x : Dir) : State.Kept (portsOf x) s (s.stepEnd x) := .ite (kept_move s x _ _ _) (.refl _ s)

theorem State.kept_faultEnd (s : State) (x : Dir) : State.Kept (portsOf x) s (s.faultEnd x) :=
  .ite (.refl _ s) (((State.Kept.refl _ s).setDc _ _).trans ((kept_setTrain _ x _).trans (kept_move _ x _ _ _)))

theorem State.kept_markerMiss (s : State) (x : Dir) : State.Kept (portsOf x) s (s.markerMiss x) := by
  cases x with
  | up n l =>
    have h := (State.Kept.refl (portsOf (.up n l)) s).setDc (unitAt (l / 2)) ((s.dc (unitAt (l / 2))).miss n (l % 2)).1
    exact .ite (h.trans (kept_moveUp _ (portsOf_up n l) _ _ _ _)) h
  | down n h => exact kept_putDf s (portsOf_down n h) _
  | cause u l =>
    refine .ite (.refl _ s) ?_
    exact ((State.Kept.refl _ s).setDc _ _).trans (.ite (kept_moveCause _ _ _ _ _ _) (.refl _ _))

theorem State.kept_causeMarker (s : State) (u : DcId) (l : Nat) (word : Rec) (f : Nat) : State.Kept P s (s.causeMarker u l word f) :=
  .ite (.refl P s) (((State.Kept.refl P s).setDc _ _).trans (.foldl (.refl P _) fun r _ _ => .ite (kept_moveCause r _ _ _ _ _) (.refl P r)))

theorem State.kept_marker (s : State) (u : DcId) (x : Dir) (word : Rec) (f : Nat) : State.Kept P s (s.marker u x word f) := by
  cases x with
  | up n l => exact .ite ((State.Kept.refl P s).setDc _ _) (.refl P s)
  | down n h => exact .refl P s
  | cause v l => exact .ite (kept_causeMarker s _ _ _ _) (.refl P s)

theorem State.kept_downlinkRestart (s : State) (u : DcId) {n : Nat} (hn : P n) : State.Kept P s (s.downlinkRestart u n) := by
  unfold State.downlinkRestart
  dsimp only
  split
  · exact .refl P s
  · exact .ite (.refl P s) ((((State.Kept.refl P s).setDc u _).trans (kept_moveDown _ hn _ _ _ _)).trans (kept_moveUp _ hn _ _ _ _)
      |>.trans (kept_moveUp _ hn _ _ _ _))

theorem State.kept_downlinkWake (s : State) (u : DcId) {n : Nat} (hn : P n) : State.Kept P s (s.downlinkWake u n) :=
  .ite (.refl P s) (.ite (((State.Kept.refl P s).setDc _ _).setDf hn _) ((State.Kept.refl P s).setDc _ _))

/-- A decision on a direction keeps what a move along it keeps, where remembering the training keeps it. -/
theorem State.kept_decisionMoves {s a b c : State} {x : Dir} (ha : State.Kept (portsOf x) s a) (hb : State.Kept (portsOf x) s b)
    (hc : State.Kept (portsOf x) s c) (dec rung : Nat) :
    State.Kept (portsOf x) s
      (if dec = decUp then a.move x lStep rung else if dec = decDown then b.move x lStep rung
        else if dec = decRun then s.move x lRun rung else if dec = decFault then c.move x lFault rung else s) :=
  .ite (ha.trans (kept_move _ x _ _ _)) (.ite (hb.trans (kept_move _ x _ _ _)) (.ite (kept_move s x _ _ _) (.ite (hc.trans (kept_move _ x _ _ _)) (.refl _ s))))

theorem State.kept_decided (s : State) (x : Dir) (dec rung : Nat) : State.Kept (portsOf x) s (s.decided x dec rung) := by
  unfold State.decided
  have keep := kept_setTrain s x
  cases x <;> dsimp only
  case up n l => exact kept_decisionMoves (keep _) (keep _) (keep _) dec rung
  case down n h => exact kept_decisionMoves ((keep _).setDc _ _) ((keep _).setDc _ _) ((keep _).setDc _ _) dec rung
  case cause u l => exact kept_decisionMoves (keep _) (keep _) (keep _) dec rung

theorem State.kept_faultNotice (s : State) (u : DcId) (dec n : Nat) : State.Kept P s (s.faultNotice u dec n) := .ite ((State.Kept.refl P s).setDc _ _) (.refl P s)

/-- The far ends that follow a DC64's lowered caps lie on the ports of which a lane or downlink left RUN for LOCK. -/
theorem State.kept_capFollow (s : State) (u : DcId) (old : Dc)
    (h : ∀ m < 64, ¬ P m → (∀ j < 2, old.rxRun m j → (s.dc u).fld (DC.IBR.LANE.STATE m j) ≠ lLock) ∧ (old.dnRun m → (s.dc u).fld (DC.IBR.STAT.DN_STATE m) ≠ lLock)) :
    State.Kept P s (s.capFollow u old) := by
  refine .foldl (.refl P s) fun r m hm => ?_
  by_cases hp : P m
  · exact (State.Kept.foldl (.refl P r) fun q j _ => .ite (kept_moveUp q hp _ _ _ _) (.refl P q)).trans (.ite (kept_moveDown _ hp _ _ _ _) (.refl P _))
  · obtain ⟨hup, hdn⟩ := h m (List.mem_range.mp hm) hp
    have stays : ∀ q : State, ∀ j ∈ [0, 1], (if old.rxRun m j ∧ (s.dc u).fld (DC.IBR.LANE.STATE m j) = lLock then
        q.moveUp m (2 * unitNum u + j) lLock ((s.dc u).fld (DC.IBR.LANE.RUNG m j)) else q) = q := fun q j hj =>
      if_neg fun hc => hup j (by simp at hj; omega) hc.1 hc.2
    refine State.Kept.trans (t := r) (.refl P r) ?_
    dsimp only
    rw [if_neg fun hc => hdn hc.1 hc.2]
    exact .foldl (.refl P r) fun q j hj => by rw [stays q j hj]; exact .refl P q

theorem State.kept_putDc (s : State) (u : DcId) (d : Dc) : State.Kept (· < 64) s (s.putDc u d) :=
  ((State.Kept.refl _ s).setDc u d).trans (kept_capFollow _ _ _ fun _ hm hp => absurd hm hp)

theorem State.kept_sleepPorts (s : State) (u : DcId) : State.Kept (fun m => m ∈ s.dfs.map (·.1)) s (s.sleepPorts u) :=
  .foldl (.refl _ s) fun r _ hm => .ite (((State.Kept.refl _ r).setDc _ _).setDf hm _) (.refl _ r)

theorem State.kept_noteGates (s : State) (n b v : Nat) : State.Kept P s (s.noteGates n b v) := ((State.Kept.refl P s).setDc _ _).setDc _ _

theorem State.kept_seeLog (s : State) (u : DcId) : State.Kept P s (s.seeLog u) := (State.Kept.refl P s).setDc _ _

end Ladder

/-! ### Lowered caps (R158): `capRetrain` stays in the registers of its port -/

theorem Dc.word_set_ne (d : Dc) (f : Fd) (v b : Nat) (h : b ≠ f.addr) : (d.set f v).word b = d.word b := Dc.word_setWord_ne _ _ _ _ h

theorem Dc.rxTo_word (d : Dc) (n j st rung : Nat) (byCap : Bool) (a : Nat) (h : a ≠ DC.IBR.LANE.addr n j) : (d.rxTo n j st rung byCap).word a = d.word a := by
  have state (d : Dc) (v : Nat) : (d.set (DC.IBR.LANE.STATE n j) v).word a = d.word a := d.word_set_ne _ v a h
  have rungs (d : Dc) (v : Nat) : (d.set (DC.IBR.LANE.RUNG n j) v).word a = d.word a := d.word_set_ne _ v a h
  have asleep (d : Dc) (v : Nat) : (d.set (DC.IBR.LANE.ASLEEP n j) v).word a = d.word a := d.word_set_ne _ v a h
  have retrains (d : Dc) : (d.inc (DC.IBR.LANE.RETRAINS n j)).word a = d.word a := d.word_set_ne _ _ a h
  have port (d : Dc) (x : Port) : (d.setPort n x).word a = d.word a := rfl
  have recv (d : Dc) (x : Rx) : (d.setRecv (2 * n + j) x).word a = d.word a := rfl
  have stale (d : Dc) : (d.staleNow n).word a = d.word a := rfl
  unfold Dc.rxTo
  dsimp only
  repeat' split
  all_goals simp only [port, recv, stale, state, rungs, asleep, retrains]

theorem Dc.dnTo_word (d : Dc) (n st rung a : Nat) (h : a ≠ DC.IBR.STAT.addr n) : (d.dnTo n st rung).word a = d.word a := by
  have state (d : Dc) (v : Nat) : (d.set (DC.IBR.STAT.DN_STATE n) v).word a = d.word a := d.word_set_ne _ v a h
  have rungs (d : Dc) (v : Nat) : (d.set (DC.IBR.STAT.DN_RUNG n) v).word a = d.word a := d.word_set_ne _ v a h
  have port (d : Dc) (x : Port) : (d.setPort n x).word a = d.word a := rfl
  unfold Dc.dnTo
  dsimp only
  split <;> simp only [port, state, rungs]

theorem Dc.word_ite {c : Prop} [Decidable c] {x y : Dc} {a : Nat} {w : Word} (hx : x.word a = w) (hy : y.word a = w) : (if c then x else y).word a = w := by
  split
  · exact hx
  · exact hy

theorem Dc.capRetrain_word (d : Dc) (n a : Nat) (h0 : a ≠ DC.IBR.LANE.addr n 0) (h1 : a ≠ DC.IBR.LANE.addr n 1) (hs : a ≠ DC.IBR.STAT.addr n) :
    (d.capRetrain n).word a = d.word a := by
  unfold Dc.capRetrain
  extract_lets above busy e
  have he : e.word a = d.word a := word_ite (d.rxTo_word _ _ _ _ _ a h0) (word_ite (d.rxTo_word _ _ _ _ _ a h1) rfl)
  exact word_ite ((e.dnTo_word _ _ _ a hs).trans he) he

/-- Port `m`'s lanes and downlink stand where they stood when another port's lanes are retrained by its cap. -/
theorem Dc.capRetrain_other (d : Dc) {n m : Nat} (h : m ≠ n) :
    (∀ j < 2, (d.capRetrain n).fld (DC.IBR.LANE.STATE m j) = d.fld (DC.IBR.LANE.STATE m j)) ∧
      (d.capRetrain n).fld (DC.IBR.STAT.DN_STATE m) = d.fld (DC.IBR.STAT.DN_STATE m) := by
  refine ⟨fun j hj => ?_, ?_⟩ <;> unfold Dc.fld
  all_goals
    rw [Dc.capRetrain_word]
    all_goals simp only [DC.IBR.LANE.STATE, DC.IBR.STAT.DN_STATE, DC.IBR.LANE.addr, DC.IBR.STAT.addr]; omega

/-- After `capRetrain` of a port only that port's far ends follow. -/
theorem State.kept_putCapRetrain (s : State) (u : DcId) (n : Nat) : State.Kept (· = n) s (s.putDc u ((s.dc u).capRetrain n)) := by
  refine ((State.Kept.refl _ s).setDc u _).trans (kept_capFollow _ u _ fun m _ hm => ?_)
  obtain ⟨hup, hdn⟩ := (s.dc u).capRetrain_other (n := n) (m := m) hm
  simp only [State.dc_setDc_self, Dc.rxRun, Dc.dnRun, beq_iff_eq]
  exact ⟨fun j hj h5 => by rw [hup j hj, h5]; decide, fun h5 => by rw [hdn, h5]; decide⟩

theorem State.kept_decideFor (s : State) (u : DcId) (x : Dir) (dec rung n : Nat) : State.Kept (portsOf x) s ((s.decided x dec rung).faultNotice u dec n) :=
  (kept_decided s x dec rung).trans (kept_faultNotice _ u dec n)

theorem State.kept_retrainsAfter {P : Nat → Prop} {s t : State} (u : DcId) {n : Nat} (hn : P n) (h : State.Kept P s t) (f : Df) :
    State.Kept P s ((t.setDf n f).putDc u (((t.setDf n f).dc u).capRetrain n)) :=
  (h.setDf hn f).trans ((kept_putCapRetrain _ u n).mono fun _ e => e ▸ hn)

theorem State.kept_decisionApply (s : State) (u : DcId) (x : Dir) : State.Kept (portsOf x) s (s.decisionApply u x) := by
  unfold State.decisionApply
  cases x <;> dsimp only
  case up n l =>
    have decides (r : State) (k : Fin 4) (dec rung : Nat) :
        State.Kept (portsOf (.up n l)) r ((r.decided (.up n k) dec rung).faultNotice u dec n) := kept_decideFor r u (.up n k) dec rung n
    refine .ite (.refl _ s) (kept_retrainsAfter u (portsOf_up n l) (.foldl (.refl _ s) fun r j _ => ?_) _)
    exact .ite (decides r _ _ _) (.refl _ r)
  case down n h =>
    have decides (dec rung : Nat) := (kept_decideFor s u (.down n h) dec rung n).setDf (portsOf_down n h)
    exact .ite (.refl _ s) (.ite (.refl _ s) (decides _ _ _))
  case cause v l => exact .ite (.refl _ s) (.ite (kept_decided s _ _ _) (.refl _ s))

end Sys2Proof.Machine
end

section
namespace Sys2Proof.Machine

/-! ### What every command leaves -/

/-- The commands that answer a direct access (log entry 17). -/
def Answers : Instr → Prop
  | .registerWrite .. | .rcRead .. | .loReadLatch .. | .txqHead .. | .contextWrite .. | .epochSetGo .. | .portEn .. | .portTest .. | .laneTest ..
  | .injErr .. | .retry .. | .engineEn .. | .patternEn .. | .maskLoad .. | .lzdFlush .. | .foldStart .. | .foldData64 .. | .foldData32 ..
  | .foldValueWrite .. | .peatStoreEn .. | .logAck .. | .hkEn .. | .hkCalibration .. | .snap .. | .goCluster .. | .goRun .. | .done .. | .softReset ..
  | .rdl .. => True
  | _ => False

/-- What a command `c` leaves of a state `s` that it takes to `t`: the queue, the free values but for SESSION_OPEN, the last answer but for a direct access,
the chips outside its reach, and the canonical form of the table of DF640s. -/
structure Framed (c : Instr) (s t : State) : Prop where
  pending : t.pending = s.pending
  free : t.free = s.free ∨ (∃ u p x, c = .sessionOpen u p x) ∧ t.free = s.free + 1
  result : t.result = s.result ∨ Answers c
  reach : (reachOf c).keeps s t
  inv : s.Inv → t.Inv

theorem Ends.imp {c : Instr} {s : State} {P Q : State → Prop} (h : Ends c s P) (hPQ : ∀ t, P t → Q t) : Ends c s Q :=
  let ⟨t, ht, hp⟩ := h
  ⟨t, ht, hPQ t hp⟩

theorem otherUnit_ne (u : DcId) : otherUnit u ≠ u := by cases u <;> decide

theorem State.setDc_setDc (s : State) (u : DcId) (d e : Dc) : (s.setDc u d).setDc u e = s.setDc u e := by cases u <;> rfl

/-- The one port that a command of a DF640 or of a link names. -/
def isPort (n m : Nat) : Prop := m = n

theorem isPort_self (n : Nat) : isPort n n := rfl

namespace Framed
variable {c : Instr} {s t : State} {P : Nat → Prop}

theorem of_kept (h : State.Kept P s t) (hP : s.Inv → ∀ m, P m → m < 64) (hr : (reachOf c).keeps s t) : Framed c s t :=
  ⟨h.pending, .inl h.free, .inl h.result, hr, fun hi => h.inv (hP hi) hi⟩

/-- An answer changes the last answer alone. -/
theorem answer (ha : Answers c) (h : Framed c s t) (status : Nat) (w : Word) : Framed c s (t.answer status w) := by
  obtain ⟨hp, hf, -, hr, hi⟩ := h
  exact ⟨hp, hf, .inr ha, by cases hk : reachOf c <;> rw [hk] at hr <;> exact hr, hi⟩

theorem of_setDc {u : DcId} (hr : reachOf c = .dc u) (d : Dc) : Framed c s (s.setDc u d) :=
  of_kept (P := fun _ => False) ((State.Kept.refl _ s).setDc u d) (fun _ _ hm => hm.elim)
    (by rw [hr]; exact ⟨State.dc_setDc_ne _ _ _ _ (otherUnit_ne u), fun _ => State.df_setDc _ _ _ _⟩)

theorem of_setDf {n : Fin 64} (hr : reachOf c = .df n) (f : Df) : Framed c s (s.setDf n f) :=
  of_kept ((State.Kept.refl (isPort n) s).setDf rfl f) (fun _ _ hm => hm ▸ n.isLt)
    (by rw [hr]; exact ⟨fun _ => State.dc_setDf _ _ _ _, fun _ hm => State.df_setDf_ne _ _ _ _ hm⟩)

theorem of_link {n : Fin 64} (hr : reachOf c = .link n) (h : State.Kept (isPort n) s t) : Framed c s t :=
  of_kept h (fun _ _ hm => hm ▸ n.isLt) (by rw [hr]; exact fun m hm => h.df m hm)

theorem of_pair (hr : reachOf c = .pair) (h : State.Kept (fun _ => False) s t) : Framed c s t :=
  of_kept h (fun _ _ hm => hm.elim) (by rw [hr]; exact fun m => h.df m id)

theorem of_all (hr : reachOf c = .all) (h : State.Kept P s t) (hP : s.Inv → ∀ m, P m → m < 64) : Framed c s t :=
  of_kept h hP (by rw [hr]; trivial)

theorem of_dir {x : Dir} (hr : reachOf c = Reach.ofDir x) (h : State.Kept (portsOf x) s t) : Framed c s t := by
  cases x with
  | up n l => exact of_link hr h
  | down n l => exact of_link hr h
  | cause u l => exact of_pair hr h

end Framed

/-! One lemma per shape of a command: what `exec` makes of it, and its reach. -/

section Shapes
variable {c : Instr} {s : State}

theorem framed_setDc {u : DcId} {d : Dc} (hr : reachOf c = .dc u) (he : exec c s = .next (s.setDc u d)) : Ends c s (Framed c s) := ⟨_, he, .of_setDc hr _⟩

theorem framed_setDf {n : Fin 64} {f : Df} (hr : reachOf c = .df n) (he : exec c s = .next (s.setDf n f)) : Ends c s (Framed c s) := ⟨_, he, .of_setDf hr _⟩

theorem framed_dcDone {u : DcId} {x : Dc × Nat} (hr : reachOf c = .dc u) (ha : Answers c) (he : exec c s = .next (s.dcDone u x)) : Ends c s (Framed c s) :=
  ⟨_, he, .answer ha (.of_setDc hr _) _ _⟩

theorem framed_dfDone {n : Fin 64} {x : Df × Nat} (hr : reachOf c = .df n) (ha : Answers c) (he : exec c s = .next (s.dfDone n x)) : Ends c s (Framed c s) :=
  ⟨_, he, .answer ha (.of_setDf hr _) _ _⟩

theorem framed_seen {u : DcId} {d : Dc} (hr : reachOf c = .dc u) (he : exec c s = .next ((s.seeLog u).setDc u d)) : Ends c s (Framed c s) := by
  refine ⟨_, he, ?_⟩
  rw [State.seeLog, State.setDc_setDc]
  exact .of_setDc hr _

theorem framed_dir {x : Dir} {t : State} (hr : reachOf c = Reach.ofDir x) (he : exec c s = .next t) (h : State.Kept (portsOf x) s t) :
    Ends c s (Framed c s) := ⟨t, he, .of_dir hr h⟩

theorem framed_link {n : Fin 64} {t : State} (hr : reachOf c = .link n) (he : exec c s = .next t) (h : State.Kept (isPort n) s t) :
    Ends c s (Framed c s) := ⟨t, he, .of_link hr h⟩

theorem framed_cfgDone {u : DcId} {x : Dc × Nat} (hr : reachOf c = .all) (ha : Answers c) (he : exec c s = .next (s.cfgDone u x)) : Ends c s (Framed c s) :=
  ⟨_, he, .answer ha (.of_all hr (State.kept_putDc s u x.1) fun _ _ => id) _ _⟩

theorem framed_putDc {u : DcId} {d : Dc} (hr : reachOf c = .all) (he : exec c s = .next (s.putDc u d)) : Ends c s (Framed c s) :=
  ⟨_, he, .of_all hr (State.kept_putDc s u d) fun _ _ => id⟩

end Shapes

/-! ### The commands of a shape of their own -/

theorem framed_readOne {c : Instr} {s : State} {x : ChipRef} {req addr : Nat} (hr : reachOf c = Reach.chip x) (ha : Answers c)
    (he : exec c s = .next (s.readOne x req addr)) : Ends c s (Framed c s) := by
  refine ⟨_, he, ?_⟩
  cases x with
  | dc u => exact .answer ha (.of_setDc hr _) _ _
  | df n =>
    unfold State.readOne
    dsimp only
    split
    · exact .answer ha (.of_setDf hr _) _ _
    · exact .answer ha (.of_kept (State.Kept.refl (fun _ => False) s) (fun _ _ hm => hm.elim) (by rw [hr]; exact ⟨fun _ => rfl, fun _ _ => rfl⟩)) _ _

theorem framed_registerWriteDc (u : DcId) (req addr : Nat) (value : Word) (s : State) :
    Ends (.registerWrite (.dc u) req addr value) s (Framed (.registerWrite (.dc u) req addr value) s) := by
  refine ⟨_, rfl, ?_⟩
  have ha : Answers (.registerWrite (.dc u) req addr value) := trivial
  split
  · exact .answer ha (.of_all rfl (State.kept_putDc s u _) fun _ _ => id) _ _
  · exact .answer ha (.of_all rfl ((State.Kept.refl (· < 64) s).setDc u _) fun _ _ => id) _ _

theorem framed_uplinkBlockReceive (u : DcId) (n : Fin 64) (j : Fin 2) (k : Nat) (line : List Bool) (t fine : Nat) (s : State) :
    Ends (.uplinkBlockReceive u n j k line t fine) s (Framed (.uplinkBlockReceive u n j k line t fine) s) := by
  unfold Ends
  simp only [exec, execUplinkBlockReceive]
  split
  · split
    · exact ⟨_, rfl, .of_link rfl ((State.Kept.refl _ s).setDc u _)⟩
    · exact ⟨_, rfl, .of_link rfl (((State.Kept.refl _ s).setDc u _).trans (State.kept_moveUp _ (isPort_self n) _ _ _ _))⟩
    · exact ⟨_, rfl, .of_link rfl ((State.Kept.refl _ s).setDc u _)⟩
  · exact ⟨_, rfl, .of_link rfl (.refl _ s)⟩

theorem framed_dfFrameBoundary (x : DfBoundary) (s : State) : Ends (.dfFrameBoundary x) s (Framed (.dfFrameBoundary x) s) := by
  have hput := s.kept_putDf (isPort_self x.n) ((s.df x.n).frameBoundary x.loopEnd)
  exact framed_link rfl rfl (.ite (hput.trans (State.kept_noteGates _ _ _ _)) hput)

theorem framed_dcFrameBoundary (u : DcId) (s : State) : Ends (.dcFrameBoundary u) s (Framed (.dcFrameBoundary u) s) := by
  refine ⟨_, rfl, ?_⟩
  have hput := State.kept_putDc s u (s.dc u).frameBoundary
  refine .of_all (P := fun m => m < 64 ∨ m ∈ (s.putDc u (s.dc u).frameBoundary).dfs.map (·.1)) rfl
    ((hput.mono fun _ => .inl).trans ((State.kept_sleepPorts _ u).mono fun _ => .inr)) fun hi m hm => ?_
  obtain hm | hm := hm
  · exact hm
  · obtain ⟨p, hp, rfl⟩ := List.mem_map.mp hm
    exact (hput.inv (fun _ => id) hi).2 p hp

theorem framed_drainDatagram (u : DcId) (partner : Bool) (wrong : List Nat) (s : State) :
    Ends (.drainDatagram u partner wrong) s (Framed (.drainDatagram u partner wrong) s) := by
  unfold Ends
  simp only [exec, execDrainDatagram]
  have hsee := State.kept_seeLog (P := fun _ => False) s u
  split
  · exact ⟨_, rfl, .of_pair rfl hsee⟩
  · exact ⟨_, rfl, .of_pair rfl ((hsee.setDc _ _).setDc u _)⟩

theorem framed_mapRebuild (u : DcId) (wrong : List Nat) (s : State) : Ends (.mapRebuild u wrong) s (Framed (.mapRebuild u wrong) s) := by
  unfold Ends
  simp only [exec, execMapRebuild]
  have hs := State.Kept.refl (fun _ => False) s
  split
  · exact ⟨_, rfl, .of_pair rfl (hs.setDc u _)⟩
  · exact ⟨_, rfl, .of_pair rfl ((hs.setDc _ _).setDc u _)⟩
  · exact ⟨_, rfl, .of_pair rfl hs⟩

theorem framed_causewayBlockReceive (u : DcId) (l : Fin 4) (k : Nat) (line : List Bool) (t fine : Nat) (s : State) :
    Ends (.causewayBlockReceive u l k line t fine) s (Framed (.causewayBlockReceive u l k line t fine) s) := by
  unfold Ends
  simp only [exec, execCausewayBlockReceive]
  have hs := State.Kept.refl (fun _ => False) s
  split
  · exact ⟨_, rfl, .of_pair rfl ((hs.setDc u _).trans (.ite (State.kept_moveCause _ u _ _ _ _) (.refl _ _)))⟩
  · exact ⟨_, rfl, .of_pair rfl hs⟩

theorem framed_sessionOpen (u : DcId) (pkt : Pkt) (nonce : Nat) (s : State) : Ends (.sessionOpen u pkt nonce) s (Framed (.sessionOpen u pkt nonce) s) := by
  obtain ⟨hp, -, hres, hreach, hinv⟩ := Framed.of_setDc (c := .sessionOpen u pkt nonce) (s := s) rfl ((s.dc u).cmdSessionOpen pkt nonce s.free)
  exact ⟨_, rfl, hp, .inr ⟨⟨u, pkt, nonce, rfl⟩, rfl⟩, hres, hreach, hinv⟩

theorem framed_imageLoad (u : DcId) (image : List Nat) (fromPartner : Bool) (s : State) :
    Ends (.imageLoad u image fromPartner) s (Framed (.imageLoad u image fromPartner) s) := by
  unfold Ends
  simp only [exec, execImageLoad]
  split
  · refine ⟨_, rfl, ?_⟩
    split
    · exact .of_setDc rfl _
    · exact .of_kept (State.Kept.refl (fun _ => False) s) (fun _ _ hm => hm.elim) ⟨rfl, fun _ => rfl⟩
  · exact ⟨_, rfl, .of_setDc rfl _⟩

theorem exec_framed (c : Instr) (s : State) : Ends c s (Framed c s) := by
  cases c with
  | sleepSlotReceive | wakeSlotReceive | downlinkBlockSend | trigInEdge | ppsInEdge | ppsOutEdge | ppsOutEnd | alignment | ptpSyncReceive
  | ptpAnnounceReceive | delayReqSend | ptpDelayResponse | masterLoss | mireSlotWrite | frameIndexWrite | dramRefresh | wr | wru | unl
  | sequenceLeaseExpiry | tornRelease | rateSweep | calibrationEvaluation | wmWaitExpiry | groupEvaluation | soft | window | captureReady
  | fragmentClose | extractionComplete | ratePeriodEnd | qualifierFragmentArrival | codeRecord | recordSubmit | pageFlushTimeout | pageProgramDone
  | journalPageProgram | journalProgramDone | checkpointStart | checkpointDone | blockEraseDone | blockRelocation | pfail | peatResume | peatReplay
  | ackWaitTimeout | peatCheckpoint | peatFormat | peatFence | sramScrub | bucketLeak | scrubRead | memHeal | memRetire | heartbeatCheck | roleTimeout
  | stateCopySend | copyDeadline | ackDeadline | ownershipCheck | takeover | handover | gratuitousArp | pairHandover | pairForce | arpRequest
  | strangerFrame | rateLimitLeak | absynRead | sessionClose | noticeAck | noticeResend | forwarded | commandFrameSend | commandRetry | imageRetry
  | selftest | dramTrain | fill | coreStart | frontEndConfig | ledgerSettlement | ledgerStale | ptpFollowUpReceive | ethernetPortLinkChange
  | dramTemperatureReport | coreRestartDone | memHealComplete => exact framed_setDc rfl rfl
  | leadingEdge | vCrossing | validationWindowEnd | gateClose | trailingEdge | totSatTimeout | clampConduction | blcLimit | blankingEnd
  | sourceChangeBlankEnd | calibrationWindowEnd | refreshTimerExpiry | calRetryTimer | anchorDllLock | anchorDllUnlock | anchorRearm | rootLockLoss
  | rootLockReturn | injectionLaunch | hitComplete | dispatch | blockFlushTimeout | tussockEvaluation | ledgerEmit | laneSleep | wakeSlotSend
  | frameMarkerReceive | hkConversionSlot | hkCalibrationDone | hkPortClamp | biasEvaluation | monitorUpdate | leaseExpiry | echoTimeout | pinReset
  | listenTimeout | safeEntry | phaseSlewEnd | ibastRead | ibastWrite | ibastWriteBlock | lock | commit | abandon | take | sync | arm | disarm
  | inject | hkInject | linkStep | sleep | dormant | wake | echo => exact framed_setDf rfl rfl
  | epochSetGo | rdl | contextWrite | engineEn | patternEn | maskLoad | lzdFlush | foldStart | foldData64 | foldData32 | foldValueWrite | peatStoreEn
  | logAck | goCluster | goRun | snap => exact framed_dcDone rfl trivial rfl
  | retry | laneTest | hkEn | hkCalibration | done => exact framed_dfDone rfl trivial rfl
  | peatCredit | peatAck | peatRewind => exact framed_seen rfl rfl
  | uplinkSlotSend c | markerSlot c | tmrWalk c | powerOn c | brownOut c | powerRelease c | fuseLoad c | droopStep c | droopRecover c
  | patternWordCheck c => cases c with
    | dc u => exact framed_setDc rfl rfl
    | df n => exact framed_setDf rfl rfl
  | portEn | portTest => exact framed_cfgDone rfl trivial rfl
  | absynWrite | absynWriteBlock => exact framed_putDc rfl rfl
  | registerWrite c req addr value => cases c with
    | dc u => exact framed_registerWriteDc u req addr value s
    | df n => exact framed_dfDone rfl trivial rfl
  | injErr c n => cases c with
    | dc u => exact framed_cfgDone rfl trivial rfl
    | df n => exact framed_dfDone rfl trivial rfl
  | softReset c value => cases c with
    | dc u => exact framed_dcDone rfl trivial rfl
    | df n => exact framed_dfDone rfl trivial rfl
  | rcRead | loReadLatch | txqHead => exact framed_readOne rfl trivial rfl
  | markerMiss d => exact framed_dir rfl rfl (s.kept_markerMiss d)
  | laneLock d => exact framed_dir rfl rfl (s.kept_laneLock d)
  | lockTimeout d => exact framed_dir rfl rfl (s.kept_lockTimeout d)
  | trainPassEnd d errors inStep => exact framed_dir rfl rfl (s.kept_passEnd d errors inStep)
  | judgeWordAccept d word => exact framed_dir rfl rfl (s.kept_judgeWord d word)
  | decisionApply u d => exact framed_dir rfl rfl (s.kept_decisionApply u d)
  | stepEnd d => exact framed_dir rfl rfl (s.kept_stepEnd d)
  | faultTimeout d => exact framed_dir rfl rfl (s.kept_faultEnd d)
  | markerReceive u d word t fine => exact framed_dir rfl rfl (s.kept_marker u d word (1024 * t + fine))
  | downlinkRestart u n => exact framed_link rfl rfl (s.kept_downlinkRestart u (isPort_self n))
  | downlinkWake u n => exact framed_link rfl rfl (s.kept_downlinkWake u (isPort_self n))
  | clockSourceSwitch n => exact framed_link rfl rfl (s.kept_putDf (isPort_self n) _)
  | downlinkBlockReceive n d k line => exact framed_link rfl rfl (s.kept_putDf (isPort_self n) _)
  | dfFrameBoundary x => exact framed_dfFrameBoundary x s
  | uplinkBlockReceive u n j k line t fine => exact framed_uplinkBlockReceive u n j k line t fine s
  | dcFrameBoundary u => exact framed_dcFrameBoundary u s
  | drainDatagram u partner wrong => exact framed_drainDatagram u partner wrong s
  | mapRebuild u wrong => exact framed_mapRebuild u wrong s
  | causewayBlockReceive u l k line t fine => exact framed_causewayBlockReceive u l k line t fine s
  | sessionOpen u pkt nonce => exact framed_sessionOpen u pkt nonce s
  | imageLoad u image fromPartner => exact framed_imageLoad u image fromPartner s

end Sys2Proof.Machine
end

section
namespace Sys2Proof.Machine

/-! ### One tick -/

theorem FMap.nodup_keys {α : Type} (m : FMap α) (h : m.sorted = true) : (m.map (·.1)).Nodup := by
  induction m with
  | nil => exact .nil
  | cons p t ih =>
    obtain ⟨a, v⟩ := p
    simp only [FMap.sorted, Bool.and_eq_true, List.all_eq_true, decide_eq_true_eq] at h
    obtain ⟨hlt, ht⟩ := h
    refine List.nodup_cons.mpr ⟨fun ha => ?_, ih ht⟩
    obtain ⟨q, hq, rfl⟩ := List.mem_map.mp ha
    exact absurd (hlt q hq) (Nat.lt_irrefl _)

theorem FMap.get_of_key_notin {α : Type} (d : α) (m : FMap α) (k : Nat) (h : k ∉ m.map (·.1)) : FMap.get d m k = d :=
  FMap.get_of_notin d m k fun _ hp e => h (e ▸ List.mem_map_of_mem hp)

/-- The tick of one DF640 of the table. -/
def State.tickPort (s : State) (n : Nat) : State := s.setDf n (tickDf (s.df n))

theorem State.dc_tickPorts (s : State) (l : List Nat) (u : DcId) : (l.foldl tickPort s).dc u = s.dc u := by
  induction l generalizing s with
  | nil => rfl
  | cons n l ih => exact (ih _).trans (dc_setDf _ _ _ _)

/-- The ports of a list without repetition tick once each. -/
theorem State.df_tickPorts (s : State) (l : List Nat) (hl : l.Nodup) (m : Nat) :
    (l.foldl tickPort s).df m = if m ∈ l then tickDf (s.df m) else s.df m := by
  induction l generalizing s with
  | nil => rfl
  | cons n l ih =>
    obtain ⟨hn, hl⟩ := List.nodup_cons.mp hl
    rw [List.foldl_cons, ih _ hl]
    by_cases hm : m = n
    · subst hm
      simp [hn, tickPort]
    · simp [hm, tickPort, State.df_setDf_ne _ _ _ _ hm]

theorem State.kept_tickPorts (s : State) : State.Kept (fun m => m ∈ s.dfs.map (·.1)) s ((s.dfs.map (·.1)).foldl tickPort s) :=
  .foldl (.refl _ s) fun r _ hn => (State.Kept.refl _ r).setDf hn _

/-- The state whose DC64s have ticked. -/
def State.tickDcs (s : State) : State := { s with dc0 := tickDc s.dc0, dc1 := tickDc s.dc1 }

theorem State.tick_eq (s : State) : s.tick = (s.dfs.map (·.1)).foldl tickPort s.tickDcs := rfl

theorem tickDf_dfFresh : tickDf dfFresh = dfFresh := rfl

theorem State.dc_tick (s : State) (u : DcId) : s.tick.dc u = tickDc (s.dc u) := by
  rw [tick_eq, dc_tickPorts]
  cases u <;> rfl

/-- A port that the table does not list is as after its reset, where its root is not locked. -/
theorem State.df_tick (s : State) (hi : s.Inv) (n : Nat) : s.tick.df n = tickDf (s.df n) := by
  obtain ⟨hwf, -⟩ := hi
  have hsorted : s.dfs.sorted = true := (Bool.and_eq_true _ _ ▸ hwf).1
  rw [tick_eq, df_tickPorts _ _ (FMap.nodup_keys _ hsorted)]
  have hdf : s.tickDcs.df n = s.df n := rfl
  by_cases hn : n ∈ s.dfs.map (·.1)
  · rw [if_pos hn, hdf]
  · have hfresh : s.df n = dfFresh := FMap.get_of_key_notin dfFresh s.dfs n hn
    rw [if_neg hn, hdf, hfresh, tickDf_dfFresh]

theorem State.tick_inv (s : State) (hi : s.Inv) : s.tick.Inv := by
  refine s.tickDcs.kept_tickPorts.inv (fun m hm => ?_) hi
  obtain ⟨p, hp, rfl⟩ := List.mem_map.mp hm
  exact hi.2 p hp

/-! ### The statements of the scope -/

/-- Settles O1: no DF640 is listed after reset. -/
theorem resetHasTheInvariant : Obligations.ResetHasTheInvariant := by
  unfold Obligations.ResetHasTheInvariant
  exact ⟨rfl, fun _ hp => absurd hp List.not_mem_nil⟩

/-- Settles O2: a command keeps the invariant by its frame, and a tick changes listed ports alone. -/
theorem stepKeepsTheInvariant : Obligations.StepKeepsTheInvariant := by
  unfold Obligations.StepKeepsTheInvariant
  intro s t hi hstep
  unfold step at hstep
  split at hstep
  · cases hstep
    exact s.tick_inv hi
  · next c rest _ =>
    obtain ⟨t', ht', hframe⟩ := exec_framed c { s with pending := rest }
    rw [ht'] at hstep
    cases hstep
    exact hframe.inv hi

/-- Settles O3: by the definition of a step. -/
theorem stepRunsTheFrontCommand : Obligations.StepRunsTheFrontCommand := by
  unfold Obligations.StepRunsTheFrontCommand
  intro c s
  rfl

/-- Settles O4: each chip ticks by itself, and the tick of the table reaches every DF640 whose root is locked. -/
theorem idleStepIsOneTick : Obligations.IdleStepIsOneTick := by
  unfold Obligations.IdleStepIsOneTick
  intro s hi hp
  have hk := s.tickDcs.kept_tickPorts
  refine ⟨s.tick, by rw [step, hp], hk.pending.trans hp, hk.result, hk.free, fun u => ?_, fun n => ?_⟩
  · rw [s.dc_tick, tickDc]
  · rw [s.df_tick hi, tickDf]

/-- Settles O5: the reach of a command is a part of its frame. -/
theorem commandsStayInTheirReach : Obligations.CommandsStayInTheirReach := by
  unfold Obligations.CommandsStayInTheirReach
  exact fun c s => (exec_framed c s).imp fun _ h => h.reach

/-- Settles O6: queue, free values and answer are parts of the frame of a command. -/
theorem commandsLeaveTheQueue : Obligations.CommandsLeaveTheQueue := by
  unfold Obligations.CommandsLeaveTheQueue
  exact fun c s => (exec_framed c s).imp fun _ h => ⟨h.pending, h.free, h.result.imp_right id⟩

end Sys2Proof.Machine
end

section
/-! Two frames by parts and one access over Ibast that a number beyond its table refutes: of a source, of a receiver, of an owner. -/
namespace Sys2Proof.Machine

theorem Ends.dest {c : Instr} {s t : State} {P : State → Prop} (h : Ends c s P) (ht : exec c s = .next t) : P t := by
  obtain ⟨t', ht', hp⟩ := h
  rw [ht] at ht'
  cases ht'
  exact hp

/-! ### O7: a capture of a source beyond the table of captures -/

/-- A DC64 whose one capture names source 0x37FF0, beyond the registers of the sources: its violation counter falls on a word of the contexts. -/
def straySource : Dc :=
  { dcFresh 1 with qlf := { inq := [[0, 0, 0, 0, 0, 0, 0, 2 ^ 47]], caps := [{ source := 0x37FF0, force := true, hitsMin := 1 }] } }

theorem straySource_arrival_counts : straySource.qualifierArrival.word 0x40000C ≠ straySource.word 0x40000C := by decide +kernel

/-- Refutes O7: QUALIFIER_FRAGMENT_ARRIVAL counts a violation at the address of its capture's source, and no hypothesis keeps a source inside the
qualifier's registers; the word at 0x40000C lies in the contexts, which the command is not listed as changing. -/
theorem not_partsOfADc64StayAsTheyWere : ¬ Obligations.PartsOfADc64StayAsTheyWere := by
  unfold Obligations.PartsOfADc64StayAsTheyWere
  intro h
  have hends := h (.qualifierFragmentArrival .u0) { dc0 := straySource } _ rfl
  obtain ⟨-, hwords⟩ := hends.dest rfl .u0 .contexts (by decide)
  rw [State.dc_setDc_self] at hwords
  exact straySource_arrival_counts (hwords 0x40000C (by decide) (by decide))

/-! ### O8: a start-up that listens on a receiver beyond the two -/

/-- A DF640 in LISTEN whose start-up listens on receiver 0x1378: the state of that receiver falls on a word of the channels. -/
def strayListen : Df := { regs := [(0x40, 2), (0x41, 1), (0x1400, 15)], bt := { listen := 0x1378 } }

theorem strayListen_timeout_moves : strayListen.listenTimeout.word 0x1400 ≠ strayListen.word 0x1400 := by decide +kernel

/-- Refutes O8: LISTEN_TIMEOUT moves the receiver that the start-up listens on, and no hypothesis keeps its number below 2; the word at 0x1400 lies in
the channels, which the command is not listed as changing. -/
theorem not_partsOfADf640StayAsTheyWere : ¬ Obligations.PartsOfADf640StayAsTheyWere := by
  unfold Obligations.PartsOfADf640StayAsTheyWere
  rintro ⟨h, -⟩
  have hends := h (.listenTimeout 0) (State.reset.setDf 0 strayListen) _ rfl
  obtain ⟨-, -, -, -, hwords⟩ := hends.dest rfl 0 .channels (by decide)
  rw [State.df_setDf_self] at hwords
  exact strayListen_timeout_moves (hwords 0x1400 (by decide) (by decide))

/-! ### O54: a READ of a reserved owner -/

/-- A command frame of owner 8, which R413 leaves reserved. -/
def reservedOwner : FrameHdr := { k := 1, epoch := 0, identity := 5, owner := 8 }

theorem reservedOwner_read_refused :
    (dfFresh.takeFrame dfFresh.source (frameHeader opRead 1 0 5 8 :: [addrWord 0 0])).fld DF.CMD.LAST.STATUS ≠ 0 := by decide +kernel

/-- Refutes O54: its first clause promises status 0 for a READ of every owner below 16, and the model answers a READ of a reserved owner, 8 to 14, with
BAD_OPCODE. -/
theorem not_ibastRegisterAccess : ¬ Obligations.IbastRegisterAccess := by
  unfold Obligations.IbastRegisterAccess
  rintro ⟨hread, -⟩
  have hends := hread 0 reservedOwner 0 1 State.reset rfl (by decide) (by decide) rfl rfl rfl (by decide) (by decide) (by decide) (by decide) (by decide)
  obtain ⟨-, hstatus, -⟩ := hends.dest rfl
  rw [State.sourceFrame, State.frame, State.df_setDf_self] at hstatus
  exact reservedOwner_read_refused hstatus

end Sys2Proof.Machine
end

section
/-! Register reads and writes as commands: what one access answers and leaves (R12, R14 to R17, R47, R475, R477). -/
namespace Sys2Proof.Machine

/-! ### Words -/

/-- A word cleared where a W1C field was written 1 keeps its disjoint fields. -/
theorem fieldOf_clear_disjoint (w v : Word) (lo width lo' width' : Nat) (h' : lo' + width' ≤ 32) (hd : lo' + width' ≤ lo ∨ lo + width ≤ lo') :
    fieldOf (w &&& ~~~(v &&& maskW lo width)) lo' width' = fieldOf w lo' width' := by
  apply Nat.eq_of_testBit_eq
  intro i
  rw [fieldOf_bit, fieldOf_bit]
  by_cases hi : i < width'
  · have hbit : lo' + i < 32 := by omega
    have hout : ¬(lo ≤ lo' + i ∧ lo' + i < lo + width) := by omega
    simp only [BitVec.getLsbD_and, BitVec.getLsbD_not, maskW_bit _ _ _ hbit, hbit, ← Bool.decide_and, hout]
    simp
  · simp [hi]

theorem fieldOf_bit_one (w : Word) (lo : Nat) : fieldOf w lo 1 = (w.getLsbD lo).toNat := by
  apply Nat.eq_of_testBit_eq
  intro i
  rw [fieldOf_bit, Nat.testBit_bool_toNat]
  cases i <;> simp

/-- A one-bit W1C field is cleared by a 1 alone. -/
theorem fieldOf_clear_self (w v : Word) (lo : Nat) (h : lo < 32) :
    fieldOf (w &&& ~~~(v &&& maskW lo 1)) lo 1 = if fieldOf v lo 1 = 1 then 0 else fieldOf w lo 1 := by
  simp only [fieldOf_bit_one, BitVec.getLsbD_and, BitVec.getLsbD_not, maskW_bit _ _ _ h, h]
  cases v.getLsbD lo <;> cases w.getLsbD lo <;> simp

theorem withField_whole (w v : Word) : withField w 0 32 (fieldOf v 0 32) = v := by
  apply BitVec.eq_of_getLsbD_eq
  intro i hi
  rw [withField_bit w 0 32 _ i hi, if_pos (by omega), Nat.sub_zero, fieldOf_bit]
  simp [hi]

theorem Df.word_setWord_same (d : Df) (a b : Nat) : (d.setWord a (d.word a)).word b = d.word b := by
  by_cases h : b = a
  · rw [h, Df.word_setWord_self]
  · exact Df.word_setWord_ne _ _ _ _ h

theorem Dc.word_setWord_same (d : Dc) (a b : Nat) : (d.setWord a (d.word a)).word b = d.word b := by
  by_cases h : b = a
  · rw [h, Dc.word_setWord_self]
  · exact Dc.word_setWord_ne _ _ _ _ h

/-! ### One access of each chip -/

theorem Dc.busWrite_unmapped (d : Dc) (a : Nat) (v : Word) (h : dcMapped a 1 = false) : d.busWrite a v = (d, stBadParam) := by simp [Dc.busWrite, h]

theorem Dc.busWrite_refused (d : Dc) (a : Nat) (v : Word) (hm : dcMapped a 1) (h : d.writeStatus a v ≠ 0) : d.busWrite a v = (d, d.writeStatus a v) := by
  simp [Dc.busWrite, hm, h]

theorem Dc.busWrite_accepted (d : Dc) (a : Nat) (v : Word) (hm : dcMapped a 1) (h : d.writeStatus a v = 0) : d.busWrite a v = (d.putReg a v, 0) := by
  simp [Dc.busWrite, hm, h]

theorem Df.writeReg_refused (d : Df) (a : Nat) (v : Word) (hm : dfMapped a 1) (h : d.writeStatus a v ≠ 0) : d.writeReg a v = (d, d.writeStatus a v) := by
  simp [Df.writeReg, hm, h]

theorem Df.writeReg_accepted (d : Df) (a : Nat) (v : Word) (hm : dfMapped a 1) (h : d.writeStatus a v = 0) : d.writeReg a v = (d.putReg a v, 0) := by
  simp [Df.writeReg, hm, h]

/-- The latches that a read of `a` by a requester takes. -/
def Dc.takeLatches (d : Dc) (req a : Nat) : Dc :=
  (dcLatched a).foldl (fun (d : Dc) (h : Nat) => { d with latch := FMap.put 0 d.latch (dcLatchKey req h) (d.shown h) }) d

theorem Dc.takeLatches_none (d : Dc) (req a : Nat) (h : dcLatched a = []) : d.takeLatches req a = d := by rw [Dc.takeLatches, h]; rfl

/-- Latches change nothing but latches. -/
theorem Dc.takeLatches_frame (d : Dc) (req a : Nat) : ∃ l, d.takeLatches req a = { d with latch := l } := by
  unfold Dc.takeLatches
  generalize dcLatched a = hs
  induction hs generalizing d with
  | nil => exact ⟨_, rfl⟩
  | cons h hs ih =>
    obtain ⟨l, hl⟩ := ih { d with latch := FMap.put 0 d.latch (dcLatchKey req h) (d.shown h) }
    exact ⟨l, hl⟩

theorem Dc.word_takeLatches (d : Dc) (req a b : Nat) : (d.takeLatches req a).word b = d.word b := by
  obtain ⟨l, hl⟩ := d.takeLatches_frame req a
  rw [hl]
  rfl

theorem Dc.now_takeLatches (d : Dc) (req a : Nat) : (d.takeLatches req a).now = d.now := by
  obtain ⟨l, hl⟩ := d.takeLatches_frame req a
  rw [hl]

/-- A read of a `_LO` register latches what its `_HI` register shows. -/
theorem Dc.latch_takeLatches (d : Dc) (req a : Nat) (h : latchingLo a) :
    FMap.get 0 (d.takeLatches req a).latch (dcLatchKey req (a + 4)) = d.shown (a + 4) := by
  have hne : dcLatchKey req (a + 4) ≠ dcLatchKey req (a + 8) := by unfold dcLatchKey; omega
  unfold Dc.takeLatches dcLatched
  split
  · simp [FMap.get_put_ne _ _ _ _ _ hne]
  · simp

/-- A read of a DC64 register outside `TXQ_HEAD`: it takes the latches, clears the RC fields unless the state copy reads, and gives the latch of a latched register. -/
theorem Dc.readReg_eq (d : Dc) (req a : Nat) (x : RegDesc) (hx : findReg dcTable a = some x) (hq : a ≠ DC.TIME.TXQ_HEAD.addr) :
    d.readReg req a =
      (if req = 9 then d.takeLatches req a else (d.takeLatches req a).setWord a (x.cleared (d.word a)),
        if dcIsLatched a then FMap.get 0 d.latch (dcLatchKey req a) else x.readable (d.shown a)) := by
  rw [← d.word_takeLatches req a a]
  simp only [Dc.readReg, hx, hq, false_and, if_false, Dc.takeLatches]

/-- A read of a DF640 register but `CQ_PEAK`. -/
theorem Df.readReg_eq (d : Df) (owner a : Nat) (x : RegDesc) (hx : findReg dfTable a = some x) (hq : a ≠ DF.HIT.CQ_PEAK.addr) :
    d.readReg owner a true =
      ((match dfLatched a with | some h => { d with latch := d.latch.put 0 (latchKey owner h) (d.shown h) } | none => d).setWord a (x.cleared (d.word a)),
        if dfIsLatched a then FMap.get 0 d.latch (latchKey owner a) else x.readable (d.shown a)) := by
  simp only [Df.readReg, hx, hq, and_false, if_true, if_false]
  cases dfLatched a <;> rfl

/-! ### The accesses as commands -/

section Commands
variable {c : Instr} {s : State}

theorem ends_writeDc {u : DcId} {r a : Nat} {w : Word} {d : Dc} {st : Nat} (hc : elemOf (DC.IBR.CFG.addr 0) 64 64 a = none)
    (hx : (s.dc u).busWrite a w = (d, st)) : Ends (.registerWrite (.dc u) r a w) s fun t => t.dc u = d ∧ t.result = (st, 0) := by
  refine ⟨_, rfl, ?_⟩
  rw [hc, hx]
  simp [State.dcDone]

theorem ends_writeDf {n : Fin 64} {r a : Nat} {w : Word} {d : Df} {st : Nat} (hx : (s.df n).writeReg a w = (d, st)) :
    Ends (.registerWrite (.df n) r a w) s fun t => t.df n = d ∧ t.result = (st, 0) := by
  refine ⟨_, rfl, ?_⟩
  rw [hx]
  simp [State.dfDone]

theorem ends_readDc {u : DcId} {r a : Nat} (he : exec c s = .next (s.readOne (.dc u) r a)) (hm : dcMapped a 1) (hp : (s.dc u).readPoison a = false) :
    Ends c s fun t => t.dc u = ((s.dc u).readReg r a).1 ∧ t.result = (0, ((s.dc u).readReg r a).2) := by
  have hbus : (s.dc u).busRead r a 1 = (((s.dc u).readReg r a).1, stOk, [((s.dc u).readReg r a).2]) := by
    simp [Dc.busRead, hm, hp, Dc.readRegs]
  refine ⟨_, he, ?_⟩
  simp [State.readOne, hbus, stOk]

theorem ends_readDf {n : Fin 64} {r a : Nat} (he : exec c s = .next (s.readOne (.df n) r a)) (hm : dfMapped a 1) :
    Ends c s fun t => t.df n = ((s.df n).readReg r a true).1 ∧ t.result = (0, ((s.df n).readReg r a true).2) := by
  refine ⟨_, he, ?_⟩
  simp [State.readOne, hm, stOk]

end Commands

end Sys2Proof.Machine
end

section
namespace Sys2Proof.Machine

/-! ### Reserved offsets of the DC64 -/

/-- Every element of an array of the table is a register. -/
theorem findReg_element {t : List RegDesc} {base n stride i : Nat} (h : ∃ x ∈ t, x.base = base ∧ x.dims = [(0, n, stride)]) (hi : i < n) (hs : 0 < stride) :
    findReg t (base + stride * i) ≠ none := by
  obtain ⟨x, hx, hbase, hdims⟩ := h
  have hcov : x.covers (base + stride * i) = true := by simp [RegDesc.covers, hbase, hdims, dimsCover, hi, hs]
  exact fun hnone => absurd hcov (by simpa using List.find?_eq_none.mp hnone x hx)

theorem findReg_pctrl (j : Nat) (hj : j < 512) : findReg dcTable (DC.TRG.PCTRL.addr j) ≠ none := findReg_element (by decide +kernel) hj (by decide)

theorem foldRow_exists : ∀ o < 12, ∃ x ∈ dcTable, x.base = 0x9000 + 4 * o ∧ x.dims = [(0, 16, 64)] := by decide +kernel

/-- The offsets of a Fold context that the table leaves reserved lie above its last register. -/
theorem foldOffset_of_reserved (a : Nat) (hlo : 0x9000 ≤ a) (hhi : a < 0x9400) (aligned : a % 4 = 0) (h : findReg dcTable a = none) : 0x30 ≤ a % 64 := by
  refine Nat.le_of_not_lt fun ho => ?_
  have hreg := findReg_element (foldRow_exists (a % 64 / 4) (by omega)) (i := (a - 0x9000) / 64) (by omega) (by decide)
  rw [show 0x9000 + 4 * (a % 64 / 4) + 64 * ((a - 0x9000) / 64) = a by omega] at hreg
  exact hreg h

theorem elemOf_eq_some {base n stride a i : Nat} (h : elemOf base n stride a = some i) : i < n ∧ a = base + stride * i := by
  unfold elemOf at h
  split at h
  · next hc =>
    obtain ⟨hb, ht, hm⟩ := hc
    cases h
    refine ⟨Nat.div_lt_of_lt_mul (by rw [Nat.mul_comm]; omega), ?_⟩
    have := Nat.mul_div_cancel' (Nat.dvd_of_mod_eq_zero hm)
    omega
  · cases h

theorem Dc.store_reserved (d : Dc) (a : Nat) (v : Word) (h : findReg dcTable a = none) : d.store a v = d := by rw [Dc.store, h]

theorem Dc.foldWrite_reserved (d : Dc) (x o : Nat) (v : Word) (h : findReg dcTable (0x9000 + 64 * x + o) = none) (ho : 0x30 ≤ o) : d.foldWrite x o v = d := by
  have h0 : ¬o = 0 := by omega
  have h1 : ¬(o = 0x1C ∨ o = 0x20) := by omega
  have h2 : ¬o < 0x14 := by omega
  have h3 : ¬o = 0x24 := by omega
  have h4 : ¬o = 0x28 := by omega
  have h5 : ¬o = 0x2C := by omega
  simp only [Dc.foldWrite, h0, h1, h2, h3, h4, h5, if_false, Dc.store_reserved _ _ _ h]

/-- The single registers of the DC64 whose write starts something. -/
def startingRegs : List Nat :=
  [DC.TRG.CTRL.addr, DC.TRG.SEQ_LO.addr, DC.TRG.SEQ_HI.addr, DC.PEAT.CTRL.addr, DC.PEAT.SOFT_RES.addr, DC.BOOT.RESET.addr, DC.MEM.LOG_ACK.addr,
    DC.QLF.MASK_CTRL.addr, DC.BOOT.CTRL.addr, DC.TIME.SET_HI.addr, DC.CMP.CTRL.addr, DC.TIME.PPS_CTRL.addr, DC.LDG.CTRL.addr]

/-- A write to a register that starts nothing stores its word; a computed bucket ignores it. -/
theorem Dc.putReg_store (d : Dc) (a : Nat) (v : Word) (hw : inWindow a = false) (hfold : ¬(0x9000 ≤ a ∧ a < 0x9400)) (hs : a ∉ startingRegs)
    (hp : elemOf (DC.TRG.PCTRL.addr 0) 512 256 a = none) (hc : elemOf (DC.IBR.CFG.addr 0) 64 64 a = none) :
    d.putReg a v = if (elemOf (DC.MEM.BUCKET.addr 10) 6 4 a).isSome then d else d.store a v := by
  simp only [startingRegs, List.mem_cons, List.not_mem_nil, or_false, not_or] at hs
  obtain ⟨trg, seqLo, seqHi, peat, softRes, reset, logAck, mask, boot, setHi, cmp, pps, ldg⟩ := hs
  unfold Dc.putReg
  rw [if_neg (by simp [hw]), if_neg hfold]
  by_cases hbucket : (elemOf (DC.MEM.BUCKET.addr 10) 6 4 a).isSome
  · rw [if_pos hbucket, if_pos hbucket]
  · rw [if_neg hbucket, if_neg hbucket, if_neg trg, if_neg seqLo, if_neg seqHi, if_neg peat, if_neg softRes, if_neg reset, if_neg logAck, hp, hc]
    dsimp only
    rw [if_neg mask, if_neg boot, if_neg fun e => setHi e.1, if_neg cmp, if_neg pps, if_neg fun e => ldg e.1]

/-- A write at a reserved offset changes nothing (R475). -/
theorem Dc.putReg_reserved (d : Dc) (a : Nat) (v : Word) (hm : dcMapped a 1) (h : findReg dcTable a = none) (hw : inWindow a = false)
    (hc : elemOf (DC.IBR.CFG.addr 0) 64 64 a = none) : d.putReg a v = d := by
  by_cases hfold : 0x9000 ≤ a ∧ a < 0x9400
  · have aligned : a % 4 = 0 := by
      simp only [dcMapped, Bool.and_eq_true, beq_iff_eq] at hm
      exact hm.1
    obtain ⟨hlo, hhi⟩ := hfold
    unfold Dc.putReg
    rw [if_neg (by simp [hw]), if_pos ⟨hlo, hhi⟩]
    exact d.foldWrite_reserved _ _ v (by rwa [show 0x9000 + 64 * ((a - 0x9000) / 64) + a % 64 = a by omega])
      (foldOffset_of_reserved a hlo hhi aligned h)
  · have registers : ∀ b ∈ startingRegs, findReg dcTable b ≠ none := by decide +kernel
    have hp : elemOf (DC.TRG.PCTRL.addr 0) 512 256 a = none := by
      refine Option.eq_none_iff_forall_ne_some.mpr fun j hj => ?_
      obtain ⟨hlt, rfl⟩ := elemOf_eq_some hj
      exact findReg_pctrl j hlt h
    rw [d.putReg_store a v hw hfold (fun hs => registers a hs h) hp hc, d.store_reserved a v h, ite_self]

/-! ### Plain registers of the DC64 -/

/-- The registers of the start-up and Absyn blocks whose write is checked against the state (R436, R438, R443, R451). -/
def checkedRegs : List Nat := [DC.BOOT.CTRL.addr, DC.BOOT.RESET.addr, DC.BOOT.DROOP_CFG.addr]

theorem elemOf_of_lt {base n stride a : Nat} (h : a < base) : elemOf base n stride a = none := if_neg fun hc => absurd h (Nat.not_lt.mpr hc.1)

/-- A write to a register of the lowest blocks that starts nothing and is not checked against the state stores its word as the access codes say (R14). -/
theorem Dc.busWrite_plain (d : Dc) (a : Nat) (v : Word) (x : RegDesc) (hx : findReg dcTable a = some x) (hm : dcMapped a 1) (hlow : a < 0x3000)
    (hs : a ∉ startingRegs) (hc : a ∉ checkedRegs) (hr : x.refuses v = false) : d.busWrite a v = (d.setWord a (x.written (d.word a) v), 0) := by
  have bucket : elemOf (DC.MEM.BUCKET.addr 10) 6 4 a = none := elemOf_of_lt (by unfold DC.MEM.BUCKET.addr; omega)
  have window : inWindow a = false := decide_eq_false fun h => absurd h.1 (by unfold ctxWindow; omega)
  have misc (m : Dc) : d.miscStatus m a v = stOk := by
    simp only [checkedRegs, List.mem_cons, List.not_mem_nil, or_false, not_or] at hc
    obtain ⟨ctrl, reset, droop⟩ := hc
    have above (b : Nat) (hb : 0x3000 ≤ b) : a ≠ b := by omega
    unfold Dc.miscStatus
    rw [if_neg ctrl, if_neg reset, if_neg droop, if_neg (above DC.PAIR.CFG.addr (by decide)), if_neg fun e => above DC.TIME.SET_HI.addr (by decide) e.1,
      if_neg (above DC.PEAT.CTRL.addr (by decide)), if_neg (above DC.PEAT.SOFT_RES.addr (by decide)), if_neg (by omega), if_neg (by omega)]
  have status : d.writeStatus a v = 0 := by
    unfold Dc.writeStatus Dc.statusIn
    rw [hx]
    dsimp only
    rw [bucket, if_neg (by simp), if_neg (by simp [hr]), if_neg (by omega)]
    exact misc _
  rw [d.busWrite_accepted a v hm status, d.putReg_store a v window (by omega) hs (elemOf_of_lt (by unfold DC.TRG.PCTRL.addr; omega))
    (elemOf_of_lt (by unfold DC.IBR.CFG.addr; omega)), bucket, Dc.store, hx]
  rfl

/-- An accepted write of `SVC_IP` stores the word written. -/
theorem Dc.busWrite_svcIp (d : Dc) (v : Word) : d.busWrite DC.ABS.SVC_IP.addr v = (d.setWord DC.ABS.SVC_IP.addr v, 0) := by
  rw [d.busWrite_plain DC.ABS.SVC_IP.addr v ⟨0x2008, [], [⟨0, 32, .rw, 0, false, []⟩]⟩ (by decide +kernel) (by decide) (by decide) (by decide) (by decide)
    (by simp [RegDesc.refuses])]
  exact congrArg (fun w => (d.setWord _ w, 0)) (withField_whole _ v)

/-- A write of `IMAGE_VER`, a read-only register, is accepted and stores its word as it stands. -/
theorem Dc.busWrite_imageVer (d : Dc) (v : Word) :
    d.busWrite DC.BOOT.IMAGE_VER.addr v = (d.setWord DC.BOOT.IMAGE_VER.addr (d.word DC.BOOT.IMAGE_VER.addr), 0) :=
  d.busWrite_plain DC.BOOT.IMAGE_VER.addr v ⟨0x100c, [], [⟨0, 32, .ro, 0, false, []⟩]⟩ (by decide +kernel) (by decide) (by decide) (by decide) (by decide)
    (by simp [RegDesc.refuses])

end Sys2Proof.Machine
end

section
namespace Sys2Proof.Machine

/-! ### The rows of two arrays of the DF640 -/

/-- A row whose registers lie outside the addresses from `lo` up to `hi`. -/
def RegDesc.outside (x : RegDesc) (lo hi : Nat) : Bool :=
  decide (hi ≤ x.base) || match x.dims with
    | [] => decide (x.base < lo)
    | (first, count, stride) :: _ => decide (0 < stride) && decide (x.base + stride * (first + count) ≤ lo)

theorem RegDesc.not_covers_of_outside {x : RegDesc} {lo hi a : Nat} (h : x.outside lo hi) (hlo : lo ≤ a) (hhi : a < hi) : x.covers a = false := by
  refine Bool.eq_false_iff.mpr fun hc => ?_
  simp only [RegDesc.covers, Bool.and_eq_true, decide_eq_true_eq] at hc
  obtain ⟨hbase, hdims⟩ := hc
  unfold RegDesc.outside at h
  rcases hx : x.dims with _ | ⟨⟨first, count, stride⟩, dims⟩
  · simp only [hx, dimsCover, beq_iff_eq, Bool.or_eq_true, decide_eq_true_eq] at h hdims
    omega
  · simp only [hx, dimsCover, Bool.or_eq_true, Bool.and_eq_true, decide_eq_true_eq] at h hdims
    obtain h | ⟨hs, h⟩ := h
    · omega
    · have := (Nat.div_lt_iff_lt_mul hs).mp hdims.1.2
      rw [Nat.mul_comm] at this
      omega

/-- A table's row `i` holds an address that it covers and that the rows before it lie outside. -/
theorem findReg_row {t : List RegDesc} {x : RegDesc} {lo hi a : Nat} (i : Nat) (hx : t[i]? = some x) (hpre : (t.take i).all (·.outside lo hi) = true)
    (hc : x.covers a = true) (hlo : lo ≤ a) (hhi : a < hi) : findReg t a = some x := by
  obtain ⟨hi', hget⟩ := List.getElem?_eq_some_iff.mp hx
  refine List.find?_eq_some_iff_getElem.mpr ⟨hc, i, hi', hget, fun j hj => ?_⟩
  have hmem : t[j] ∈ t.take i := List.mem_take_iff_getElem.mpr ⟨j, by omega, rfl⟩
  simp [RegDesc.not_covers_of_outside (List.all_eq_true.mp hpre _ hmem) hlo hhi]

/-- The row of `DF.REED.ANCHOR`. -/
def anchorRow : RegDesc :=
  ⟨0x2010, [(0, 8, 1)], [⟨0, 1, .rw, 0, true, []⟩, ⟨1, 3, .rw, 0, true, []⟩, ⟨4, 1, .rw, 0, true, []⟩, ⟨5, 1, .ro, 0, false, []⟩, ⟨6, 1, .w1c, 0, false, []⟩]⟩

/-- The row of `DF.AFE.CH`. -/
def channelRow : RegDesc :=
  ⟨0x1400, [(0, 640, 1)], [⟨0, 2, .rw, 0, true, [(3, 3)]⟩, ⟨2, 1, .rw, 0, true, []⟩, ⟨3, 2, .rw, 2, true, [(3, 3)]⟩, ⟨5, 6, .rw, 0, true, []⟩, ⟨11, 6, .rw, 0, true, []⟩,
    ⟨17, 4, .rw, 0, false, []⟩, ⟨30, 1, .w1c, 0, false, []⟩, ⟨31, 1, .w1c, 0, false, []⟩]⟩

theorem findReg_anchor (k : Fin 8) : findReg dfTable (DF.REED.ANCHOR.addr k) = some anchorRow := by
  have hk := k.isLt
  refine findReg_row (lo := 0x2010) (hi := 0x2018) (dfTable.idxOf anchorRow) (by decide +kernel) (by decide +kernel) ?_ ?_ ?_
  · simp [RegDesc.covers, anchorRow, dimsCover, DF.REED.ANCHOR.addr, Nat.mod_one]
  · unfold DF.REED.ANCHOR.addr; omega
  · unfold DF.REED.ANCHOR.addr; omega

theorem findReg_channel (ch : Fin 640) : findReg dfTable (DF.AFE.CH.addr ch) = some channelRow := by
  have hch := ch.isLt
  refine findReg_row (lo := 0x1400) (hi := 0x1680) (dfTable.idxOf channelRow) (by decide +kernel) (by decide +kernel) ?_ ?_ ?_
  · simp [RegDesc.covers, channelRow, dimsCover, DF.AFE.CH.addr, Nat.mod_one]
  · unfold DF.AFE.CH.addr; omega
  · unfold DF.AFE.CH.addr; omega

/-! ### Writes of an anchor and of a channel -/

theorem fieldOf_withField_fieldOf (w v : Word) (lo width : Nat) (h : lo + width ≤ 32) :
    fieldOf (withField w lo width (fieldOf v lo width)) lo width = fieldOf v lo width := by
  rw [fieldOf_withField _ _ _ _ h, Nat.mod_eq_of_lt (fieldOf_lt v lo width)]

theorem anchorRow_written_unlock (w v : Word) : fieldOf (anchorRow.written w v) 6 1 = if fieldOf v 6 1 = 1 then 0 else fieldOf w 6 1 := by
  simp [RegDesc.written, anchorRow, fieldOf_clear_self, fieldOf_withField_disjoint]

theorem anchorRow_written_locked (w v : Word) : fieldOf (anchorRow.written w v) 5 1 = fieldOf w 5 1 := by
  simp [RegDesc.written, anchorRow, fieldOf_clear_disjoint, fieldOf_withField_disjoint]

theorem anchorRow_written_src (w v : Word) : fieldOf (anchorRow.written w v) 0 1 = fieldOf v 0 1 := by
  simp [RegDesc.written, anchorRow, fieldOf_clear_disjoint, fieldOf_withField_disjoint, fieldOf_withField_fieldOf]

theorem channelRow_written_mode (w v : Word) : fieldOf (channelRow.written w v) 0 2 = fieldOf v 0 2 := by
  simp [RegDesc.written, channelRow, fieldOf_clear_disjoint, fieldOf_withField_disjoint, fieldOf_withField_fieldOf]

theorem channelRow_written_tTrim (w v : Word) : fieldOf (channelRow.written w v) 5 6 = fieldOf v 5 6 := by
  simp [RegDesc.written, channelRow, fieldOf_clear_disjoint, fieldOf_withField_disjoint, fieldOf_withField_fieldOf]

/-- The single registers of a DF640 whose write starts something. -/
def dfStartingRegs : List Nat :=
  [DF.LINK.TEST.addr, DF.HK.CTRL.addr, DF.HK.PORTS.addr, DF.HK.MON_CFG.addr 0, DF.HK.MON_CFG.addr 1, DF.BOOT.CTRL.addr, DF.BOOT.RESET.addr]

theorem Df.writeEffect_none (d : Df) (a : Nat) (v old : Word) (hch : elemOf (DF.AFE.CH.addr 0) 640 1 a = none)
    (hreed : elemOf (DF.REED.CH.addr 0) 632 1 a = none) (hs : a ∉ dfStartingRegs) : d.writeEffect a v old = d := by
  simp only [dfStartingRegs, List.mem_cons, List.not_mem_nil, or_false, not_or] at hs
  obtain ⟨test, hk, ports, mon0, mon1, boot, reset⟩ := hs
  unfold Df.writeEffect
  rw [hch, hreed]
  dsimp only
  rw [if_neg test, if_neg hk, if_neg ports, if_neg mon0, if_neg mon1, if_neg boot, if_neg reset]

/-- A write of an anchor's register starts nothing beside the word that it stages (R47). -/
theorem Df.putReg_anchor (d : Df) (k : Fin 8) (v : Word) :
    d.putReg (DF.REED.ANCHOR.addr k) v =
      { d.setWord (DF.REED.ANCHOR.addr k) (anchorRow.written (d.word (DF.REED.ANCHOR.addr k)) v) with pend := true } := by
  have starts : ∀ k : Fin 8, elemOf (DF.AFE.CH.addr 0) 640 1 (DF.REED.ANCHOR.addr k) = none ∧ elemOf (DF.REED.CH.addr 0) 632 1 (DF.REED.ANCHOR.addr k) = none ∧
      DF.REED.ANCHOR.addr k ∉ dfStartingRegs := by decide
  obtain ⟨hch, hreed, hs⟩ := starts k
  have effect (d : Df) (old : Word) : d.writeEffect (DF.REED.ANCHOR.addr k) v old = d := d.writeEffect_none _ v old hch hreed hs
  have stages : anchorRow.stages = true := rfl
  simp [Df.putReg, findReg_anchor, stages, effect]

/-- A write of a channel's register stages it, and sets again the sticky bits whose condition holds (R478). -/
theorem Df.putReg_channel (d : Df) (ch : Fin 640) (v : Word) :
    d.putReg (DF.AFE.CH.addr ch) v =
      Df.holdSticky { d.setWord (DF.AFE.CH.addr ch) (channelRow.written (d.word (DF.AFE.CH.addr ch)) v) with pend := true } ch := by
  have elem : elemOf (DF.AFE.CH.addr 0) 640 1 (DF.AFE.CH.addr ch) = some ch.val := by
    have hch := ch.isLt
    unfold elemOf DF.AFE.CH.addr
    exact (if_pos ⟨by omega, by omega, by omega⟩).trans (congrArg some (by omega))
  have stages : channelRow.stages = true := rfl
  simp [Df.putReg, findReg_channel, stages, Df.writeEffect, elem]

/-- Setting the sticky bits of a channel again changes those two fields alone. -/
theorem Df.holdSticky_frame (d : Df) (ch : Nat) :
    (d.holdSticky ch).eff = d.eff ∧ (d.holdSticky ch).pend = d.pend ∧ (∀ a, a ≠ DF.AFE.CH.addr ch → (d.holdSticky ch).word a = d.word a) ∧
      ∀ g : Fd, g.lo + g.width ≤ 30 → (d.holdSticky ch).fld g = d.fld g := by
  have clamp (d : Df) (g : Fd) (h : g.lo + g.width ≤ 30) : (d.set (DF.AFE.CH.CLAMP ch) 1).fld g = d.fld g :=
    Df.fld_set_apart d _ g 1 (by unfold Fd.fits; omega) (.inr (.inr (show g.lo + g.width ≤ 31 by omega)))
  have limit (d : Df) (g : Fd) (h : g.lo + g.width ≤ 30) : (d.set (DF.AFE.CH.BLC_LIM ch) 1).fld g = d.fld g :=
    Df.fld_set_apart d _ g 1 (by unfold Fd.fits; omega) (.inr (.inr h))
  have word (d : Df) (f : Fd) (a : Nat) (h : a ≠ f.addr) : (d.set f 1).word a = d.word a := Df.word_setWord_ne _ _ _ _ h
  unfold Df.holdSticky
  dsimp only
  refine ⟨?_, ?_, fun a ha => ?_, fun g hg => ?_⟩
  · repeat' split
    all_goals rfl
  · repeat' split
    all_goals rfl
  · repeat' split
    all_goals simp [word, ha, DF.AFE.CH.CLAMP, DF.AFE.CH.BLC_LIM]
  · repeat' split
    all_goals simp [clamp, limit, hg]

end Sys2Proof.Machine
end

section
namespace Sys2Proof.Machine

/-! ### Registers read -/

theorem Dc.shown_of_low (d : Dc) (a : Nat) (h1 : 0x1000 ≤ a) (h2 : a < 0x2000) : d.shown a = d.word a := by
  have window : inWindow a = false := decide_eq_false fun h => absurd h.1 (by unfold ctxWindow; omega)
  have above (b : Nat) (hb : 0x2000 ≤ b) : a ≠ b := by omega
  have misc : d.shownMisc a = none := by
    unfold Dc.shownMisc
    rw [if_neg (above DC.ABS.STATUS.addr (by decide)), if_neg (above DC.ABS.NOTICE_PEND.addr (by decide)), if_neg (above DC.PAIR.STATUS.addr (by decide)),
      if_neg (above DC.MEM.STATUS.addr (by decide)), if_neg (above DC.LDG.STATUS.addr (by decide)),
      elemOf_of_lt (by unfold DC.LDG.PSTAT.addr; omega)]
    dsimp only
    rw [elemOf_of_lt (by unfold DC.MEM.LOG_W.addr; omega)]
    dsimp only
    rw [elemOf_of_lt (by unfold DC.MEM.BUCKET.addr; omega), if_neg (by simp), elemOf_of_lt (by unfold DC.FOLD.RESULT_LO.addr; omega)]
    dsimp only
    rw [elemOf_of_lt (by unfold DC.FOLD.RESULT_HI.addr; omega)]
    rfl
  unfold Dc.shown
  rw [window, if_neg (by simp), if_neg (by omega), if_neg (by omega), if_neg (by omega), misc]
  rfl

theorem Dc.shown_time (d : Dc) (a : Nat) (w : Word) (h1 : 0x4000 ≤ a) (h2 : a < 0x6000) (h : d.shownTime a = some w) : d.shown a = w := by
  have window : inWindow a = false := decide_eq_false fun h => absurd h.1 (by unfold ctxWindow; omega)
  unfold Dc.shown
  rw [window, if_neg (by simp), if_pos (by omega), h]
  rfl

theorem Dc.shown_nowLo (d : Dc) : d.shown DC.TIME.NOW_LO.addr = BitVec.ofNat 32 d.now := d.shown_time _ _ (by decide) (by decide) rfl

theorem Dc.shown_nowHi (d : Dc) : d.shown DC.TIME.NOW_HI.addr = BitVec.ofNat 32 (d.now / 2 ^ 32) := d.shown_time _ _ (by decide) (by decide) rfl

theorem Dc.readPoison_of_lt (d : Dc) (a : Nat) (h : a < 0x40000) : d.readPoison a = false := by
  have window : inWindow a = false := decide_eq_false fun h => absurd h.1 (by unfold ctxWindow; omega)
  have above (b : Nat) (hb : 0x40000 ≤ b) : a ≠ b := by omega
  have untouched (m : Nat) : touched m a = [] := by
    unfold touched
    rw [window, if_neg (by simp), if_neg (not_or.mpr ⟨above _ (by decide), above _ (by decide)⟩), if_neg (by omega), if_neg (by omega)]
  simp [Dc.readPoison, untouched]

/-- The row of a register that is one whole read-only field. -/
def wholeRow (base : Nat) (acc : Acc) : RegDesc := ⟨base, [], [⟨0, 32, acc, 0, false, []⟩]⟩

theorem wholeRow_ro (base : Nat) (w : Word) : (wholeRow base .ro).readable w = w ∧ (wholeRow base .ro).cleared w = w := ⟨rfl, rfl⟩

theorem wholeRow_rc (base : Nat) (w : Word) : (wholeRow base .rc).readable w = w ∧ fieldOf ((wholeRow base .rc).cleared w) 0 32 = 0 :=
  ⟨rfl, fieldOf_withField w 0 32 0 (by decide)⟩

theorem Dc.readReg_droopN2 (d : Dc) (r : Nat) (hr : r ≠ 9) :
    d.readReg r DC.BOOT.DROOP_N2.addr =
      (d.setWord DC.BOOT.DROOP_N2.addr ((wholeRow 0x1024 .rc).cleared (d.word DC.BOOT.DROOP_N2.addr)), d.word DC.BOOT.DROOP_N2.addr) := by
  rw [d.readReg_eq r _ (wholeRow 0x1024 .rc) (by decide +kernel) (by decide), if_neg hr, d.takeLatches_none _ _ (by decide), if_neg (by decide),
    (wholeRow_rc _ _).1, d.shown_of_low _ (by decide) (by decide)]

theorem Dc.readReg_nowLo (d : Dc) (r : Nat) (hr : r ≠ 9) :
    d.readReg r DC.TIME.NOW_LO.addr =
      ((d.takeLatches r DC.TIME.NOW_LO.addr).setWord DC.TIME.NOW_LO.addr (d.word DC.TIME.NOW_LO.addr), BitVec.ofNat 32 d.now) := by
  rw [d.readReg_eq r _ (wholeRow 0x4000 .ro) (by decide +kernel) (by decide), if_neg hr, if_neg (by decide), (wholeRow_ro _ _).1, (wholeRow_ro _ _).2,
    d.shown_nowLo]

theorem Dc.readReg_nowHi (d : Dc) (r : Nat) (hr : r ≠ 9) :
    d.readReg r DC.TIME.NOW_HI.addr =
      (d.setWord DC.TIME.NOW_HI.addr (d.word DC.TIME.NOW_HI.addr), FMap.get 0 d.latch (dcLatchKey r DC.TIME.NOW_HI.addr)) := by
  rw [d.readReg_eq r _ (wholeRow 0x4004 .ro) (by decide +kernel) (by decide), if_neg hr, d.takeLatches_none _ _ (by decide), if_pos (by decide),
    (wholeRow_ro _ _).2]

theorem Df.readReg_accepted (d : Df) (r : Nat) :
    d.readReg r DF.CMD.ACCEPTED.addr true =
      (d.setWord DF.CMD.ACCEPTED.addr ((wholeRow 0x53 .rc).cleared (d.word DF.CMD.ACCEPTED.addr)), d.word DF.CMD.ACCEPTED.addr) := by
  have shown : d.shown DF.CMD.ACCEPTED.addr = d.word DF.CMD.ACCEPTED.addr := rfl
  rw [d.readReg_eq r _ (wholeRow 0x53 .rc) (by decide +kernel) (by decide), if_neg (by decide), (wholeRow_rc _ _).1, shown]
  rfl

theorem Df.readReg_stateLo (d : Df) (r : Nat) :
    d.readReg r DF.TUS.STATE_LO.addr true =
      (Df.setWord { d with latch := d.latch.put 0 (latchKey r DF.TUS.STATE_HI.addr) (BitVec.ofNat 32 (d.tus.state / 2 ^ 32)) } DF.TUS.STATE_LO.addr
        (d.word DF.TUS.STATE_LO.addr), BitVec.ofNat 32 d.tus.state) := by
  have lo : d.shown DF.TUS.STATE_LO.addr = BitVec.ofNat 32 d.tus.state := rfl
  have hi : d.shown DF.TUS.STATE_HI.addr = BitVec.ofNat 32 (d.tus.state / 2 ^ 32) := rfl
  have latched : dfLatched DF.TUS.STATE_LO.addr = some DF.TUS.STATE_HI.addr := by decide
  rw [d.readReg_eq r _ (wholeRow 0x840 .ro) (by decide +kernel) (by decide), if_neg (by decide), (wholeRow_ro _ _).1, (wholeRow_ro _ _).2, latched, lo]
  dsimp only
  rw [hi]

theorem Df.readReg_stateHi (d : Df) (r : Nat) :
    d.readReg r DF.TUS.STATE_HI.addr true =
      (d.setWord DF.TUS.STATE_HI.addr (d.word DF.TUS.STATE_HI.addr), FMap.get 0 d.latch (latchKey r DF.TUS.STATE_HI.addr)) := by
  have latched : dfLatched DF.TUS.STATE_HI.addr = none := by decide
  rw [d.readReg_eq r _ (wholeRow 0x841 .ro) (by decide +kernel) (by decide), if_pos (by decide), (wholeRow_ro _ _).2, latched]

end Sys2Proof.Machine
end

section
namespace Sys2Proof.Machine

/-! ### Accesses of one register -/

theorem elemOf_cfg_of_unmapped {a : Nat} (h : dcMapped a 1 = false) : elemOf (DC.IBR.CFG.addr 0) 64 64 a = none := by
  refine Option.eq_none_iff_forall_ne_some.mpr fun n hn => ?_
  obtain ⟨hlt, rfl⟩ := elemOf_eq_some hn
  have block : (0x10000, 0x1000) ∈ dcBlocks := by decide
  have mapped : dcMapped (DC.IBR.CFG.addr 0 + 64 * n) 1 = true := by
    unfold dcMapped DC.IBR.CFG.addr
    exact Bool.and_eq_true _ _ ▸ ⟨by simp; omega, List.any_eq_true.mpr ⟨_, block, by simp; omega⟩⟩
  rw [h] at mapped
  cases mapped

theorem elemOf_cfg_of_outside {a : Nat} (h : a < 0x10000 ∨ 0x11000 ≤ a) : elemOf (DC.IBR.CFG.addr 0) 64 64 a = none := by
  unfold DC.IBR.CFG.addr
  exact if_neg fun hc => by omega

section Writes
variable {s : State}

theorem ends_writeDc_reserved {u : DcId} {r a : Nat} {w : Word} (hm : dcMapped a 1) (hc : elemOf (DC.IBR.CFG.addr 0) 64 64 a = none)
    (hx : findReg dcTable a = none) (hw : inWindow a = false) :
    Ends (.registerWrite (.dc u) r a w) s fun t => t.dc u = s.dc u ∧ t.result = (0, 0) := by
  have status : (s.dc u).writeStatus a w = 0 := by
    unfold Dc.writeStatus Dc.statusIn
    rw [hx]
    rfl
  exact ends_writeDc hc (((s.dc u).busWrite_accepted a w hm status).trans (by rw [(s.dc u).putReg_reserved a w hm hx hw hc]))

theorem ends_writeDf_anchor {n : Fin 64} {r : Nat} {k : Fin 8} {w : Word} (h : (s.df n).writeStatus (DF.REED.ANCHOR.addr k) w = 0) :
    Ends (.registerWrite (.df n) r (DF.REED.ANCHOR.addr k) w) s fun t =>
      t.df n = { (s.df n).setWord (DF.REED.ANCHOR.addr k) (anchorRow.written ((s.df n).word (DF.REED.ANCHOR.addr k)) w) with pend := true } ∧
        t.result = (0, 0) := by
  have mapped : ∀ k : Fin 8, dfMapped (DF.REED.ANCHOR.addr k) 1 = true := by decide
  exact ends_writeDf (((s.df n).writeReg_accepted _ w (mapped k) h).trans (by rw [Df.putReg_anchor]))

theorem ends_writeDf_channel {n : Fin 64} {r : Nat} {ch : Fin 640} {w : Word} (h : (s.df n).writeStatus (DF.AFE.CH.addr ch) w = 0) :
    Ends (.registerWrite (.df n) r (DF.AFE.CH.addr ch) w) s fun t =>
      t.df n = Df.holdSticky { (s.df n).setWord (DF.AFE.CH.addr ch) (channelRow.written ((s.df n).word (DF.AFE.CH.addr ch)) w) with pend := true } ch ∧
        t.result = (0, 0) := by
  have block : (0x1000, 0x1000) ∈ dfBlocks := by decide
  have mapped : dfMapped (DF.AFE.CH.addr ch) 1 = true := by
    have hch := ch.isLt
    unfold dfMapped DF.AFE.CH.addr
    exact List.any_eq_true.mpr ⟨_, block, by simp; omega⟩
  exact ends_writeDf (((s.df n).writeReg_accepted _ w mapped h).trans (by rw [Df.putReg_channel]))

end Writes

/-- Settles O56: a write is refused, ignored or stored, and a read takes its latches and clears its RC fields; each clause is that law at its registers. -/
theorem registerAccess : Obligations.RegisterAccess := by
  unfold Obligations.RegisterAccess
  refine ⟨fun u r a w s hm => ?unmapped, fun u r a w s hm hout hst => ?refused, fun u r a w s hm hout hx hw => ?reserved, fun u r w s => ?svcIp,
    fun u r w s => ?imageVer, fun n r k w s hst => ?anchor, fun n r ch w s hst => ?channel, fun n r a w s hm hst => ?refusedDf, fun n r s => ?accepted,
    fun u r s hr => ?droop, fun n r s => ?stateLo, fun n r s => ?stateHi, fun u r s hr => ?nowLo, fun u r s hr => ?nowHi, fun u r a w s hm hc hst => ?putDc,
    fun n r a w s hm hst => ?putDf, fun u r a x s hm hp hx hl hq hr => ?clearDc, fun n r a x s hm hx hl hq => ?clearDf,
    fun u r a x s hm hp hx hl hlo hq => ?latchDc, fun n r a h x s hm hx hlo hl => ?latchDf⟩
  case unmapped => exact ends_writeDc (elemOf_cfg_of_unmapped hm) ((s.dc u).busWrite_unmapped a w hm)
  case refused => exact ends_writeDc (elemOf_cfg_of_outside hout) ((s.dc u).busWrite_refused a w hm hst)
  case reserved => exact ends_writeDc_reserved hm (elemOf_cfg_of_outside hout) hx hw
  case svcIp =>
    refine (ends_writeDc (by decide) ((s.dc u).busWrite_svcIp w)).imp fun t ⟨ht, hres⟩ => ?_
    rw [ht]
    exact ⟨Dc.word_setWord_self _ _ _, hres, fun b hb => Dc.word_setWord_ne _ _ _ _ (List.ne_of_not_mem_cons hb)⟩
  case imageVer =>
    refine (ends_writeDc (by decide) ((s.dc u).busWrite_imageVer w)).imp fun t ⟨ht, hres⟩ => ?_
    rw [ht]
    exact ⟨Dc.word_setWord_same _ _, hres⟩
  case anchor =>
    refine (ends_writeDf_anchor hst).imp fun t ⟨ht, hres⟩ => ?_
    rw [ht]
    have stored (lo width : Nat) : Df.fld { (s.df n).setWord (DF.REED.ANCHOR.addr k) (anchorRow.written ((s.df n).word (DF.REED.ANCHOR.addr k)) w)
        with pend := true } ⟨DF.REED.ANCHOR.addr k, lo, width⟩ = fieldOf (anchorRow.written ((s.df n).word (DF.REED.ANCHOR.addr k)) w) lo width :=
      congrArg (fieldOf · lo width) (Df.word_setWord_self _ _ _)
    exact ⟨(stored 6 1).trans (anchorRow_written_unlock _ _), (stored 5 1).trans (anchorRow_written_locked _ _),
      (stored 0 1).trans (anchorRow_written_src _ _), rfl, rfl, hres⟩
  case channel =>
    refine (ends_writeDf_channel hst).imp fun t ⟨ht, hres⟩ => ?_
    obtain ⟨heff, hpend, hword, hfld⟩ := Df.holdSticky_frame
      { (s.df n).setWord (DF.AFE.CH.addr ch) (channelRow.written ((s.df n).word (DF.AFE.CH.addr ch)) w) with pend := true } ch
    rw [ht]
    have stored (lo width : Nat) (h : lo + width ≤ 30) := (hfld ⟨DF.AFE.CH.addr ch, lo, width⟩ h).trans
      (congrArg (fieldOf · lo width) (Df.word_setWord_self (s.df n) _ (channelRow.written ((s.df n).word (DF.AFE.CH.addr ch)) w)))
    refine ⟨(stored 0 2 (by decide)).trans (channelRow_written_mode _ _), (stored 5 6 (by decide)).trans (channelRow_written_tTrim _ _), heff, hpend, hres,
      fun b hb => ?_⟩
    have hne := List.ne_of_not_mem_cons hb
    exact (hword b hne).trans (Df.word_setWord_ne _ _ _ _ hne)
  case refusedDf => exact ends_writeDf ((s.df n).writeReg_refused a w hm hst)
  case accepted =>
    refine (ends_readDf rfl (by decide)).imp fun t ⟨ht, hres⟩ => ?_
    rw [Df.readReg_accepted] at ht hres
    rw [ht]
    refine ⟨?_, hres, fun b hb => Df.word_setWord_ne _ _ _ _ (List.ne_of_not_mem_cons hb)⟩
    exact (congrArg (fieldOf · 0 32) (Df.word_setWord_self _ _ _)).trans (wholeRow_rc 0x53 _).2
  case droop =>
    refine (ends_readDc rfl (by decide) ((s.dc u).readPoison_of_lt _ (by decide))).imp fun t ⟨ht, hres⟩ => ?_
    rw [Dc.readReg_droopN2 _ _ hr] at ht hres
    rw [ht]
    refine ⟨?_, hres, fun b hb => Dc.word_setWord_ne _ _ _ _ (List.ne_of_not_mem_cons hb)⟩
    exact (congrArg (fieldOf · 0 32) (Dc.word_setWord_self _ _ _)).trans (wholeRow_rc 0x1024 _).2
  case stateLo =>
    refine (ends_readDf rfl (by decide)).imp fun t ⟨ht, hres⟩ => ?_
    rw [Df.readReg_stateLo] at ht hres
    rw [ht]
    exact ⟨hres, FMap.get_put_self _ _ _ _, fun y hy => FMap.get_put_ne _ _ _ _ _ hy, Df.word_setWord_same _ _⟩
  case stateHi =>
    refine (ends_readDf rfl (by decide)).imp fun t ⟨ht, hres⟩ => ?_
    rw [Df.readReg_stateHi] at ht hres
    rw [ht]
    exact ⟨hres, Df.word_setWord_same _ _⟩
  case nowLo =>
    refine (ends_readDc rfl (by decide) ((s.dc u).readPoison_of_lt _ (by decide))).imp fun t ⟨ht, hres⟩ => ?_
    rw [Dc.readReg_nowLo _ _ hr] at ht hres
    rw [ht]
    have latch := (s.dc u).latch_takeLatches r DC.TIME.NOW_LO.addr (by decide)
    refine ⟨hres, latch.trans (s.dc u).shown_nowHi, (s.dc u).now_takeLatches _ _, fun b => ?_⟩
    rw [← (s.dc u).word_takeLatches r DC.TIME.NOW_LO.addr DC.TIME.NOW_LO.addr, Dc.word_setWord_same, Dc.word_takeLatches]
  case nowHi =>
    refine (ends_readDc rfl (by decide) ((s.dc u).readPoison_of_lt _ (by decide))).imp fun t ⟨ht, hres⟩ => ?_
    rw [Dc.readReg_nowHi _ _ hr] at ht hres
    rw [ht]
    exact ⟨hres, Dc.word_setWord_same _ _⟩
  case putDc => exact ends_writeDc hc ((s.dc u).busWrite_accepted a w hm hst)
  case putDf => exact ends_writeDf ((s.df n).writeReg_accepted a w hm hst)
  case clearDc =>
    refine (ends_readDc rfl hm hp).imp fun t ⟨ht, hres⟩ => ?_
    rw [(s.dc u).readReg_eq r a x hx hq] at ht hres
    rw [ht, hres, hl, if_neg hr]
    exact ⟨rfl, Dc.word_setWord_self _ _ _⟩
  case clearDf =>
    refine (ends_readDf rfl hm).imp fun t ⟨ht, hres⟩ => ?_
    rw [(s.df n).readReg_eq r a x hx hq] at ht hres
    rw [ht, hres, hl]
    exact ⟨rfl, Df.word_setWord_self _ _ _⟩
  case latchDc =>
    refine (ends_readDc rfl hm hp).imp fun t ⟨ht, hres⟩ => ?_
    rw [(s.dc u).readReg_eq r a x hx hq] at ht hres
    rw [ht, hres, hl]
    refine ⟨rfl, ?_⟩
    rw [← (s.dc u).latch_takeLatches r a hlo]
    split <;> rfl
  case latchDf =>
    have peak : dfLatched DF.HIT.CQ_PEAK.addr = none := by decide
    have hq : a ≠ DF.HIT.CQ_PEAK.addr := by
      rintro rfl
      cases peak.symm.trans hlo
    refine (ends_readDf rfl hm).imp fun t ⟨ht, hres⟩ => ?_
    rw [(s.df n).readReg_eq r a x hx hq, hlo] at ht hres
    rw [ht, hres, hl]
    exact ⟨rfl, FMap.get_put_self _ _ _ _⟩

end Sys2Proof.Machine
end

section
/-! One clause of the uplink slots that a waiting command refutes (R159, R416). -/
namespace Sys2Proof.Machine

/-! ### O27: a lane in TEST while a command frame waits -/

/-- A DF640 whose lane 2 is in TEST and whose command interpreter has a WRITE waiting that sets INJ_ERR in DF.LINK.TEST and leaves its LANES and PAT as
they are. -/
def injErrWaits : Df :=
  { ((dfFresh.set (DF.LINK.LANE.STATE 2) lTest).set DF.LINK.TEST.LANES 4).set DF.PAIR.EPOCH.VALID 1 with
    cmd := { held := [(0, [frameHeader opWrite 1 0 5 0, addrWord DF.LINK.TEST.addr 0x134])] } }

theorem injErrWaits_in_test : injErrWaits.fld (DF.LINK.LANE.STATE 2) = lTest ∧ injErrWaits.fld DF.LINK.TEST.LOOP ≠ 3 := by decide +kernel

/-- Once the pattern bits are sent the waiting WRITE is carried out, and it marks the next bit to be inverted. -/
theorem injErrWaits_marks_bit : ((injErrWaits.slotSend 2).resume.lane 2).invert ≠ false := by decide +kernel

/-- Refutes O27: its TEST clause promises that no bit is left to be inverted after the slot, and no hypothesis keeps the command interpreter empty as the
clauses of RUN do; a WRITE of INJ_ERR that waits is carried out in the same command. -/
theorem not_uplinkSlots : ¬ Obligations.UplinkSlots := by
  unfold Obligations.UplinkSlots
  rintro ⟨-, -, -, -, htest, -⟩
  obtain ⟨hstate, hloop⟩ := injErrWaits_in_test
  have hdf : (State.reset.setDf (0 : Fin 64) injErrWaits).df (0 : Fin 64) = injErrWaits := State.df_setDf_self _ _ _
  have hends := htest 0 2 (State.reset.setDf (0 : Fin 64) injErrWaits) (by rw [hdf]; exact hstate) (by rw [hdf]; exact hloop)
  obtain ⟨-, hinvert⟩ := hends.dest rfl
  rw [State.df_setDf_self, hdf] at hinvert
  exact injErrWaits_marks_bit hinvert

end Sys2Proof.Machine
end

section
/-! The Reed lines: the conversion of a reading, calibration windows and their timers (R69 to R85). -/
namespace Sys2Proof.Machine

/-! ### A command of one DF640, and fields of its registers -/

theorem ends_setDf {c : Instr} {s : State} {n : Nat} {d : Df} {P : State → Prop} (he : exec c s = .next (s.setDf n d))
    (h : ∀ t : State, t.df n = d → P t) : Ends c s P :=
  ⟨_, he, h _ (s.df_setDf_self n d)⟩

/-! The laws of `Fd.apart` and `Fd.fits` with their bounds as arithmetic on the fields' numbers, which `simp` settles for named fields. -/

/-- Setting a field leaves every field of another register alone. -/
theorem Df.fld_set_addr (d : Df) (f g : Fd) (v : Nat) (h : g.addr ≠ f.addr) : (d.set f v).fld g = d.fld g :=
  congrArg (fieldOf · g.lo g.width) (d.word_setWord_ne _ _ _ h)

/-- A count leaves every field of another register alone. -/
theorem Df.fld_inc_addr (d : Df) (f g : Fd) (h : g.addr ≠ f.addr) : (d.inc f).fld g = d.fld g := d.fld_set_addr f g _ h

/-- Setting a field leaves the fields below and above it in the word alone. -/
theorem Df.fld_set_bits (d : Df) (f g : Fd) (v : Nat) (hg : g.lo + g.width ≤ 32) (h : f.lo + f.width ≤ g.lo ∨ g.lo + g.width ≤ f.lo) :
    (d.set f v).fld g = d.fld g := d.fld_set_apart f g v hg (.inr h)

theorem Df.fld_inc_bits (d : Df) (f g : Fd) (hg : g.lo + g.width ≤ 32) (h : f.lo + f.width ≤ g.lo ∨ g.lo + g.width ≤ f.lo) :
    (d.inc f).fld g = d.fld g := d.fld_set_bits f g _ hg h

theorem Df.fld_set_same (d : Df) (f : Fd) (v : Nat) (h : f.lo + f.width ≤ 32) : (d.set f v).fld f = v % 2 ^ f.width := d.fld_set_self f v h

theorem Df.fld_inc_same (d : Df) (f : Fd) (h : f.lo + f.width ≤ 32) : (d.inc f).fld f = satAdd f.width (d.fld f) 1 := d.fld_add_self f 1 h

/-! ### R70: the conversion of a reading -/

/-- The bounds of R81, with the span as the whole number that it is. -/
theorem calValid_iff (rA rB : Nat) :
    calValid rA rB = true ↔ 4 ≤ rA ∧ rA ≤ 120 ∧ 900 ≤ rB ∧ rB ≤ 1020 ∧ 880 ≤ (rB : Int) - rA ∧ (rB : Int) - rA ≤ 1008 := by
  simp only [calValid, decide_eq_true_eq]
  omega

theorem reedTime_outside {rA rB m r : Nat} (h : (r : Int) < (rA : Int) - 64 ∨ (r : Int) > (rB : Int) + 64) : reedTime rA rB m r = (1024 * (m - 2), false) :=
  if_pos (by omega)

theorem reedTime_inside {rA rB m r : Nat} (hlo : (rA : Int) - 64 ≤ r) (hhi : (r : Int) ≤ (rB : Int) + 64) :
    reedTime rA rB m r = ((1024 * ((m : Int) - 2) + (2048 * ((rB : Int) - r) + ((rB : Int) - rA)) / (2 * ((rB : Int) - rA))).toNat, true) :=
  if_neg (by omega)

/-- A reading that is out of range gives the tick two before the edge alone (R70). -/
theorem reedTime_of_snd_false {rA rB m r : Nat} (h : (reedTime rA rB m r).2 = false) : (reedTime rA rB m r).1 = 1024 * (m - 2) := by
  unfold reedTime at *
  split at h
  · next hout => rw [if_pos hout]
  · cases h

/-- The time of a reading within a calibrated span lies less than one tick below tick m - 2 and less than one beyond it. -/
theorem reedOffset_bounds {delta x : Int} (hd : 880 ≤ delta) (hlo : -64 ≤ x) (hhi : x ≤ delta + 64) :
    -1024 ≤ (2048 * x + delta) / (2 * delta) ∧ (2048 * x + delta) / (2 * delta) < 2048 :=
  ⟨(Int.le_ediv_iff_mul_le (by omega)).mpr (by omega), (Int.ediv_lt_iff_lt_mul (by omega)).mpr (by omega)⟩

/-- Within the span the time is the nearest fine, an exact half up (R70). -/
theorem reedTime_nearest {rA rB m r : Nat} (hv : calValid rA rB) (hm : 3 ≤ m) (hlo : (rA : Int) - 64 ≤ r) (hhi : (r : Int) ≤ (rB : Int) + 64) :
    ∃ t : Nat, reedTime rA rB m r = (t, true) ∧
      2 * ((rB : Int) - rA) * ((t : Int) - 1024 * ((m : Int) - 2)) ≤ 2048 * ((rB : Int) - r) + ((rB : Int) - rA) ∧
      2048 * ((rB : Int) - r) + ((rB : Int) - rA) < 2 * ((rB : Int) - rA) * ((t : Int) - 1024 * ((m : Int) - 2) + 1) ∧
      (t / 1024 = m - 3 ∨ t / 1024 = m - 2 ∨ t / 1024 = m - 1) := by
  obtain ⟨-, -, -, -, hspan, -⟩ := (calValid_iff rA rB).mp hv
  obtain ⟨hge, hlt⟩ := reedOffset_bounds (x := (rB : Int) - r) hspan (by omega) (by omega)
  have hfloor := Int.mul_ediv_self_le (x := 2048 * ((rB : Int) - r) + ((rB : Int) - rA)) (k := 2 * ((rB : Int) - rA)) (by omega)
  have hnext := Int.lt_mul_ediv_self_add (x := 2048 * ((rB : Int) - r) + ((rB : Int) - rA)) (k := 2 * ((rB : Int) - rA)) (by omega)
  refine ⟨_, reedTime_inside hlo hhi, ?_⟩
  generalize (2048 * ((rB : Int) - r) + ((rB : Int) - rA)) / (2 * ((rB : Int) - rA)) = q at *
  rw [Int.toNat_of_nonneg (by omega), show 1024 * ((m : Int) - 2) + q - 1024 * ((m : Int) - 2) = q by omega, Int.mul_add, Int.mul_one]
  exact ⟨hfloor, hnext, by omega⟩

/-! ### A leading edge that opens a hit -/

/-- A candidate counted in COARSE keeps its time and its flag. -/
theorem Df.countCoarse_cand (d : Df) (ch : Nat) (h : Cand) : (d.countCoarse ch h).2.lead = h.lead ∧ (d.countCoarse ch h).2.coarse = h.coarse := by
  unfold Df.countCoarse
  split <;> exact ⟨rfl, rfl⟩

theorem Df.fld_countCoarse (d : Df) (ch : Nat) (h : Cand) (g : Fd) (hg : g.addr ≠ DF.REED.COARSE.addr ch) : (d.countCoarse ch h).1.fld g = d.fld g := by
  unfold Df.countCoarse
  split
  · exact d.fld_inc_addr _ g hg
  · rfl

theorem Df.detect_cand (d : Df) (ch : Nat) (h : Cand) : (d.detect ch h).2.lead = h.lead ∧ (d.detect ch h).2.coarse = h.coarse :=
  Df.countCoarse_cand _ ch _

theorem Df.fld_detect (d : Df) (ch : Nat) (h : Cand) (g : Fd) (hg : g.addr ≠ DF.REED.COARSE.addr ch) : (d.detect ch h).1.fld g = d.fld g :=
  Df.fld_countCoarse _ ch _ g hg

/-- An edge of the source in force of an ordinary channel that is live or masked, not blanked, armed, ready, with no hit in progress and no
calibration running. -/
structure Df.OpensHit (d : Df) (ch : Nat) (src : EdgeSource) (level : Int) : Prop where
  ordinary : ch < 632
  edge : d.takesEdge ch true src = true
  high : discriminator (d.thresholdT ch) false level = true
  on : d.mode ch ≠ modeOff
  unblanked : (d.chan ch).blankEnd = none
  settled : (d.chan ch).srcBlank = none
  armed : (d.chan ch).armed = true
  ready : (d.chan ch).ready = true
  idle : (d.chan ch).running = none
  quiet : (d.chan ch).wins = []
  rearmed : (d.chan ch).rearmAt = none

@[simp] theorem Df.takesEdge_until (d : Df) (t ch : Nat) (lead : Bool) (src : EdgeSource) : (d.until t).takesEdge ch lead src = d.takesEdge ch lead src := rfl

@[simp] theorem Df.thresholdT_until (d : Df) (t ch : Nat) : (d.until t).thresholdT ch = d.thresholdT ch := rfl

theorem isAnchor_of_lt {ch : Nat} (h : ch < 632) : isAnchor ch = false := decide_eq_false (by omega)

theorem Df.consts_ordinary (d : Df) {ch : Nat} (h : ch < 632) : d.consts ch = (d.fld (DF.REED.CH.RA ch), d.fld (DF.REED.CH.RB ch)) := by
  simp [Df.consts, isAnchor_of_lt h]

theorem Df.calFail_ordinary (d : Df) {ch : Nat} (h : ch < 632) : d.calFail ch = d.inc (DF.REED.CH.CALFAIL ch) := by
  simp [Df.calFail, isAnchor_of_lt h]

/-- An edge whose reading is out of range opens a COARSE_ONLY hit at the tick two before it, and counts in CALFAIL (R70 to R72). -/
theorem Df.leadingEdge_outOfSpan {d : Df} {ch m : Nat} {src : EdgeSource} {taps : Taps} {level : Int} (ho : d.OpensHit ch src level)
    (hr : (reedTime (d.fld (DF.REED.CH.RA ch)) (d.fld (DF.REED.CH.RB ch)) m (reading taps)).2 = false) :
    ∃ (e : Df) (h : Cand) (g : Option Nat), d.leadingEdge ch src m taps level = e.setChan ch { d.chan ch with cands := (d.chan ch).cands ++ [h], gateEnd := g } ∧
      e.fld (DF.REED.CH.CALFAIL ch) = satAdd 8 (d.fld (DF.REED.CH.CALFAIL ch)) 1 ∧ h.coarse = true ∧ h.lead = 1024 * (m - 2) := by
  obtain ⟨hch, hedge, hhigh, hon, hblank, hsrc, harmed, hready, hidle, hwins, hrearm⟩ := ho
  unfold Df.leadingEdge
  extract_lets e c pin k busy t lead tick direct gate h e' x
  have hnotBusy : busy = false := by simp [busy, c, e, hwins, hrearm, isAnchor_of_lt hch]
  have ht : t.2 = false := by simp [t, k, e, Df.consts_ordinary _ hch, hr]
  have hcounted : e'.fld (DF.REED.CH.CALFAIL ch) = satAdd 8 (d.fld (DF.REED.CH.CALFAIL ch)) 1 := by
    simp only [e', hnotBusy, ht, Bool.or_false, Bool.false_eq_true, if_false, Df.calFail_ordinary _ hch]
    exact Df.fld_inc_same _ _ (by simp [DF.REED.CH.CALFAIL])
  have hx : x.1.fld (DF.REED.CH.CALFAIL ch) = e'.fld (DF.REED.CH.CALFAIL ch) ∧ x.2.lead = h.lead ∧ x.2.coarse = h.coarse := by
    simp only [x]
    split
    · exact ⟨e'.fld_detect ch h _ (by simp [DF.REED.CH.CALFAIL, DF.REED.CH.addr, DF.REED.COARSE.addr]), e'.detect_cand ch h⟩
    · exact ⟨rfl, rfl, rfl⟩
  obtain ⟨hfld, hlead, hcoarse⟩ := hx
  have htime : h.lead = 1024 * (m - 2) := by
    simp only [h, lead, hnotBusy, Bool.false_eq_true, if_false]
    exact reedTime_of_snd_false ht
  have hflag : h.coarse = true := by simp [h, hnotBusy, ht]
  rw [if_neg (by simp [e, hedge, hhigh]), if_neg (by simp [e, c, hon, hblank, hsrc, harmed]), if_neg (by simp [e, c, hready]), show c.running = none from hidle]
  exact ⟨x.1, x.2, _, rfl, hfld.trans hcounted, hcoarse.trans hflag, hlead.trans htime⟩

/-- Settles O11: the conversion by its two ranges, and the edge of a reading out of range by what such an edge opens. -/
theorem reedConversion : Obligations.ReedConversion := by
  unfold Obligations.ReedConversion
  refine ⟨fun rA rB m r _ _ hout => reedTime_outside hout, fun rA rB m r hv hm hlo hhi => reedTime_nearest hv hm hlo hhi,
    fun n ch m src tp lev s hch hedge hhigh hon hblank hsrc harmed hready hidle hwins hrearm hr => ?_⟩
  obtain ⟨e, h, g, he, hfail, hcoarse, hlead⟩ :=
    Df.leadingEdge_outOfSpan ⟨hch, hedge, hhigh, hon, hblank, hsrc, harmed, hready, hidle, hwins, hrearm⟩ hr
  refine ends_setDf (d := (s.df n).leadingEdge ch src m tp lev) rfl fun t ht => ?_
  rw [ht, he]
  simp [hfail, hcoarse, hlead]

/-! ### R81, R85: the end of a calibration window -/

section Line
variable (d : Df) (ch : Nat)

/-- The constants of a line and its NOTCAL read back as set (R99). -/
theorem Df.fld_setConstants {rA rB : Nat} (hA : rA < 1024) (hB : rB < 1024) :
    let e := ((d.set (DF.REED.CH.RA ch) rA).set (DF.REED.CH.RB ch) rB).set (DF.REED.CH.NOTCAL ch) 0
    e.fld (DF.REED.CH.RA ch) = rA ∧ e.fld (DF.REED.CH.RB ch) = rB ∧ e.fld (DF.REED.CH.NOTCAL ch) = 0 := by
  simp [Df.fld_set_same, Df.fld_set_bits, DF.REED.CH.RA, DF.REED.CH.RB, DF.REED.CH.NOTCAL]
  exact ⟨hA, hB⟩

/-- A count in CALFAIL leaves the constants of the line. -/
theorem Df.fld_incCalfail :
    (d.inc (DF.REED.CH.CALFAIL ch)).fld (DF.REED.CH.CALFAIL ch) = satAdd 8 (d.fld (DF.REED.CH.CALFAIL ch)) 1 ∧
      (d.inc (DF.REED.CH.CALFAIL ch)).fld (DF.REED.CH.RA ch) = d.fld (DF.REED.CH.RA ch) ∧
      (d.inc (DF.REED.CH.CALFAIL ch)).fld (DF.REED.CH.RB ch) = d.fld (DF.REED.CH.RB ch) := by
  simp [Df.fld_inc_same, Df.fld_inc_bits, DF.REED.CH.RA, DF.REED.CH.RB, DF.REED.CH.CALFAIL]

/-- Setting CALDEAD leaves the rest of what a line's register holds. -/
theorem Df.fld_setCaldead (v : Nat) :
    (d.set (DF.REED.CH.CALDEAD ch) v).fld (DF.REED.CH.CALDEAD ch) = v % 2 ∧
      (d.set (DF.REED.CH.CALDEAD ch) v).fld (DF.REED.CH.CALFAIL ch) = d.fld (DF.REED.CH.CALFAIL ch) ∧
      (d.set (DF.REED.CH.CALDEAD ch) v).fld (DF.REED.CH.RA ch) = d.fld (DF.REED.CH.RA ch) ∧
      (d.set (DF.REED.CH.CALDEAD ch) v).fld (DF.REED.CH.RB ch) = d.fld (DF.REED.CH.RB ch) := by
  simp [Df.fld_set_same, Df.fld_set_bits, DF.REED.CH.RA, DF.REED.CH.RB, DF.REED.CH.CALFAIL, DF.REED.CH.CALDEAD]

/-- The count of calibrations lies in a register of its own. -/
theorem Df.fld_incNcal {g : Fd} (hg : g.addr = DF.REED.CH.addr ch) : (d.inc (DF.REED.NCAL.COUNT ch)).fld g = d.fld g :=
  d.fld_inc_addr _ g (by simp [hg, DF.REED.CH.addr, DF.REED.NCAL.COUNT, DF.REED.NCAL.addr])

end Line

section Window
variable {d : Df} {ch : Nat} {one two : Taps} {w : CalWin} {ws : List CalWin}

/-- A valid pair of readings sets the constants and the next refresh, and makes the line ready. -/
theorem Df.calEnd_valid (hw : (d.chan ch).wins = w :: ws) (hv : calValid (reading one) (reading two)) :
    ∃ (e : Df) (r : Option Nat),
      d.calEnd ch one two = e.setChan ch { d.chan ch with wins := ws, ready := true, badRun := 0, lastCal := w.endF, spread := false, refreshAt := r } ∧
      e.deltas = ((reading two - reading one) :: d.deltas).take 1024 ∧
      (e.fld (DF.REED.CH.RA ch) = reading one ∧ e.fld (DF.REED.CH.RB ch) = reading two ∧ e.fld (DF.REED.CH.NOTCAL ch) = 0) ∧
      ((d.chan ch).spread = false → d.inForce DF.REED.REFRESH.INTERVAL ≠ 0 → r = some (ceilTick w.endF + d.inForce DF.REED.REFRESH.INTERVAL)) := by
  obtain ⟨-, hA, -, hB, -, -⟩ := (calValid_iff _ _).mp hv
  unfold Df.calEnd
  dsimp only
  rw [hw]
  dsimp only
  rw [if_pos hv]
  exact ⟨_, _, rfl, rfl, Df.fld_setConstants _ ch (by omega) (by omega), fun hs hi => by simp [hs, hi]⟩

/-- An invalid pair counts in CALFAIL and leaves the constants and whether the line is ready; the sixteenth in a row of a line that is not sets CALDEAD. -/
theorem Df.calEnd_invalid (hw : (d.chan ch).wins = w :: ws) (hv : calValid (reading one) (reading two) = false) :
    ∃ (e : Df) (c : Chan), d.calEnd ch one two = e.setChan ch c ∧ c.wins = ws ∧ c.ready = (d.chan ch).ready ∧
      e.fld (DF.REED.CH.RA ch) = d.fld (DF.REED.CH.RA ch) ∧ e.fld (DF.REED.CH.RB ch) = d.fld (DF.REED.CH.RB ch) ∧
      e.fld (DF.REED.CH.CALFAIL ch) = satAdd 8 (d.fld (DF.REED.CH.CALFAIL ch)) 1 ∧
      ((d.chan ch).ready = false → (d.chan ch).badRun = 15 → e.fld (DF.REED.CH.CALDEAD ch) = 1 ∧ c.retryAt = none) := by
  unfold Df.calEnd
  dsimp only
  rw [hw]
  dsimp only
  rw [if_neg (by simp [hv])]
  obtain ⟨hfail, hA, hB⟩ := Df.fld_incCalfail ((d.until (ceilTick w.endF)).inc (DF.REED.NCAL.COUNT ch)) ch
  rw [Df.fld_incNcal _ ch rfl] at hfail hA hB
  split
  case isTrue hready => exact ⟨_, _, rfl, rfl, rfl, hA, hB, hfail, by simp [hready]⟩
  case isFalse =>
    split
    case isTrue hlast =>
      obtain ⟨hdead, hfail', hA', hB'⟩ := Df.fld_setCaldead (((d.until (ceilTick w.endF)).inc (DF.REED.NCAL.COUNT ch)).inc (DF.REED.CH.CALFAIL ch)) ch 1
      exact ⟨_, _, rfl, rfl, rfl, hA'.trans hA, hB'.trans hB, hfail'.trans hfail, fun _ _ => ⟨hdead, rfl⟩⟩
    case isFalse hmore => exact ⟨_, _, rfl, rfl, rfl, hA, hB, hfail, fun _ hbad => absurd hbad (by omega)⟩

end Window

/-- Settles O15: the end of a window by the validity of its pair, and the bounds of a valid pair. -/
theorem calibrationWindow : Obligations.CalibrationWindow := by
  unfold Obligations.CalibrationWindow
  refine ⟨fun n ch tp tq s w ws _ hw hv => ?_, fun n ch tp tq s w ws _ hw hv => ?_, calValid_iff⟩
  · obtain ⟨e, r, he, hdeltas, ⟨hA, hB, hcal⟩, hnext⟩ := Df.calEnd_valid hw hv
    refine ends_setDf (d := (s.df n).calEnd ch tp tq) rfl fun t ht => ?_
    rw [ht, he]
    simpa [hdeltas, hA, hB, hcal, ceilTick] using hnext
  · obtain ⟨e, c, he, hwins, hready, hA, hB, hfail, hdead⟩ := Df.calEnd_invalid hw hv
    refine ends_setDf (d := (s.df n).calEnd ch tp tq) rfl fun t ht => ?_
    rw [ht, he]
    simpa [hwins, hready, hA, hB, hfail] using hdead

end Sys2Proof.Machine
end

section
/-! The timers of a Reed line and the write of RETRY (R77 to R80, R85). -/
namespace Sys2Proof.Machine

/-- A refresh of a ready line with no hit in progress and no launch near begins a calibration of 5 ticks (R77, R80). -/
theorem Df.refreshExpiry_begins {d : Df} {ch e : Nat} (hch : ch < 632) (hat : (d.chan ch).refreshAt = some e) (hready : (d.chan ch).ready = true)
    (hidle : (d.chan ch).running = none) (hnear : d.nearLaunch ch e = false) :
    d.refreshExpiry ch = (d.until e).setChan ch { d.chan ch with refreshAt := none, wins := (d.chan ch).wins ++ [⟨1024 * (e + 5), false⟩] } := by
  have begins : ¬(isAnchor ch = true ∨ (!(d.chan ch).ready) = true ∨ (d.chan ch).running.isSome = true) := by simp [isAnchor_of_lt hch, hready, hidle]
  have apart : ¬(d.until e).nearLaunch ch e = true := Bool.eq_false_iff.mp hnear
  unfold Df.refreshExpiry
  dsimp only
  rw [hat]
  dsimp only
  exact (if_neg begins).trans (if_neg apart)

/-- The retry of an armed channel that is not ready begins a calibration of 5 ticks (R85). -/
theorem Df.calRetry_begins {d : Df} {ch e : Nat} (hat : (d.chan ch).retryAt = some e) (hready : (d.chan ch).ready = false) (harmed : (d.chan ch).armed = true) :
    d.calRetry ch = (d.until e).setChan ch { d.chan ch with retryAt := none, wins := (d.chan ch).wins ++ [⟨1024 * (e + 5), false⟩] } := by
  unfold Df.calRetry
  dsimp only
  rw [hat]
  dsimp only
  rw [if_neg (by simp [hready, harmed])]

/-! ### The write of RETRY -/

/-- The row of `DF.REED.CH`. -/
def lineRow : RegDesc :=
  ⟨0x2400, [(0, 632, 1)], [⟨0, 10, .ro, 0, false, []⟩, ⟨10, 10, .ro, 0, false, []⟩, ⟨20, 1, .ro, 1, false, []⟩, ⟨21, 1, .ro, 0, false, []⟩,
    ⟨22, 1, .w1s, 0, false, []⟩, ⟨23, 8, .ro, 0, false, []⟩]⟩

theorem findReg_line {ch : Nat} (hch : ch < 632) : findReg dfTable (DF.REED.CH.addr ch) = some lineRow := by
  refine findReg_row (lo := 0x2400) (hi := 0x2678) (dfTable.idxOf lineRow) (by decide +kernel) (by decide +kernel) ?_ ?_ ?_
  · simp [RegDesc.covers, lineRow, dimsCover, DF.REED.CH.addr, Nat.mod_one, hch]
  · unfold DF.REED.CH.addr; omega
  · unfold DF.REED.CH.addr; omega

theorem elemOf_eq_none_of_outside {base n stride a : Nat} (h : a < base ∨ base + n * stride ≤ a) : elemOf base n stride a = none :=
  if_neg (by omega)

/-- No write of a line's register is refused: it holds no field that a write sets. -/
theorem Df.writeStatus_line (d : Df) {ch : Nat} (hch : ch < 632) (v : Word) : d.writeStatus (DF.REED.CH.addr ch) v = 0 := by
  have refuses : lineRow.refuses v = false := rfl
  have lo : 0x2400 ≤ DF.REED.CH.addr ch := by unfold DF.REED.CH.addr; omega
  have outside (base n : Nat) (h : base + n * 1 ≤ 0x2400) : elemOf base n 1 (DF.REED.CH.addr ch) = none := elemOf_eq_none_of_outside (by omega)
  have above (b : Nat) (hb : b < 0x2400) : DF.REED.CH.addr ch ≠ b := by omega
  unfold Df.writeStatus
  rw [findReg_line hch]
  dsimp only
  rw [refuses, outside _ 8 (by decide), outside _ 640 (by decide), outside _ 2 (by decide), outside _ 32 (by decide), outside _ 2 (by decide)]
  simp [above DF.LINK.SLEEP.addr (by decide), above DF.LINK.TEST.addr (by decide), above DF.BOOT.CTRL.addr (by decide),
    above DF.BOOT.RESET.addr (by decide), above DF.BOOT.DROOP_CFG.addr (by decide), above DF.HK.CTRL.addr (by decide)]

/-- A write of a line's register stores nothing, for no field of it is writable. -/
theorem lineRow_written (w v : Word) : lineRow.written w v = w := rfl

theorem Df.writeEffect_line (d : Df) {ch : Nat} (hch : ch < 632) (v old : Word) (hv : fieldOf v 22 1 = 1) :
    d.writeEffect (DF.REED.CH.addr ch) v old = d.retry ch := by
  have channel : elemOf (DF.AFE.CH.addr 0) 640 1 (DF.REED.CH.addr ch) = none := elemOf_eq_none_of_outside (.inr (by simp [DF.AFE.CH.addr, DF.REED.CH.addr]; omega))
  have line : elemOf (DF.REED.CH.addr 0) 632 1 (DF.REED.CH.addr ch) = some ch :=
    (if_pos (by simp [DF.REED.CH.addr, Nat.mod_one]; omega)).trans (by simp [DF.REED.CH.addr])
  unfold Df.writeEffect
  rw [channel, line]
  exact if_pos hv

/-- A 1 written to RETRY is taken: the register's word stays as it is, and the retry begins. -/
theorem Df.fieldWrite_retry (d : Df) {ch : Nat} (hch : ch < 632) :
    d.fieldWrite (DF.REED.CH.RETRY ch) 1 = ((d.setWord (DF.REED.CH.addr ch) (d.word (DF.REED.CH.addr ch))).retry ch, 0) := by
  have mapped : dfMapped (DF.REED.CH.addr ch) 1 = true := List.any_eq_true.mpr ⟨(0x2000, 0x2000), by decide, by simp [DF.REED.CH.addr]; omega⟩
  have stages : lineRow.stages = false := rfl
  refine (d.writeReg_accepted _ _ mapped (d.writeStatus_line hch _)).trans ?_
  unfold Df.putReg
  rw [show (DF.REED.CH.RETRY ch).addr = DF.REED.CH.addr ch from rfl, findReg_line hch]
  dsimp only
  rw [lineRow_written, stages, if_neg (by simp)]
  exact congrArg (·, 0) (Df.writeEffect_line _ hch _ _ (fieldOf_withField _ 22 1 1 (by decide)))

/-- A retry leaves the constants of the line, and CALDEAD and CALFAIL at 0 (R85). -/
theorem Df.fld_retry (d : Df) {ch : Nat} (hch : ch < 632) :
    (d.retry ch).fld (DF.REED.CH.CALDEAD ch) = 0 ∧ (d.retry ch).fld (DF.REED.CH.CALFAIL ch) = 0 ∧
      (d.retry ch).fld (DF.REED.CH.RA ch) = d.fld (DF.REED.CH.RA ch) := by
  have hfld (g : Fd) : (d.retry ch).fld g = ((d.set (DF.REED.CH.CALDEAD ch) 0).set (DF.REED.CH.CALFAIL ch) 0).fld g := by
    unfold Df.retry
    rw [if_neg (by simp [isAnchor_of_lt hch])]
    dsimp only
    split
    · exact Df.fld_setChan _ _ _ g
    · rfl
  rw [hfld, hfld, hfld]
  simp [Df.fld_set_same, Df.fld_set_bits, DF.REED.CH.RA, DF.REED.CH.CALFAIL, DF.REED.CH.CALDEAD]

theorem Df.fld_setWord_same (d : Df) (a : Nat) (g : Fd) : (d.setWord a (d.word a)).fld g = d.fld g :=
  congrArg (fieldOf · g.lo g.width) (d.word_setWord_same a g.addr)

/-- Settles O16: what each timer begins, and the write of RETRY by the retry that it starts. -/
theorem refreshAndRetry : Obligations.RefreshAndRetry := by
  unfold Obligations.RefreshAndRetry
  refine ⟨fun n ch s e hch hat hready hidle hnear => ?refresh, fun n ch s e hat hready harmed => ?calRetry, fun n ch s hch => ?write⟩
  case refresh =>
    refine ends_setDf (d := (s.df n).refreshExpiry ch) rfl fun t ht => ?_
    rw [ht, Df.refreshExpiry_begins hch hat hready hidle hnear]
    simp
  case calRetry =>
    refine ends_setDf (d := (s.df n).calRetry ch) rfl fun t ht => ?_
    rw [ht, Df.calRetry_begins hat hready harmed, Df.chan_setChan_self]
  case write =>
    obtain ⟨hdead, hfail, hA⟩ := Df.fld_retry ((s.df n).setWord (DF.REED.CH.addr ch) ((s.df n).word (DF.REED.CH.addr ch))) hch
    refine ⟨_, rfl, ?_⟩
    rw [Df.fieldWrite_retry _ hch]
    simp [State.dfDone, hdead, hfail, hA, Df.fld_setWord_same]

end Sys2Proof.Machine
end

section
/-! Anchor DLLs, the root oscillator and injection launches (R55 to R60, R84, R91 to R93). -/
namespace Sys2Proof.Machine

/-! ### Anchor DLLs -/

theorem Df.fld_setLocked (d : Df) (k v : Nat) : (d.set (DF.REED.ANCHOR.LOCKED k) v).fld (DF.REED.ANCHOR.LOCKED k) = v % 2 :=
  d.fld_set_same _ v (by simp [DF.REED.ANCHOR.LOCKED])

theorem Df.dllLock_locked {d : Df} (k : Nat) (h : d.tim.rootLocked = true) :
    d.dllLock k = (d.set (DF.REED.ANCHOR.LOCKED k) 1).setChan (632 + k) { d.chan (632 + k) with ready := true } := if_pos h

theorem Df.dllUnlock_locked {d : Df} {k : Nat} (h : d.fld (DF.REED.ANCHOR.LOCKED k) = 1) :
    d.dllUnlock k = (d.set (DF.REED.ANCHOR.LOCKED k) 0).set (DF.REED.ANCHOR.UNLOCK k) 1 := if_pos h

theorem Df.anchorRearm_at {d : Df} {k e : Nat} (h : (d.chan (632 + k)).rearmAt = some e) :
    d.anchorRearm k = (d.until e).setChan (632 + k) { d.chan (632 + k) with rearmAt := none } := by
  unfold Df.anchorRearm
  dsimp only
  rw [h]

/-! ### Folds whose steps each change one view of what they fold over -/

section Folds
variable {α β γ : Type} {f : β → α → β} {I : β → Prop} {v : β → α → γ}

theorem foldl_invariant (l : List α) {b : β} (hf : ∀ b a, I b → I (f b a)) (hb : I b) : I (l.foldl f b) :=
  List.foldlRecOn l f hb fun b h a _ => hf b a h

theorem foldl_view_notin {l : List α} {a : α} (b : β) (hv : ∀ b a k, k ≠ a → v (f b a) k = v b k) (ha : a ∉ l) : v (l.foldl f b) a = v b a :=
  List.foldlRecOn (motive := fun c => v c a = v b a) l f rfl fun c h k hk => (hv c k a fun e => ha (e ▸ hk)).trans h

/-- A step that changes the view at its own element alone is seen there as it was taken: on the view from before the fold. -/
theorem foldl_view {l : List α} (hl : l.Nodup) {a : α} (ha : a ∈ l) {b : β} (hf : ∀ b a, I b → I (f b a)) (hb : I b)
    (hv : ∀ b a k, k ≠ a → v (f b a) k = v b k) : ∃ c, I c ∧ v c a = v b a ∧ v (l.foldl f b) a = v (f c a) a := by
  obtain ⟨l₁, l₂, rfl⟩ := List.append_of_mem ha
  obtain ⟨-, hl₂, hdisj⟩ := List.nodup_append.mp hl
  have h₁ : a ∉ l₁ := fun h => hdisj a h a List.mem_cons_self rfl
  refine ⟨l₁.foldl f b, foldl_invariant l₁ hf hb, foldl_view_notin b hv h₁, ?_⟩
  rw [List.foldl_append, List.foldl_cons]
  exact foldl_view_notin _ hv (List.nodup_cons.mp hl₂).1

end Folds

/-! ### The root oscillator -/

theorem Df.chan_arm_ne (d : Df) {ch k : Nat} (h : k ≠ ch) : (d.arm ch).chan k = d.chan k := by
  unfold Df.arm
  dsimp only
  split <;> exact Df.chan_setChan_ne _ _ _ _ h

theorem Df.armed_arm (d : Df) (ch : Nat) : ((d.arm ch).chan ch).armed = true := by
  unfold Df.arm
  dsimp only
  split <;> rw [Df.chan_setChan_self]

theorem Df.eff_arm (d : Df) (ch : Nat) : (d.arm ch).eff = d.eff := by
  unfold Df.arm
  dsimp only
  split <;> rfl

theorem Df.tim_arm (d : Df) (ch : Nat) : (d.arm ch).tim = d.tim := by
  unfold Df.arm
  dsimp only
  split <;> rfl

/-- The step of `armAll`. -/
def Df.armIfDue (d : Df) (ch : Nat) : Df := if d.mode ch ≠ modeOff ∧ (d.chan ch).blankEnd.isNone ∧ !(d.chan ch).armed then d.arm ch else d

theorem Df.armAll_eq (d : Df) : d.armAll = allChans.foldl Df.armIfDue d := rfl

theorem Df.chan_armIfDue_ne (d : Df) (ch k : Nat) (h : k ≠ ch) : (d.armIfDue ch).chan k = d.chan k := by
  unfold Df.armIfDue
  split
  · exact d.chan_arm_ne h
  · rfl

theorem Df.frame_armIfDue (d : Df) (ch : Nat) : (d.armIfDue ch).eff = d.eff ∧ (d.armIfDue ch).tim = d.tim := by
  unfold Df.armIfDue
  split
  · exact ⟨d.eff_arm ch, d.tim_arm ch⟩
  · exact ⟨rfl, rfl⟩

theorem Df.armed_armIfDue {d : Df} {ch : Nat} (hon : d.mode ch ≠ modeOff) (hblank : (d.chan ch).blankEnd = none) :
    ((d.armIfDue ch).chan ch).armed = true := by
  unfold Df.armIfDue
  split
  case isTrue => exact d.armed_arm ch
  case isFalse hnot => simpa [hon, hblank] using hnot

theorem nodup_allChans : allChans.Nodup := List.nodup_range

theorem mem_allChans {ch : Nat} (h : ch < 640) : ch ∈ allChans := List.mem_range.mpr h

theorem Df.tim_armAll (d : Df) : d.armAll.tim = d.tim := by
  rw [Df.armAll_eq]
  exact foldl_invariant (I := fun e : Df => e.tim = d.tim) allChans (fun e ch h => (e.frame_armIfDue ch).2.trans h) rfl

/-- Every channel that is neither OFF nor blanked is armed once all are (R84). -/
theorem Df.armed_armAll {d : Df} {ch : Nat} (hch : ch < 640) (hon : d.mode ch ≠ modeOff) (hblank : (d.chan ch).blankEnd = none) :
    (d.armAll.chan ch).armed = true := by
  obtain ⟨e, heff, hchan, hstep⟩ := foldl_view (f := Df.armIfDue) (I := fun e : Df => e.eff = d.eff) (v := Df.chan) nodup_allChans (mem_allChans hch)
    (fun e k h => (e.frame_armIfDue k).1.trans h) rfl Df.chan_armIfDue_ne
  have hmode : e.mode ch = d.mode ch := by simp only [Df.mode, Df.inForce, heff]
  rw [Df.armAll_eq, hstep]
  exact Df.armed_armIfDue (hmode ▸ hon) (hchan ▸ hblank)

/-- The step of `rootLoss` for an ordinary line, and the one for an anchor. -/
def Df.stopLine (d : Df) (ch : Nat) : Df := if (d.chan ch).armed then d.disarm ch else d
def Df.stopDll (d : Df) (k : Nat) : Df :=
  let d := if (d.chan (632 + k)).ready then d.setChan (632 + k) { d.chan (632 + k) with ready := false } else d
  if d.fld (DF.REED.ANCHOR.LOCKED k) = 1 then d.set (DF.REED.ANCHOR.LOCKED k) 0 else d

theorem Df.rootLoss_eq (d : Df) :
    d.rootLoss = (List.range 8).foldl Df.stopDll ((List.range 632).foldl Df.stopLine { d with tim := { d.tim with rootLocked := false } }) := rfl

theorem Df.chan_stopLine_ne (d : Df) (ch k : Nat) (h : k ≠ ch) : (d.stopLine ch).chan k = d.chan k := by
  unfold Df.stopLine
  split
  · exact Df.chan_setChan_ne _ _ _ _ h
  · rfl

theorem Df.armed_stopLine (d : Df) (ch : Nat) : ((d.stopLine ch).chan ch).armed = false := by
  unfold Df.stopLine
  split
  · simp [Df.disarm]
  · next h => simpa using h

theorem Df.tim_stopLine (d : Df) (ch : Nat) : (d.stopLine ch).tim = d.tim := by
  unfold Df.stopLine
  split <;> rfl

/-- What the loss of the root changes of an anchor: the bit LOCKED, and whether its channel is ready. -/
def Df.dll (d : Df) (k : Nat) : Nat × Bool := (d.fld (DF.REED.ANCHOR.LOCKED k), (d.chan (632 + k)).ready)

theorem Df.stopDll_frame (d : Df) (k : Nat) : (d.stopDll k).tim = d.tim ∧ ∀ ch, ((d.stopDll k).chan ch).armed = (d.chan ch).armed := by
  have armed (ch : Nat) : ((d.setChan (632 + k) { d.chan (632 + k) with ready := false }).chan ch).armed = (d.chan ch).armed := by
    by_cases h : ch = 632 + k
    · rw [h, Df.chan_setChan_self]
    · rw [Df.chan_setChan_ne _ _ _ _ h]
  unfold Df.stopDll
  dsimp only
  split
  · split <;> exact ⟨rfl, armed⟩
  · split <;> exact ⟨rfl, fun _ => rfl⟩

theorem Df.dll_stopDll_ne (d : Df) (j k : Nat) (h : k ≠ j) : (d.stopDll j).dll k = d.dll k := by
  have locked (e : Df) : (e.set (DF.REED.ANCHOR.LOCKED j) 0).fld (DF.REED.ANCHOR.LOCKED k) = e.fld (DF.REED.ANCHOR.LOCKED k) :=
    e.fld_set_addr _ _ 0 (by simp [DF.REED.ANCHOR.LOCKED, DF.REED.ANCHOR.addr, h])
  have other : (d.setChan (632 + j) { d.chan (632 + j) with ready := false }).chan (632 + k) = d.chan (632 + k) := Df.chan_setChan_ne _ _ _ _ (by omega)
  unfold Df.stopDll
  dsimp only
  split
  · split <;> simp [Df.dll, locked, other]
  · split <;> simp [Df.dll, locked]

theorem Df.locked_lt_two (d : Df) (k : Nat) : d.fld (DF.REED.ANCHOR.LOCKED k) < 2 := fieldOf_lt _ _ 1

theorem Df.dll_stopDll (d : Df) (k : Nat) : (d.stopDll k).dll k = (0, false) := by
  unfold Df.stopDll
  extract_lets _ e
  have hready : (e.chan (632 + k)).ready = false := by
    simp only [e]
    split
    · rw [Df.chan_setChan_self]
    · next h => simpa using h
  split
  · simp [Df.dll, e.fld_setLocked, hready]
  · have := e.locked_lt_two k
    simp only [Df.dll, hready, Prod.mk.injEq, and_true]
    omega

/-- The loss of the root stops every ordinary line and unlocks every DLL (R84, R91). -/
theorem Df.rootLoss_stops (d : Df) :
    d.rootLoss.tim.rootLocked = false ∧ (∀ ch < 632, (d.rootLoss.chan ch).armed = false) ∧ ∀ k < 8, d.rootLoss.dll k = (0, false) := by
  rw [Df.rootLoss_eq]
  generalize hd : ({ d with tim := { d.tim with rootLocked := false } } : Df) = d₀
  generalize hl : (List.range 632).foldl Df.stopLine d₀ = d₁
  have htim : d₁.tim.rootLocked = false := by
    have hkeep := foldl_invariant (I := fun e : Df => e.tim = d₀.tim) (List.range 632) (fun e ch h => (e.tim_stopLine ch).trans h) rfl
    rw [← hl, hkeep, ← hd]
  have hlines (ch : Nat) (hch : ch < 632) : (d₁.chan ch).armed = false := by
    obtain ⟨e, -, -, hstep⟩ := foldl_view (f := Df.stopLine) (I := fun _ => True) (v := Df.chan) (b := d₀) List.nodup_range (List.mem_range.mpr hch)
      (fun _ _ h => h) trivial Df.chan_stopLine_ne
    rw [← hl, hstep]
    exact e.armed_stopLine ch
  obtain ⟨htim', harmed⟩ := foldl_invariant (f := Df.stopDll) (b := d₁) (I := fun e : Df => e.tim = d₁.tim ∧ ∀ ch, (e.chan ch).armed = (d₁.chan ch).armed) (List.range 8)
    (fun e k ⟨ht, ha⟩ => ⟨(e.stopDll_frame k).1.trans ht, fun ch => ((e.stopDll_frame k).2 ch).trans (ha ch)⟩) ⟨rfl, fun _ => rfl⟩
  refine ⟨by rw [htim', htim], fun ch hch => (harmed ch).trans (hlines ch hch), fun k hk => ?_⟩
  obtain ⟨e, -, -, hstep⟩ := foldl_view (f := Df.stopDll) (I := fun _ => True) (v := Df.dll) (b := d₁) List.nodup_range (List.mem_range.mpr hk)
    (fun _ _ h => h) trivial Df.dll_stopDll_ne
  rw [hstep, e.dll_stopDll k]

theorem Df.rootReturn_run {d : Df} (h : d.state = dfRun) : d.rootReturn = Df.armAll { d with tim := { d.tim with rootLocked := true } } := if_pos h

theorem Df.rootReturn_idle {d : Df} (h : d.state ≠ dfRun) : d.rootReturn = { d with tim := { d.tim with rootLocked := true } } := if_neg h

theorem Df.rootLocked_rootReturn (d : Df) : d.rootReturn.tim.rootLocked = true := by
  by_cases h : d.state = dfRun
  · rw [Df.rootReturn_run h, Df.tim_armAll]
  · rw [Df.rootReturn_idle h]

/-! ### Injection launches -/

/-- `e` is `d` but for its channels and the count of skipped injections. -/
structure Df.InjectKeeps (d e : Df) : Prop where
  now : e.now = d.now
  eff : e.eff = d.eff
  slots : e.slots = d.slots
  fld : ∀ g : Fd, g.addr ≠ DF.AFE.INJ_SKIP.addr → e.fld g = d.fld g

section Inject
variable {d e : Df}

theorem Df.InjectKeeps.trans {a : Df} (h : d.InjectKeeps e) (h' : e.InjectKeeps a) : d.InjectKeeps a :=
  ⟨h'.now.trans h.now, h'.eff.trans h.eff, h'.slots.trans h.slots, fun g hg => (h'.fld g hg).trans (h.fld g hg)⟩

theorem Df.InjectKeeps.selects (h : d.InjectKeeps e) (q ch : Nat) : e.selects q ch = d.selects q ch := by
  have hsel := h.fld (DF.AFE.CH.INJ_SEL ch) (by simp [DF.AFE.CH.INJ_SEL, DF.AFE.CH.addr, DF.AFE.INJ_SKIP.addr]; omega)
  have hmode : e.mode ch = d.mode ch := by simp only [Df.mode, Df.inForce, h.eff]
  simp only [Df.selects, hsel, hmode]

theorem Df.InjectKeeps.tHigh (h : d.InjectKeeps e) (levels : List (Nat × Bool × Int)) (ch : Nat) : e.tHigh levels ch = d.tHigh levels ch := by
  simp only [Df.tHigh, Df.thresholdT, Df.inForce, h.eff]

theorem Df.InjectKeeps.slotArmed (h : d.InjectKeeps e) (q : Nat) : e.slotArmed q = d.slotArmed q := by
  have harmed := h.fld (DF.AFE.INJ_A.ARMED q) (by simp [DF.AFE.INJ_A.ARMED, DF.AFE.INJ_A.addr, DF.AFE.INJ_SKIP.addr]; omega)
  simp only [Df.slotArmed, harmed]

theorem Df.InjectKeeps.period (h : d.InjectKeeps e) (q : Nat) : e.fld (DF.AFE.INJ_B.PERIOD q) = d.fld (DF.AFE.INJ_B.PERIOD q) :=
  h.fld _ (by simp [DF.AFE.INJ_B.PERIOD, DF.AFE.INJ_B.addr, DF.AFE.INJ_SKIP.addr]; omega)

end Inject

theorem Df.injectOne_keeps (d : Df) (s t ch : Nat) (levels : List (Nat × Bool × Int)) : d.InjectKeeps (d.injectOne s t ch levels) := by
  unfold Df.injectOne
  dsimp only
  split
  · exact ⟨rfl, rfl, rfl, fun g hg => (Df.fld_inc_addr _ _ g hg).trans (Df.fld_setChan _ _ _ g)⟩
  · exact ⟨rfl, rfl, rfl, fun g _ => Df.fld_setChan _ _ _ g⟩

theorem Df.chan_injectOne_ne (d : Df) (s t : Nat) {ch k : Nat} (levels : List (Nat × Bool × Int)) (h : k ≠ ch) :
    (d.injectOne s t ch levels).chan k = d.chan k := by
  unfold Df.injectOne
  dsimp only
  split
  · exact (Df.chan_inc _ _ _).trans (Df.chan_setChan_ne _ _ _ _ h)
  · exact Df.chan_setChan_ne _ _ _ _ h

/-- Slot 0 gives way to no other slot: it injects a channel that is idle and low (R60). -/
theorem Df.injectOne_idle {d : Df} {t ch : Nat} {levels : List (Nat × Bool × Int)} (hidle : d.injBusy ch = false) (hlow : d.tHigh levels ch = false) :
    ((d.injectOne 0 t ch levels).chan ch).injAt = some t := by
  unfold Df.injectOne
  dsimp only
  rw [if_neg (by simp [hidle, hlow]), Df.chan_setChan_self]

/-- The step of `injectAll`. -/
def Df.injectIf (s t : Nat) (levels : List (Nat × Bool × Int)) (d : Df) (ch : Nat) : Df := if d.selects s ch then d.injectOne s t ch levels else d

theorem Df.injectAll_eq (d : Df) (s t : Nat) (levels : List (Nat × Bool × Int)) : d.injectAll s t levels = allChans.foldl (Df.injectIf s t levels) d := rfl

section Launch
variable {s t : Nat} {levels : List (Nat × Bool × Int)}

theorem Df.injectIf_keeps (d : Df) (ch : Nat) : d.InjectKeeps (d.injectIf s t levels ch) := by
  unfold Df.injectIf
  split
  · exact d.injectOne_keeps s t ch levels
  · exact ⟨rfl, rfl, rfl, fun _ _ => rfl⟩

theorem Df.chan_injectIf_ne (d : Df) (ch k : Nat) (h : k ≠ ch) : (d.injectIf s t levels ch).chan k = d.chan k := by
  unfold Df.injectIf
  split
  · exact d.chan_injectOne_ne s t levels h
  · rfl

theorem Df.injectAll_keeps (d : Df) : d.InjectKeeps (d.injectAll s t levels) := by
  rw [Df.injectAll_eq]
  exact foldl_invariant (I := d.InjectKeeps) allChans (fun e ch h => h.trans (e.injectIf_keeps ch)) ⟨rfl, rfl, rfl, fun _ _ => rfl⟩

/-- A launch sees each channel as it stands before it, for every channel is injected or skipped by itself. -/
theorem Df.chan_injectAll (d : Df) {ch : Nat} (hch : ch < 640) :
    ∃ e, d.InjectKeeps e ∧ e.chan ch = d.chan ch ∧ (d.injectAll s t levels).chan ch = (e.injectIf s t levels ch).chan ch := by
  rw [Df.injectAll_eq]
  exact foldl_view nodup_allChans (mem_allChans hch) (fun e k h => h.trans (e.injectIf_keeps k)) ⟨rfl, rfl, rfl, fun _ _ => rfl⟩ Df.chan_injectIf_ne

theorem Df.chan_injectAll_unselected {d : Df} {ch : Nat} (hch : ch < 640) (hsel : d.selects s ch = false) : (d.injectAll s t levels).chan ch = d.chan ch := by
  obtain ⟨e, hkeeps, hchan, hstep⟩ := d.chan_injectAll (s := s) (t := t) (levels := levels) hch
  rw [hstep, ← hchan, Df.injectIf, if_neg (by simp [hkeeps.selects, hsel])]

theorem Df.injAt_injectAll {d : Df} {ch : Nat} (hch : ch < 640) (hsel : d.selects 0 ch = true) (hidle : d.injBusy ch = false)
    (hlow : d.tHigh levels ch = false) : ((d.injectAll 0 t levels).chan ch).injAt = some t := by
  obtain ⟨e, hkeeps, hchan, hstep⟩ := d.chan_injectAll (s := 0) (t := t) (levels := levels) hch
  have hidle' : e.injBusy ch = false := by simpa only [Df.injBusy, hchan] using hidle
  rw [hstep, Df.injectIf, if_pos (by rw [hkeeps.selects, hsel])]
  exact Df.injectOne_idle hidle' ((hkeeps.tHigh levels ch).trans hlow)

end Launch

/-! ### The slot after its launch -/

section Fired
variable (d : Df) (q t : Nat)

theorem Df.slotFired_frame : (d.slotFired q t).now = d.now ∧ ∀ ch, (d.slotFired q t).chan ch = d.chan ch := by
  unfold Df.slotFired
  dsimp only
  split <;> exact ⟨rfl, fun _ => rfl⟩

/-- The slot holds its launch tick and its next firing, PERIOD frames on, of which 0 stands for 256 (R57). -/
theorem Df.slot_slotFired :
    FMap.get {} (d.slotFired q t).slots q =
      { FMap.get {} d.slots q with
        next := (FMap.get {} d.slots q).next + if d.fld (DF.AFE.INJ_B.PERIOD q) = 0 then 256 else d.fld (DF.AFE.INJ_B.PERIOD q)
        left := (FMap.get {} d.slots q).left.map (· - 1), lastLaunch := t } := by
  unfold Df.slotFired
  dsimp only
  split <;> exact FMap.get_put_self _ _ _ _

/-- The last firing disarms the slot. -/
theorem Df.slotArmed_slotFired_last (h : (FMap.get {} d.slots q).left = some 1) : (d.slotFired q t).slotArmed q = false := by
  unfold Df.slotFired
  dsimp only
  rw [if_pos (by simp [h]), Df.slotArmed, Df.fld_set_same _ _ _ (by simp [DF.AFE.INJ_A.ARMED])]
  rfl

theorem Df.slotArmed_slotFired_more (h : (FMap.get {} d.slots q).left ≠ some 1) : (d.slotFired q t).slotArmed q = d.slotArmed q := by
  unfold Df.slotFired
  dsimp only
  rw [if_neg (by simp [h])]
  rfl

end Fired

theorem Df.launch_armed {d : Df} {q : Nat} (levels : List (Nat × Bool × Int)) (h : d.slotArmed q = true) :
    d.launch q levels = ((d.until (d.launchTick q)).injectAll q (d.launchTick q) levels).slotFired q (d.launchTick q) := if_neg (by simp [h])

/-- Settles O17: the DLL's two bits, the folds over the lines and DLLs of a root that is lost or back, and a launch as its injections and then its slot. -/
theorem anchorsRootAndInjection : Obligations.AnchorsRootAndInjection := by
  unfold Obligations.AnchorsRootAndInjection
  refine ⟨fun n k s hroot => ?lock, fun n k s hlocked => ?unlock, fun n k s e hat => ?rearm, fun n s => ?loss, fun n s => ?back,
    fun n q th s harmed => ?launch⟩
  case lock =>
    refine ends_setDf (d := (s.df n).dllLock k) rfl fun t ht => ?_
    rw [ht, Df.dllLock_locked k hroot]
    simp [Df.fld_setLocked]
  case unlock =>
    refine ends_setDf (d := (s.df n).dllUnlock k) rfl fun t ht => ?_
    rw [ht, Df.dllUnlock_locked hlocked]
    simp [Df.fld_set_same, Df.fld_set_bits, DF.REED.ANCHOR.LOCKED, DF.REED.ANCHOR.UNLOCK]
  case rearm =>
    refine ends_setDf (d := (s.df n).anchorRearm k) rfl fun t ht => ?_
    rw [ht, Df.anchorRearm_at hat]
    simp
  case loss =>
    obtain ⟨hroot, hlines, hdlls⟩ := (s.df n).rootLoss_stops
    refine ends_setDf (d := (s.df n).rootLoss) rfl fun t ht => ?_
    rw [ht]
    exact ⟨hroot, hlines, fun k hk => Prod.mk.inj (hdlls k hk)⟩
  case back =>
    refine ends_setDf (d := (s.df n).rootReturn) rfl fun t ht => ?_
    rw [ht]
    refine ⟨(s.df n).rootLocked_rootReturn, fun hrun ch hch hon hblank => ?_, fun hidle => ?_⟩
    · rw [Df.rootReturn_run hrun]
      exact Df.armed_armAll hch hon hblank
    · rw [Df.rootReturn_idle hidle]
  case launch =>
    refine ends_setDf (d := (s.df n).launch q th) rfl fun t ht => ?_
    rw [ht, Df.launch_armed th harmed]
    have keeps := ((s.df n).until ((s.df n).launchTick q)).injectAll_keeps (s := q) (t := (s.df n).launchTick q) (levels := th)
    obtain ⟨hnow, hchan⟩ := Df.slotFired_frame (((s.df n).until ((s.df n).launchTick q)).injectAll q ((s.df n).launchTick q) th) q ((s.df n).launchTick q)
    refine ⟨hnow.trans keeps.now, ?_, ?_, fun hlast => ?_, fun hmore => ?_, fun hq ch hch hsel hbusy hlow => ?_, fun ch hch hsel => ?_⟩
    · rw [Df.slot_slotFired]
    · rw [Df.slot_slotFired, keeps.slots, keeps.period]
      rfl
    · exact Df.slotArmed_slotFired_last _ _ _ (by rw [keeps.slots]; exact hlast)
    · rw [Df.slotArmed_slotFired_more _ _ _ (by rw [keeps.slots]; exact hmore), keeps.slotArmed]
      exact harmed
    · rw [hchan, hq]
      exact Df.injAt_injectAll hch hsel hbusy hlow
    · rw [hchan]
      exact Df.chan_injectAll_unselected hch hsel

end Sys2Proof.Machine
end

section
/-! The hit stream: finished hits, the flush of a block where the tick count wraps, tussocks and the front-end ledger (R104 to R130). -/
namespace Sys2Proof.Machine

/-! ### A finished hit -/

@[simp] theorem FMap.get_upd_self {α : Type} [DecidableEq α] (d : α) (m : FMap α) (k : Nat) (f : α → α) :
    FMap.get d (FMap.upd d m k f) k = f (FMap.get d m k) := FMap.get_put_self _ _ _ _

section Account
variable (d : Df) (frame acc : Nat)

@[simp] theorem Df.chan_account (ch : Nat) : (d.account frame acc).chan ch = d.chan ch := rfl

/-- A hit counts once in the account of its frame. -/
@[simp] theorem Df.frames_account :
    FMap.get 0 (d.account frame acc).hit.frames (6 * frame + acc) = FMap.get 0 d.hit.frames (6 * frame + acc) + 1 :=
  FMap.get_upd_self 0 d.hit.frames (6 * frame + acc) (· + 1)

end Account

section HitComplete
variable {d : Df} {ch : Nat} {h : Cand} {rest : List Cand}

theorem Df.hitComplete_masked (ht : takeComplete (d.chan ch).cands = some (h, rest)) (hm : h.masked = true) :
    d.hitComplete ch = ((d.until h.doneAt).setChan ch { d.chan ch with cands := rest }).account (h.lead / 1024 / frameTicks) accMasked := by
  unfold Df.hitComplete
  dsimp only
  rw [ht]
  exact if_pos hm

theorem Df.hitComplete_full (ht : takeComplete (d.chan ch).cands = some (h, rest)) (hm : h.masked = false) (hfull : 8 ≤ (d.chan ch).derand.length) :
    d.hitComplete ch = ((d.until h.doneAt).setChan ch { d.chan ch with cands := rest }).account (h.lead / 1024 / frameTicks) accDerand := by
  unfold Df.hitComplete
  dsimp only
  rw [ht]
  exact (if_neg (by simp [hm])).trans (if_pos hfull)

theorem Df.hitComplete_enters (ht : takeComplete (d.chan ch).cands = some (h, rest)) (hm : h.masked = false) (hroom : (d.chan ch).derand.length < 8) :
    d.hitComplete ch = (d.until h.doneAt).setChan ch
      { d.chan ch with cands := rest, derand := (d.chan ch).derand ++ [⟨h.word ch, h.lead / 1024 / frameTicks, 0⟩] } := by
  unfold Df.hitComplete
  dsimp only
  rw [ht]
  exact (if_neg (by simp [hm])).trans (if_neg (Nat.not_le.mpr hroom))

end HitComplete

/-- The fields of a HIT record (R104). -/
theorem rb_hitWord (ch tick fine tot flags : Nat) :
    rb (hitWord ch tick fine tot flags) 60 4 = 1 ∧ rb (hitWord ch tick fine tot flags) 50 10 = ch % 1024 ∧
      rb (hitWord ch tick fine tot flags) 34 16 = tick % 65536 ∧ rb (hitWord ch tick fine tot flags) 24 10 = fine % 1024 ∧
      rb (hitWord ch tick fine tot flags) 8 16 = tot % 65536 ∧ rb (hitWord ch tick fine tot flags) 0 8 = flags % 256 := by
  simp only [rb, bits, hitWord, BitVec.toNat_ofNat]
  omega

/-- The seven flags of a hit fill the low bits of their byte (R105). -/
theorem Cand.flags_lt (h : Cand) : h.flags < 128 := by
  have := h.coarse.toNat_le
  have := h.inj.toNat_le
  have := h.sat.toNat_le
  have := h.pileup.toNat_le
  have := h.aged.toNat_le
  have := h.anchor.toNat_le
  have := h.clamp.toNat_le
  unfold Cand.flags
  omega

/-- Settles O18: the three ends of a finished hit, and the fields of its record. -/
theorem hitsEnterTheDerandomiser : Obligations.HitsEnterTheDerandomiser := by
  unfold Obligations.HitsEnterTheDerandomiser
  refine ⟨fun n ch s h rest ht hm hroom => ?enters, fun n ch s h rest ht hm => ?masked, fun n ch s h rest ht hm hfull => ?full, fun h ch hch => ?record⟩
  case enters =>
    refine ends_setDf (d := (s.df n).hitComplete ch) rfl fun t hdf => ?_
    rw [hdf, Df.hitComplete_enters ht hm hroom]
    simp
  case masked =>
    refine ends_setDf (d := (s.df n).hitComplete ch) rfl fun t hdf => ?_
    rw [hdf, Df.hitComplete_masked ht hm]
    exact ⟨by simp, by simp, Df.frames_account _ _ _⟩
  case full =>
    refine ends_setDf (d := (s.df n).hitComplete ch) rfl fun t hdf => ?_
    rw [hdf, Df.hitComplete_full ht hm hfull]
    exact ⟨by simp, by simp, Df.frames_account _ _ _⟩
  case record =>
    obtain ⟨hkind, hchan, htick, hfine, htot, hflags⟩ := rb_hitWord ch (h.lead / 1024) (if h.coarse then 0 else h.lead % 1024) (h.tot.getD 0) h.flags
    have hlt := h.flags_lt
    refine ⟨hkind, hchan.trans (Nat.mod_eq_of_lt (by omega)), htick, hfine.trans (Nat.mod_eq_of_lt ?_), htot, hflags.trans (Nat.mod_eq_of_lt (by omega))⟩
    split <;> omega

/-! ### O19: a record that waits while the tick count wraps -/

/-- A DF640 with lane position 0 up and its index known, whose lane queue took its only record at the last tick of the 64-bit count. -/
def waitsAtWrap : Df :=
  { ((dfFresh.set (DF.LINK.LANE.STATE 0) 5).set DF.ID.INDEX.SET 1).setPos 0 { hits := [{ since := 2 ^ 64 - 1 }] } with now := 2 ^ 64 - 1 }

theorem waitsAtWrap_open :
    (waitsAtWrap.compose 0).oldest = some (2 ^ 64 - 1) ∧ waitsAtWrap.posUp 0 = true ∧ (waitsAtWrap.pos 0).closed = none ∧
      waitsAtWrap.fld DF.ID.INDEX.SET = 1 ∧ waitsAtWrap.cmd.held = [] ∧ waitsAtWrap.cmd.waiting = none := by decide +kernel

/-- FLUSH ticks on the count has wrapped to 4,095, and compared with it the record has not yet waited. -/
theorem waitsAtWrap_stays_open : ((waitsAtWrap.flushTimeout 0).resume.pos 0).closed = none := by decide +kernel

/-- Refutes O19: its flush clause bounds neither the local count nor the entry tick of the oldest record. Where the count wraps within FLUSH of that
entry, `closeDue` compares the unwrapped tick with the wrapped count and leaves the block open. -/
theorem not_dispatchAndFlush : ¬ Obligations.DispatchAndFlush := by
  unfold Obligations.DispatchAndFlush
  rintro ⟨-, -, hflush⟩
  obtain ⟨holdest, hup, hclosed, hset, hheld, hwaiting⟩ := waitsAtWrap_open
  have hdf : (State.reset.setDf (0 : Fin 64) waitsAtWrap).df (0 : Fin 64) = waitsAtWrap := State.df_setDf_self _ _ _
  have hends := hflush 0 0 (State.reset.setDf (0 : Fin 64) waitsAtWrap) (2 ^ 64 - 1)
  simp only [hdf] at hends
  obtain ⟨hblock, -⟩ := (hends holdest hup hclosed hset hheld hwaiting).dest rfl
  rw [State.df_setDf_self, hdf] at hblock
  cases waitsAtWrap_stays_open.symm.trans hblock

/-! ### What the queues leave as it was -/

/-- `e` is `d` but for its registers, its queues, its command interpreter and the counts of the frames. -/
structure Df.QueuesOnly (d e : Df) : Prop where
  now : e.now = d.now
  tus : e.tus = d.tus
  totals : e.hit.totals = d.hit.totals
  ledgerFrame : e.hit.ledgerFrame = d.hit.ledgerFrame

theorem Df.QueuesOnly.refl (d : Df) : d.QueuesOnly d := ⟨rfl, rfl, rfl, rfl⟩

theorem Df.QueuesOnly.trans {a b c : Df} (h : a.QueuesOnly b) (h' : b.QueuesOnly c) : a.QueuesOnly c :=
  ⟨h'.now.trans h.now, h'.tus.trans h.tus, h'.totals.trans h.totals, h'.ledgerFrame.trans h.ledgerFrame⟩

section Queues
variable (d : Df)

theorem Df.queuesOnly_queueCtl (w : Rec) : d.QueuesOnly (d.queueCtl w) := by
  unfold Df.queueCtl
  split <;> exact ⟨rfl, rfl, rfl, rfl⟩

theorem Df.queuesOnly_queueLedger (f a : Nat) : d.QueuesOnly (d.queueLedger f a) := d.queuesOnly_queueCtl _ |>.trans ⟨rfl, rfl, rfl, rfl⟩

theorem Df.queuesOnly_closeBlock (p : Nat) : d.QueuesOnly (d.closeBlock p) := by
  have emitted := foldl_invariant (f := fun e h => Df.account e h.frame accEmitted) (I := d.QueuesOnly) ((d.pos p).hits.take (d.compose p).nHit)
    (fun e h he => he.trans ⟨rfl, rfl, rfl, rfl⟩) (.refl d)
  exact emitted.trans ⟨rfl, rfl, rfl, rfl⟩

theorem Df.queuesOnly_pumpPos (p : Nat) : d.QueuesOnly (d.pumpPos p) := by
  have low (e : Df) : e.QueuesOnly (e.noteLow p) := ⟨rfl, rfl, rfl, rfl⟩
  unfold Df.pumpPos
  dsimp only
  split
  · exact (d.queuesOnly_closeBlock p).trans (low _)
  · exact low d

theorem Df.queuesOnly_sendReply (ws : List Rec) : d.QueuesOnly (d.sendReply ws) := by
  unfold Df.sendReply
  split <;> exact ⟨rfl, rfl, rfl, rfl⟩

theorem Df.queuesOnly_pump : d.QueuesOnly d.pump := by
  have both := (d.queuesOnly_pumpPos 0).trans ((d.pumpPos 0).queuesOnly_pumpPos 1)
  unfold Df.pump
  dsimp only
  split
  · exact both.trans (Df.queuesOnly_sendReply _ _)
  · exact both

/-! ### The records of a slice take no time -/

theorem Df.now_queueCtl (w : Rec) : (d.queueCtl w).now = d.now := (d.queuesOnly_queueCtl w).now

theorem Df.now_queuePrim (k state s : Nat) : (d.queuePrim k state s).now = d.now := by
  unfold Df.queuePrim
  split
  · rfl
  · exact d.now_queueCtl _

theorem Df.now_queuePrims (m s : Nat) : (d.queuePrims m s).now = d.now := by
  refine foldl_invariant (I := fun e : Df => e.now = d.now) _ (fun e k he => ?_) rfl
  split
  · exact he
  · exact (e.now_queuePrim _ _ _).trans he

theorem Df.now_queueResync (cause m s : Nat) : (d.queueResync cause m s).now = d.now :=
  foldl_invariant (I := fun e : Df => e.now = d.now) _ (fun e _ he => (e.now_queueCtl _).trans he) (d.now_queueCtl _)

theorem Df.now_sliceRecords (m s : Nat) : (d.sliceRecords m s).now = d.now := by
  unfold Df.sliceRecords
  extract_lets e
  have he : e.now = d.now := by
    simp only [e]
    split
    · split
      · exact d.now_queueResync _ m s
      · exact Df.now_queuePrims _ m s
    · exact d.now_queuePrims m s
  split
  · exact (e.now_queueCtl _).trans he
  · exact he

end Queues

/-! ### Tussocks -/

/-- A sum of distinct powers of two has just their bits. -/
theorem testBit_foldl_two_pow (f : Nat → Bool) (n k : Nat) :
    ((List.range n).foldl (fun m k => if f k then m + 2 ^ k else m) 0).testBit k = (decide (k < n) && f k) := by
  induction n generalizing k with
  | zero => simp
  | succ n ih =>
    rw [List.range_succ, List.foldl_append, List.foldl_cons, List.foldl_nil]
    generalize (List.range n).foldl (fun m k => if f k then m + 2 ^ k else m) 0 = m at ih
    have hlt : m < 2 ^ n := Nat.lt_pow_two_of_testBit m fun i hi => by simp [ih, Nat.not_lt.mpr hi]
    have hor : m + 2 ^ n = 2 ^ n ||| m := by simpa [Nat.add_comm] using Nat.two_pow_add_eq_or_of_lt hlt 1
    have hbit : (if f n then m + 2 ^ n else m).testBit k = ((f n && decide (n = k)) || m.testBit k) := by
      split
      case isTrue hf => rw [hor, Nat.testBit_or, Nat.testBit_two_pow, hf, Bool.true_and]
      case isFalse hf => simp [hf]
    rw [hbit, ih]
    by_cases hk : n = k
    · simp [hk]
    · have hlt' : k < n + 1 ↔ k < n := by omega
      simp [hk, hlt']

/-- The bit map of a slice holds the state of each of the 64 tussocks (R117). -/
theorem Df.testBit_stateMap (d : Df) (s : Nat) {k : Nat} (hk : k < 64) : (d.stateMap s).testBit k = d.tussockState k s :=
  (testBit_foldl_two_pow (d.tussockState · s) 64 k).trans (by simp [hk])

/-! A state at a slice does not depend on the present tick. -/

section Until
variable (d : Df) (t : Nat)

theorem Df.crossers_until (s k lo hi : Nat) (l : List (Nat × Nat)) (acc : List Nat) :
    (d.until t).crossers s k lo hi l acc = d.crossers s k lo hi l acc := by
  have word (a : Nat) : (d.until t).tusWord s a = d.tusWord s a := rfl
  induction l generalizing acc with
  | nil => rfl
  | cons x l ih => simp only [Df.crossers, word, ih]

theorem Df.tussockState_until (k s : Nat) : (d.until t).tussockState k s = d.tussockState k s :=
  congrArg (fun l : List Nat => d.tusFld s (DF.TUS.RULE.EN k) == 1 && decide (d.tusFld s (DF.TUS.RULE.M k) ≤ l.length)) (d.crossers_until t s k _ s _ [])

theorem Df.stateMap_until (s : Nat) : (d.until t).stateMap s = d.stateMap s := by
  simp only [Df.stateMap, Df.tussockState_until]

end Until

/-- An evaluation keeps the states of its slice and goes on to the next one (R117, R118). -/
theorem Df.tussockEval_spec (d : Df) :
    d.tussockEval.tus.nextSlice = d.tus.nextSlice + 1 ∧ d.tussockEval.tus.state = d.stateMap d.tus.nextSlice ∧
      d.tussockEval.now = laterTick d.now (4 * (d.tus.nextSlice + 3)) := by
  unfold Df.tussockEval
  extract_lets s d' m e _ x
  have pumped := x.queuesOnly_pump
  have hnow : e.now = d'.now := by
    simp only [e]
    split
    · exact d'.now_sliceRecords m s
    · rfl
  have hstate : m = d.stateMap s := d.stateMap_until _ s
  rw [pumped.tus, pumped.now, ← hstate]
  exact ⟨rfl, rfl, hnow⟩

/-! ### The front-end ledger -/

theorem Df.now_settleTotals (d : Df) (f : Nat) : (d.settleTotals f).now = d.now := rfl

/-- Each running total takes in the counts of the frames up to the one settled, modulo 2^48 (R129). -/
theorem Df.totals_settleTotals (d : Df) (f : Nat) {a : Nat} (ha : a < 6) :
    FMap.get 0 (d.settleTotals f).hit.totals a = (FMap.get 0 d.hit.totals a + framesUpTo d.hit.frames f a) % 2 ^ 48 := by
  obtain ⟨m, -, hm, hstep⟩ := foldl_view (f := fun m a => FMap.put 0 m a ((FMap.get 0 m a + framesUpTo d.hit.frames f a) % 2 ^ 48))
    (I := fun _ => True) (v := FMap.get 0) (b := d.hit.totals) List.nodup_range (List.mem_range.mpr ha) (fun _ _ h => h) trivial
    fun m a k hk => FMap.get_put_ne 0 m a k _ hk
  exact hstep.trans (by rw [FMap.get_put_self, hm])

/-- The first emission settles the frames before the present one; the records that it queues leave the totals (R129, R130). -/
theorem Df.ledgerEmit_first {d : Df} (hfirst : d.hit.ledgerFrame = none) (hframe : 0 < d.frame) :
    d.ledgerEmit.hit.ledgerFrame = some d.frame ∧ d.ledgerEmit.now = laterTick d.now (d.frame * frameTicks + 16384) ∧
      ∀ a < 6, FMap.get 0 d.ledgerEmit.hit.totals a = (FMap.get 0 d.hit.totals a + framesUpTo d.hit.frames (d.frame - 1) a) % 2 ^ 48 := by
  unfold Df.ledgerEmit
  extract_lets g d' _ emitted settled queued
  have hg : g = d.frame := by simp only [g, hfirst]
  rw [if_neg (by omega), ← hg]
  have hqueued : settled.QueuesOnly queued := by
    simp only [queued]
    split
    · exact foldl_invariant (I := settled.QueuesOnly) _ (fun e a he => he.trans (e.queuesOnly_queueLedger _ a)) (.refl settled)
    · exact .refl settled
  have pumped := hqueued.trans queued.queuesOnly_pump
  have hnow : settled.now = laterTick d.now (g * frameTicks + 16384) := by
    simp only [settled, Df.now_settleTotals, emitted, d', Df.now_until]
  refine ⟨pumped.ledgerFrame, pumped.now.trans hnow, fun a ha => ?_⟩
  rw [pumped.totals]
  exact emitted.totals_settleTotals (g - 1) ha

/-- Settles O20: an evaluation by the bits of its state map, and an emission by the totals as settled. -/
theorem tussocksAndLedger : Obligations.TussocksAndLedger := by
  unfold Obligations.TussocksAndLedger
  refine ⟨fun n s => ?tussocks, fun n s hfirst hframe => ?ledger⟩
  case tussocks =>
    obtain ⟨hnext, hstate, hnow⟩ := (s.df n).tussockEval_spec
    refine ends_setDf (d := (s.df n).tussockEval) rfl fun t ht => ?_
    rw [ht]
    refine ⟨hnext, hnow, fun k hk => ?_⟩
    rw [hstate, Df.testBit_stateMap _ _ hk, Df.tussockState]
  case ledger =>
    refine ends_setDf (d := (s.df n).ledgerEmit) rfl fun t ht => ?_
    rw [ht]
    exact Df.ledgerEmit_first hfirst hframe

end Sys2Proof.Machine
end

section
/-! The record qualifier where a capture names a context beyond its mask (R275, R276). -/
namespace Sys2Proof.Machine

/-! ### O41: a run of a context that no mask covers -/

/-- The only fragment of a capture of source 4 under the sequence 0xA3C1: one run, of context 41,600, where the 1,280 words of a mask end at context 40,959. -/
def strayRun : List Rec := [0xE14000000000A3C1, 0, 0, 0, 0, 0, 0, 0x0000800000000000, 0x8A28000000000001]

/-- A DC64 with the qualifier on that holds this fragment; its mask 0, which source 4 selects, has no marked word, and word 20 of mask 1 is poisoned. -/
def poisonBeyondMask : Dc :=
  { ((((dcFresh 1).set DC.QLF.CTRL.EN 1).set DC.QLF.CTRL.HOLD_MAX 4).setSram arrMask (1280 + 20) markPoison) with qlf := { inq := [strayRun] } }

theorem poisonBeyondMask_holds :
    recTomb strayRun = false ∧ poisonBeyondMask.qlf.caps.find? (fun y => y.seq == recSeq strayRun) = none ∧ poisonBeyondMask.fld DC.QLF.CTRL.EN = 1 ∧
      strayRun.length - 8 ≤ poisonBeyondMask.fld DC.QLF.CTRL.HOLD_MAX * 8192 ∧ poisonBeyondMask.heldWords + strayRun.length ≤ holdArea ∧ recLast strayRun := by
  decide +kernel

theorem poisonBeyondMask_sample :
    (poisonBeyondMask.sampleCap strayRun).force = false ∧ (poisonBeyondMask.sampleCap strayRun).cause2 = false ∧
      (poisonBeyondMask.sampleCap strayRun).cause3 = false ∧
      poisonBeyondMask.marked arrMask (1280 * (poisonBeyondMask.sampleCap strayRun).mask) (1280 * (poisonBeyondMask.sampleCap strayRun).mask + 1280) = none ∧
      (poisonBeyondMask.sampleCap strayRun).action = 0 := by
  decide +kernel

/-- The header of the released fragment has the flag of path MEASURE. -/
theorem poisonBeyondMask_measured :
    poisonBeyondMask.qualifierArrival.qlf.out.map (·.head) = [addFlags (strayRun.take 8) 0x100] := by decide +kernel

/-- Refutes O41: its last clause promises path MASK where no word of the capture's own mask is marked, and no hypothesis keeps the contexts of the fragment
below 40,960; the run of a later context has the words of the next mask read, and a poisoned one there has the capture measured instead. -/
theorem not_qualifier : ¬ Obligations.Qualifier := by
  unfold Obligations.Qualifier
  rintro ⟨-, -, -, -, hmask⟩
  obtain ⟨htomb, hnew, hon, hwords, hroom, hlast⟩ := poisonBeyondMask_holds
  obtain ⟨hforce, hload, hbad, hclean, haction⟩ := poisonBeyondMask_sample
  have hends viol := hmask .u0 strayRun [] viol { dc0 := poisonBeyondMask } rfl htomb hnew hon hwords hroom hlast hforce hload hbad hclean haction
  obtain ⟨-, hheads, -⟩ := (hends _).dest rfl rfl
  rw [State.dc_setDc_self] at hheads
  have hflags := poisonBeyondMask_measured.symm.trans hheads
  revert hflags
  split <;> decide +kernel

end Sys2Proof.Machine
end

section
/-! Fold contexts (R292 to R295): what their work leaves as it was, and what its result depends on. -/
namespace Sys2Proof.Machine

/-! ### A command of one DC64, and fields of its registers -/

theorem ends_setDc {c : Instr} {s : State} {u : DcId} {d : Dc} {P : State → Prop} (he : exec c s = .next (s.setDc u d))
    (h : ∀ t : State, t.dc u = d → P t) : Ends c s P :=
  ⟨_, he, h _ (s.dc_setDc_self u d)⟩

/-- Setting a field leaves every field of another register alone. -/
theorem Dc.fld_set_addr (d : Dc) (f g : Fd) (v : Nat) (h : g.addr ≠ f.addr) : (d.set f v).fld g = d.fld g :=
  congrArg (fieldOf · g.lo g.width) (d.word_setWord_ne _ _ _ h)

/-- A count leaves every field of another register alone. -/
theorem Dc.fld_inc_addr (d : Dc) (f g : Fd) (h : g.addr ≠ f.addr) : (d.inc f).fld g = d.fld g := d.fld_set_addr f g _ h

theorem Dc.fld_inc_same (d : Dc) (f : Fd) (h : f.lo + f.width ≤ 32) : (d.inc f).fld f = satAdd f.width (d.fld f) 1 := d.fld_add_self f 1 h

/-! ### Fold contexts -/

section Fold
variable {d e : Dc} (x v word : Nat) (bytes : List Nat) (ws : List Rec)

/-- Setting a running value sets the two registers of its context (R292). -/
theorem Dc.regs_setFold (d : Dc) :
    (d.setFold x v).regs =
      ((d.set (DC.FOLD.VALUE_LO.VALUE x) (v % 2 ^ d.foldW x)).set (DC.FOLD.VALUE_HI.VALUE x) (v % 2 ^ d.foldW x / 2 ^ 32)).regs := by
  unfold Dc.setFold
  dsimp only
  split <;> rfl

theorem Dc.fld_congr (h : d.regs = e.regs) (f : Fd) : d.fld f = e.fld f := congrArg (fun m => fieldOf (FMap.get (dcReset f.addr) m f.addr) f.lo f.width) h

/-- `e` is `d` but for the running value of Fold context `x` and the list of folded contexts. -/
structure Dc.FoldsOnly (x : Nat) (d e : Dc) : Prop where
  qlf : e.qlf = d.qlf
  out : e.cmp.out = d.cmp.out
  fld : ∀ g : Fd, g.addr ≠ DC.FOLD.VALUE_LO.addr x → g.addr ≠ DC.FOLD.VALUE_HI.addr x → e.fld g = d.fld g

theorem Dc.foldsOnly_setFold (d : Dc) : Dc.FoldsOnly x d (d.setFold x v) := by
  have kept : (d.setFold x v).qlf = d.qlf ∧ (d.setFold x v).cmp.out = d.cmp.out := by
    unfold Dc.setFold
    dsimp only
    split <;> exact ⟨rfl, rfl⟩
  refine ⟨kept.1, kept.2, fun g hlo hhi => ?_⟩
  rw [Dc.fld_congr (d.regs_setFold x v), Dc.fld_set_addr _ _ g _ hhi, Dc.fld_set_addr _ _ g _ hlo]

theorem Dc.foldsOnly_foldHardware (d : Dc) : Dc.FoldsOnly x d (d.foldHardware x word ws).1 := by
  have start := d.foldsOnly_setFold x (d.foldInit x)
  have fold (n : Nat) := (d.setFold x (d.foldInit x)).foldsOnly_setFold x n
  exact ⟨(fold _).qlf.trans start.qlf, (fold _).out.trans start.out, fun g hlo hhi => ((fold _).fld g hlo hhi).trans (start.fld g hlo hhi)⟩

/-! The result of a fold depends on the registers alone. -/

theorem Dc.regs_set_congr (h : d.regs = e.regs) (f : Fd) (n : Nat) : (d.set f n).regs = (e.set f n).regs := by
  simp only [Dc.set, Dc.setWord, Dc.word, h]

theorem Dc.foldW_congr (h : d.regs = e.regs) : d.foldW x = e.foldW x := congrArg foldWidth (Dc.fld_congr h _)

theorem Dc.regs_setFold_congr (h : d.regs = e.regs) : (d.setFold x v).regs = (e.setFold x v).regs := by
  rw [d.regs_setFold, e.regs_setFold, Dc.foldW_congr x h]
  exact Dc.regs_set_congr (Dc.regs_set_congr h _ _) _ _

theorem Dc.foldInit_congr (h : d.regs = e.regs) : d.foldInit x = e.foldInit x := by
  simp only [Dc.foldInit, Dc.foldW_congr x h, Dc.fld_congr h]

theorem Dc.foldValue_congr (h : d.regs = e.regs) : d.foldValue x = e.foldValue x := by
  simp only [Dc.foldValue, Dc.foldW_congr x h, Dc.fld_congr h]

theorem Dc.regs_foldBytes_congr (h : d.regs = e.regs) : (d.foldBytes x bytes).regs = (e.foldBytes x bytes).regs := by
  simp only [Dc.foldBytes, Dc.foldW_congr x h, Dc.fld_congr h, Dc.foldValue_congr x h]
  exact Dc.regs_setFold_congr x _ h

theorem Dc.foldResult_congr (h : d.regs = e.regs) : d.foldResult x = e.foldResult x := by
  simp only [Dc.foldResult, Dc.foldXor, Dc.foldW_congr x h, Dc.fld_congr h, Dc.foldValue_congr x h]

theorem Dc.foldHardware_congr (h : d.regs = e.regs) : (d.foldHardware x word ws).2 = (e.foldHardware x word ws).2 := by
  simp only [Dc.foldHardware, Dc.foldInit_congr x h]
  exact Dc.foldResult_congr x (Dc.regs_foldBytes_congr x _ (Dc.regs_setFold_congr x _ h))

end Fold

end Sys2Proof.Machine
end

section
/-! The coder: the coding of a record case by case, and the coded record with its counts (R269, R271, R282, R283, R290, R291, R295). -/
namespace Sys2Proof.Machine

/-! ### The coding of a record (R271, R282, R290, R291) -/

/-- The mode of a record's stream under its sample of `DC.CMP.CTRL` (R271). -/
def QRec.mode (r : QRec) : Nat := fieldOf r.ctrl (if r.stream = 1 then 3 else 1) 2

section Coding
variable (d : Dc) {r : QRec} (fault : List (Nat × Nat))

theorem Dc.coding_off (hoff : fieldOf r.ctrl 0 1 = 0) : ∃ x, d.coding r fault = rawCoding r 1 x := ⟨_, if_pos (.inl hoff)⟩

variable (hon : fieldOf r.ctrl 0 1 = 1) (hmode : r.mode ≠ modeRaw)
include hon hmode

theorem QRec.coded_not_raw : ¬(fieldOf r.ctrl 0 1 = 0 ∨ r.mode = modeRaw) := by simp [hon, hmode]

theorem Dc.coding_empty (hbody : r.body = []) : ∃ x, d.coding r fault = rawCoding r 5 x :=
  ⟨_, (if_neg (QRec.coded_not_raw hon hmode)).trans (if_pos (by simp [hbody]))⟩

theorem Dc.coding_poisoned (hbody : r.body ≠ []) (hpoison : rb (r.head.getD 2 0) 3 1 = 1) : ∃ x, d.coding r fault = rawCoding r 2 x :=
  ⟨_, (if_neg (QRec.coded_not_raw hon hmode)).trans <| (if_neg (by simp [hbody])).trans (if_pos hpoison)⟩

variable (hbody : r.body ≠ []) (hclean : rb (r.head.getD 2 0) 3 1 = 0)
include hbody hclean

theorem Dc.coding_backlog (hlzd : r.mode = modeLzd) (hlog : r.backlog) : ∃ x, d.coding r fault = rawCoding r 6 x :=
  ⟨_, (if_neg (QRec.coded_not_raw hon hmode)).trans <| (if_neg (by simp [hbody])).trans <| (if_neg (by rw [hclean]; decide)).trans <| (if_pos hlzd).trans (if_pos hlog)⟩

/-- A body that the FRB engine takes: raw where its window is too long or the verify decoder does not give it back, else the bit string of R283. -/
theorem Dc.coding_frb (hfrb : r.mode ≠ modeLzd) : ∃ x, d.coding r fault =
    if frbSpan r.mode < (r.head.getD 5 0).toNat - (r.head.getD 4 0).toNat then rawCoding r 4 x
    else if !frbVerified r.mode r.body (frbBody r.mode r.body) fault then rawCoding r 3 x
    else { method := r.mode, body := (frbBody r.mode r.body).1, bytes := (frbBody r.mode r.body).2, lzd := x } :=
  ⟨_, (if_neg (QRec.coded_not_raw hon hmode)).trans <| (if_neg (by simp [hbody])).trans <| (if_neg (by rw [hclean]; decide)).trans (if_neg hfrb)⟩

end Coding

/-! ### The coded record (R269, R271, R291, R295) -/

/-- The words of a coded record that its check word covers. -/
def Dc.recordWords (d : Dc) (r : QRec) (fault : List (Nat × Nat)) : List Rec :=
  addFlags r.head ((d.coding r fault).method * 2 ^ 12 + (if (d.coding r fault).cause = 3 then 0x800 else 0)) ++ [(d.coding r fault).word r.stream] ++ r.qual ++
    (d.coding r fault).body

/-- A record's words folded in the context of its stream (R295). -/
def Dc.foldRecord (d : Dc) (r : QRec) (ws : List Rec) : Dc × Nat := d.foldHardware (r.stream % 2) (recFragment r.head * 2 ^ 48 + recSeq r.head) ws

/-- Without a marked word in staging area or coder the coder reads a record as it is. -/
theorem Dc.coderBite_clean {d : Dc} (r : QRec) (hdram : d.mem.dram = []) (hmarked : d.marked arrCoder 0 (2 ^ 24) = none) : d.coderBite r = (d, r) := by
  have hread (k : Nat) : d.stagedRead k r.body = (d, r.body, none) := by simp [Dc.stagedRead, hdram]
  simp only [Dc.coderBite, hread, hmarked, ite_self]
  rfl

/-- A coded record counts once, its raw cause once, and its overflow buffers leave the pool. -/
def Dc.countCoded (d : Dc) (c : Coding) : Dc :=
  let d := d.inc DC.CMP.RECORDS.COUNT
  let d := if c.cause = 0 then d else d.inc (DC.CMP.RAW.COUNT c.cause)
  if c.buffers = 0 then d else (d.inc DC.CMP.SPILLED.COUNT).set DC.CMP.POOL.FREE (d.fld DC.CMP.POOL.FREE - c.buffers)

/-- The coding of a record as the coder has read it. -/
def Dc.codeRead (d : Dc) (r : QRec) (fault : List (Nat × Nat)) : Dc :=
  let f := (d.setLzd r.stream (d.coding r fault).lzd).foldRecord r (d.recordWords r fault)
  let e := f.1.countCoded (d.coding r fault)
  { e with cmp := { e.cmp with out := e.cmp.out ++
    [{ words := d.recordWords r fault ++ [BitVec.ofNat 64 f.2], stream := r.stream, buffers := (d.coding r fault).buffers }] } }

theorem Dc.countCoded_cmp (d : Dc) (c : Coding) : (d.countCoded c).qlf = d.qlf ∧ (d.countCoded c).cmp = d.cmp := by
  unfold Dc.countCoded
  extract_lets e f
  have hf : f.qlf = d.qlf ∧ f.cmp = d.cmp := by
    simp only [f]
    split <;> exact ⟨rfl, rfl⟩
  split <;> exact hf

/-- The overflow buffers of a record change no register but `DC.CMP.SPILLED` and `DC.CMP.POOL` (R290). -/
theorem Dc.fld_countCoded (d : Dc) (c : Coding) (g : Fd) (hspill : g.addr ≠ DC.CMP.SPILLED.addr) (hpool : g.addr ≠ DC.CMP.POOL.addr) :
    (d.countCoded c).fld g = (if c.cause = 0 then d.inc DC.CMP.RECORDS.COUNT else (d.inc DC.CMP.RECORDS.COUNT).inc (DC.CMP.RAW.COUNT c.cause)).fld g := by
  unfold Dc.countCoded
  extract_lets e f
  split
  · rfl
  · exact ((f.inc DC.CMP.SPILLED.COUNT).fld_set_addr _ g _ hpool).trans (f.fld_inc_addr _ g hspill)

theorem Dc.records_countCoded (d : Dc) (c : Coding) :
    (d.countCoded c).fld DC.CMP.RECORDS.COUNT = satAdd DC.CMP.RECORDS.COUNT.width (d.fld DC.CMP.RECORDS.COUNT) 1 := by
  rw [d.fld_countCoded c _ (by decide) (by decide), ← d.fld_inc_same DC.CMP.RECORDS.COUNT (by decide)]
  split
  · rfl
  case isFalse hraw =>
    exact Dc.fld_inc_addr _ _ _ (by simp only [DC.CMP.RECORDS.COUNT, DC.CMP.RAW.COUNT, DC.CMP.RECORDS.addr, DC.CMP.RAW.addr]; omega)

theorem Dc.raw_countCoded (d : Dc) (c : Coding) (hraw : c.cause ≠ 0) (hcause : c.cause ≤ 7) :
    (d.countCoded c).fld (DC.CMP.RAW.COUNT c.cause) = satAdd (DC.CMP.RAW.COUNT c.cause).width (d.fld (DC.CMP.RAW.COUNT c.cause)) 1 := by
  have apart : (DC.CMP.RAW.COUNT c.cause).addr ≠ DC.CMP.SPILLED.addr ∧ (DC.CMP.RAW.COUNT c.cause).addr ≠ DC.CMP.POOL.addr ∧
      (DC.CMP.RAW.COUNT c.cause).addr ≠ DC.CMP.RECORDS.COUNT.addr := by
    simp only [DC.CMP.RAW.COUNT, DC.CMP.RAW.addr, DC.CMP.SPILLED.addr, DC.CMP.POOL.addr, DC.CMP.RECORDS.COUNT, DC.CMP.RECORDS.addr]
    omega
  obtain ⟨hspill, hpool, hrecords⟩ := apart
  rw [d.fld_countCoded c _ hspill hpool, if_neg hraw, Dc.fld_inc_same _ _ (by simp [DC.CMP.RAW.COUNT]), d.fld_inc_addr _ _ hrecords]

/-- The DC64 with other records waiting at the coder. -/
def Dc.withOut (d : Dc) (l : List QRec) : Dc := { d with qlf := { d.qlf with out := l } }

theorem Dc.coding_withOut (d : Dc) (l : List QRec) (r : QRec) (fault : List (Nat × Nat)) : (d.withOut l).coding r fault = d.coding r fault := rfl

theorem Dc.recordWords_withOut (d : Dc) (l : List QRec) (r : QRec) (fault : List (Nat × Nat)) : (d.withOut l).recordWords r fault = d.recordWords r fault := rfl

theorem Dc.foldRecord_withOut (d : Dc) (l : List QRec) (r : QRec) (ws : List Rec) : ((d.withOut l).foldRecord r ws).2 = (d.foldRecord r ws).2 :=
  Dc.foldHardware_congr _ _ _ rfl

theorem Dc.codeRecord_cons {d : Dc} {r : QRec} {rest : List QRec} (fault : List (Nat × Nat)) (hout : d.qlf.out = r :: rest) :
    d.codeRecord fault = ((d.withOut rest).coderBite r).1.codeRead ((d.withOut rest).coderBite r).2 fault := by
  unfold Dc.codeRecord
  rw [hout]
  rfl

/-- A Fold context's running value lies in no register of the coder. -/
theorem foldValue_apart (x : Nat) {a : Nat} (ha : a < 0x9000) : a ≠ DC.FOLD.VALUE_LO.addr x ∧ a ≠ DC.FOLD.VALUE_HI.addr x := by
  simp only [DC.FOLD.VALUE_LO.addr, DC.FOLD.VALUE_HI.addr]
  omega

/-- Coding a record as it was read appends it with its check word, and counts it and its raw cause. -/
theorem Dc.codeRead_spec (d : Dc) (r : QRec) (fault : List (Nat × Nat)) :
    (d.codeRead r fault).qlf = d.qlf ∧
      (d.codeRead r fault).cmp.out = d.cmp.out ++
        [{ words := d.recordWords r fault ++ [BitVec.ofNat 64 (d.foldRecord r (d.recordWords r fault)).2], stream := r.stream,
           buffers := (d.coding r fault).buffers }] ∧
      (d.codeRead r fault).fld DC.CMP.RECORDS.COUNT = satAdd DC.CMP.RECORDS.COUNT.width (d.fld DC.CMP.RECORDS.COUNT) 1 ∧
      ((d.coding r fault).cause ≠ 0 → (d.coding r fault).cause ≤ 7 → (d.codeRead r fault).fld (DC.CMP.RAW.COUNT (d.coding r fault).cause) =
        satAdd (DC.CMP.RAW.COUNT (d.coding r fault).cause).width (d.fld (DC.CMP.RAW.COUNT (d.coding r fault).cause)) 1) := by
  unfold Dc.codeRead
  extract_lets f e
  have folds : Dc.FoldsOnly (r.stream % 2) d f.1 := by
    obtain ⟨hqlf, hout, hfld⟩ := (d.setLzd r.stream (d.coding r fault).lzd).foldsOnly_foldHardware (r.stream % 2)
      (recFragment r.head * 2 ^ 48 + recSeq r.head) (d.recordWords r fault)
    exact ⟨hqlf, hout, hfld⟩
  have hcheck : f.2 = (d.foldRecord r (d.recordWords r fault)).2 := Dc.foldHardware_congr _ _ _ rfl
  obtain ⟨hqlf, hcmp⟩ := f.1.countCoded_cmp (d.coding r fault)
  have kept {g : Fd} (hg : g.addr < 0x9000) : f.1.fld g = d.fld g :=
    folds.fld g (foldValue_apart _ hg).1 (foldValue_apart _ hg).2
  refine ⟨hqlf.trans folds.qlf, ?out, ?records, fun hraw hcause => ?raw⟩
  case out => rw [show e.cmp = f.1.cmp from hcmp, folds.out, hcheck]
  case records =>
    rw [← kept (by decide)]
    exact f.1.records_countCoded _
  case raw =>
    rw [← kept (by simp only [DC.CMP.RAW.COUNT, DC.CMP.RAW.addr]; omega)]
    exact f.1.raw_countCoded _ hraw hcause

/-- Settles O42: the record by how it is read, coded and counted, and the bodies by the cases of the coding. -/
theorem coder : Obligations.Coder := by
  unfold Obligations.Coder
  refine ⟨fun u fault r rest s hout hdram hmarked => ?record, fun d r fault hoff => ?off, fun d r fault mode hon hmode hcoded => ?raw,
    fun d r fault mode hon hmode hfrb hbody hclean => ?frb⟩
  case record =>
    refine ends_setDc (d := (s.dc u).codeRecord fault) rfl fun t ht => ?_
    rw [ht, Dc.codeRecord_cons fault hout, Dc.coderBite_clean (d := (s.dc u).withOut rest) r hdram hmarked]
    obtain ⟨hqlf, hrecord, hcounts⟩ := ((s.dc u).withOut rest).codeRead_spec r fault
    rw [Dc.recordWords_withOut, Dc.foldRecord_withOut, Dc.coding_withOut] at hrecord
    exact ⟨congrArg (·.out) hqlf, hrecord, hcounts⟩
  case off =>
    obtain ⟨x, hx⟩ := d.coding_off fault hoff
    rw [hx]
    exact ⟨rfl, rfl, rfl, rfl⟩
  case raw =>
    subst hmode
    refine ⟨fun hbody => ?_, fun hbody hpoison => ?_, fun hbody hclean hlzd hlog => ?_⟩
    · obtain ⟨x, hx⟩ := d.coding_empty fault hon hcoded hbody
      rw [hx]
      rfl
    · obtain ⟨x, hx⟩ := d.coding_poisoned fault hon hcoded hbody hpoison
      rw [hx]
      rfl
    · obtain ⟨x, hx⟩ := d.coding_backlog fault hon hcoded hbody hclean hlzd hlog
      rw [hx]
      rfl
  case frb =>
    have hcoded : mode ≠ modeRaw ∧ mode ≠ modeLzd := by
      rcases hfrb with rfl | rfl <;> decide
    replace hmode : mode = r.mode := hmode
    subst hmode
    obtain ⟨x, hx⟩ := d.coding_frb fault hon hcoded.1 hbody hclean hcoded.2
    by_cases hlong : frbSpan r.mode < (r.head.getD 5 0).toNat - (r.head.getD 4 0).toNat
    · rw [if_pos hlong, hx, if_pos hlong]
      rfl
    · rw [if_neg hlong, hx, if_neg hlong]
      cases frbVerified r.mode r.body (frbBody r.mode r.body) fault
      case false => exact ⟨rfl, rfl⟩
      case true => exact ⟨rfl, rfl, rfl, rfl⟩

end Sys2Proof.Machine
end
